-- ==== Sys2Proof/Word.lean ====
section
/-! DEFINITION. The word types: a byte, as frames, readings, records and the host's commands carry them. Every other
quantity of the station is a number with a stated range, held as `Nat` (or `Int` where the spec says signed). -/

namespace Sys2Proof

/-- One byte on the site line, the meter link or the local port. -/
abbrev Byte := BitVec 8

end Sys2Proof
end

