-- ==== Sys2Proof/Syntax.lean ====
section
/-! DEFINITION. The commands: one constructor of `Instr` for each row of spec/opcode_table.json, with its operands. -/

namespace Sys2Proof

/-- The roles of a station (00_scope section 1.1); a role byte codes them 0, 1, 2 (R195). -/
inductive Role where
  | set | board | tanker
  deriving DecidableEq, Repr

/-- A frame of another station as the receiver reads it (R3), its kind apart: priority class, sender, destination and
body bytes. -/
structure RxFrame where
  cls : Nat
  sender : Nat
  dest : Nat
  body : List Byte
  deriving DecidableEq, Repr

/-- What the station measures at a local second: the ten loop samples in µA (R116), the levels of the three live senses
FI4..FI6 (R92), and whether the backup stands at or above the retention threshold (R181). -/
structure SecondInputs where
  loop : List Nat
  live1 : Bool
  live2 : Bool
  live3 : Bool
  backupGood : Bool
  deriving DecidableEq, Repr

/-- The four relay coils of a SET, in the order of FO1..FO4 (R49, R198). -/
inductive Output where
  | runOn | runOff | brkClose | brkOpen
  deriving DecidableEq, Repr

/-- The commands of the block. -/
inductive Instr where
  -- supplies and reset
  | powerUp (latchKept : Bool)
  | resetPin
  | mainSupplyLoss
  | backupBelowThreshold
  | localSecond (inputs : SecondInputs)
  -- the site line
  | busFree
  | arbitrationLoss
  | bitError
  | frameSent
  | frameSpoilt (bits : List Bool)
  | goodFrame (kind : Byte) (f : RxFrame)
  | dry (f : RxFrame)
  | take (f : RxFrame)
  | takeReply (f : RxFrame)
  | commit (f : RxFrame)
  | left (f : RxFrame)
  | release (f : RxFrame)
  | close (f : RxFrame)
  | claim (f : RxFrame)
  | allot (f : RxFrame)
  | deliverOpen (f : RxFrame)
  | deliverAck (f : RxFrame)
  | docket (f : RxFrame)
  | deliverResult (f : RxFrame)
  | status (f : RxFrame)
  -- peers and the own STATUS
  | peerStale (station : Nat)
  | peerLost (station : Nat)
  | statusIntervalExpiry
  -- metering
  | meterReading (chars : List Byte)
  | meterReadingTimeout
  | channelStalled (channel : Nat)
  | channelLost (channel : Nat)
  -- set duty
  | engineReadyChange (level : Bool)
  | breakerFeedbackChange (level : Bool)
  | engineFaultInputChange (level : Bool)
  | relayPulseEnd (coil : Output)
  | startTimeoutExpiry
  | warmupExpiry
  | idleStopExpiry
  | cooldownExpiry
  | unloadLimitExpiry
  | disagreementCountExpiry
  | overloadCountExpiry
  | burnSilenceExpiry
  | resHoldExpiry (board : Nat)
  -- stage changeover
  | closedFeedbackChange (pos : Nat) (level : Bool)
  | liveStateChange (pos : Nat) (level : Bool)
  | switchCommandTimeout
  | takeResend
  | waitingTimeout
  | deadTimeExpiry
  | retryTimerExpiry
  | dwellTimerExpiry
  -- fuel
  | burnPulse
  | inletPulse
  | dispensePulse
  | loopQualified
  | matchingExpiry
  | minuteEnd
  -- deliveries
  | inletWatchExpiry
  | quietCountExpiry
  | settleTimerExpiry
  | openingTimeout
  | docketRepeat
  | resultMissing
  | unbookedRunEnd
  -- settlement
  | periodEnd
  | claimWindowEnd
  | claimWaitExpiry (place : Nat)
  | waitingCloseLapse (place : Nat)
  -- the local port
  | nop (bytes : List Byte)
  | commandFrameDiscarded (bytes : List Byte)
  | unknownCommand (code : Byte) (params : List Byte)
  | replyReady
  | writeConfig (params : List Byte)
  | start (params : List Byte)
  | readStatus (params : List Byte)
  | readPeer (params : List Byte)
  | readTotals (params : List Byte)
  | readRecord (params : List Byte)
  | removeRecord (params : List Byte)
  | mode (arg : List Byte)
  | stopForce (arg : List Byte)
  | changeover (arg : List Byte)
  | abort (arg : List Byte)
  | deliveryBegin (arg : List Byte)
  | deliveryEnd (arg : List Byte)
  | load (arg : List Byte)
  | ackFault (params : List Byte)
  | clearFault (params : List Byte)
  | warmRestart (params : List Byte)
  | resetHeldLow
  | requestCodeOutOfRange (params : List Byte)
  deriving DecidableEq, Repr

end Sys2Proof
end

