-- ==== Sys2Proof/Decode.lean ====
section
/-! DEFINITION. The command a word spells. The rows of spec/opcode_table.json carry no bits, so no word spells one
(log 32). -/

namespace Sys2Proof

/-- The command that the bits of a row spell: no row has bits. -/
def decodeTableWord (_nbits _w : Nat) : Option Instr := none

end Sys2Proof
end

