-- ==== Sys2Proof/Config.lean ====
section
/-! DEFINITION. The free values: what the spec leaves open and the model does not choose. Each is a constant without a
body, so that nothing proved of the model rests on a value of it. -/

namespace Sys2Proof.Config

/-- A byte of the reply buffer, other than its status byte, while the status reads NOT_READY: "its other bytes are
undefined" (R186). The first argument numbers the command taken, the second the byte. UNSTATED by the spec: log 12. -/
opaque undefinedReplyByte : Nat → Nat → Byte

/-- The value a 32-bit count takes when it would pass the top of its range and the spec states neither a stop nor a
wrap. The argument is the state's free-value counter. UNSTATED by the spec: log 14. -/
opaque pastTheTop : Nat → BitVec 32

/-- The rank, among the checks of R176, of a check code that R176 does not list. UNSTATED by the spec: log 25. -/
opaque unlistedCheckRank : Nat → Nat

/-- The two bytes in which a figure above 65535 is sent, where the spec gives its field two bytes and states neither a stop
nor a wrap: a power (R195), the not-allotted and not-done counts of a carry (R175, R176). UNSTATED by the spec: logs 14,
24. -/
opaque wideTwo : Nat → BitVec 16

/-- The four bytes in which a figure above 4,294,967,295 is sent: a claim C that is the accounts' sum (R162). UNSTATED by
the spec: log 14. -/
opaque wideFour : Nat → BitVec 32

/-- The four bytes in which a signed figure outside -2,147,483,648 to 2,147,483,647 is sent: a variance, rise or step (R140,
R141). UNSTATED by the spec: log 14. -/
opaque wideSigned : Int → BitVec 32

end Sys2Proof.Config
end

