-- ==== Sys2Proof/Machine/State.lean ====
section
/-! DEFINITION. The state of the station as plain data: every piece of state the spec gives it, block by block, the
reasons a step can stop, and the state after reset. INVENTORY.md lists each item with its rule. -/

namespace Sys2Proof.Machine

/-! ## Why a step can stop -/

/-- The station has no event that stops it: no rule of the spec names one, so no meaning faults. -/
inductive Fault where
  deriving DecidableEq, Repr

/-- Reasons for which the model gives a command no meaning. -/
inductive Refusal where
  /-- Raised by `exec` alone, for a row not modelled yet; safe: a claim about the row cannot be proved. No arm of this
  model uses it. -/
  | notModelled (mnemonic : String)
  deriving DecidableEq, Repr

/-! ## Local port and configuration (chapter 11) -/

/-- The station states (R188). -/
inductive StationState where
  | unconfigured | run
  deriving DecidableEq, Repr

/-- One point of the strapping table: level in mm, volume in cl (R120). -/
structure StrapPoint where
  level : Nat
  volume : Nat
  deriving DecidableEq, Repr

/-- The configuration image (section 11.3). An unwritten item is `none`; defaults are applied where an item is read.
LINE_RATE holds its code: 0, 1, 2 for 31.25, 62.5, 125 kbit/s. -/
structure Image where
  station : Option Nat
  role : Option Role
  lineRate : Nat
  statusInterval : Option Nat
  rated : Option Nat
  margin : Option Nat
  startTimeout : Option Nat
  warmup : Option Nat
  cooldown : Option Nat
  idleStop : Option Nat
  unloadLimit : Option Nat
  resHold : Option Nat
  period : Option Nat
  claimWindow : Option Nat
  kBurn : Option Nat
  kInlet : Option Nat
  calEmpty : Option Nat
  calFull : Option Nat
  span : Option Nat
  levelFilter : Option Nat
  strapCount : Option Nat
  strap : List (Option StrapPoint)
  reserve : Option Nat
  dryWarn : Option Nat
  captureBand : Option Nat
  reactTankEmpty : Option Nat
  reactLevelLoop : Option Nat
  reactBurnSilent : Option Nat
  reactMeterLost : Option Nat
  reactOverload : Option Nat
  defaultMode : Option Nat
  posSet : List (Option Nat)
  preference : Option (List Nat)
  deadTime : Option Nat
  accounts : Option Nat
  followDry : Option Nat
  autoRestore : Option Nat
  retryInterval : Option Nat
  stageLoadDefault : Option Nat
  kDispense : Option Nat
  deriving DecidableEq, Repr

/-- The reply codes (R189). -/
inductive ReplyCode where
  | ok | state | range | role | sequence | committed | none | unknown
  deriving DecidableEq, Repr

/-- The reply buffer (R186): status, command code answered, reply counter, reply code, payload. -/
structure ReplyBuffer where
  ready : Bool
  command : Nat
  counter : Nat
  code : ReplyCode
  payload : List Byte
  deriving DecidableEq, Repr

/-- The local port: reply buffer and last START refusal (R186, R191). `taken` numbers the commands taken; it is the
model's own, the argument of the free bytes of R186 (log 12). -/
structure Port where
  reply : ReplyBuffer
  startRefusal : Option Nat
  taken : Nat
  deriving DecidableEq, Repr

/-! ## The site line (chapter 1) and the peer table (chapter 2) -/

/-- A SET's STATUS fields as sent (section 1.8), enumerated fields as their codes. -/
structure SetStatus where
  duty : Nat
  mode : Nat
  rated : Nat
  output : Nat
  headroom : Nat
  period : Nat
  content : Nat
  tte : Nat
  flags : Nat
  deriving DecidableEq, Repr

/-- A BOARD's STATUS fields as sent (section 1.8). -/
structure BoardStatus where
  state : Nat
  closed : Nat
  feeding : Nat
  load : Nat
  flags : Nat
  deriving DecidableEq, Repr

/-- A TANKER's STATUS fields as sent (section 1.8). -/
structure TankerStatus where
  state : Nat
  target : Nat
  content : Nat
  deriving DecidableEq, Repr

/-- A STATUS body: the role, then the role's fields. -/
inductive StatusBody where
  | set (b : SetStatus)
  | board (b : BoardStatus)
  | tanker (b : TankerStatus)
  deriving DecidableEq, Repr

/-- The frame kinds of the catalogue (section 1.8). -/
inductive Kind where
  | dry | take | takeReply | commit | left | release | close | claim | allot
  | deliverOpen | deliverAck | docket | deliverResult | status
  deriving DecidableEq, Repr

/-- The fields of each frame body in the order they are sent (section 1.8), enumerated fields as their codes. -/
inductive Body where
  | dry (tte content : Nat)
  | take (ticket load reason : Nat)
  | takeReply (ticket verdict reason headroom hold : Nat)
  | commit (ticket load : Nat)
  | left (ticket : Nat)
  | release (ticket : Nat)
  | close (period fuel energy window again : Nat)
  | claim (period energy attempt : Nat)
  | allot (period fuel outcome : Nat)
  | deliverOpen (docket : Nat)
  | deliverAck (docket answer : Nat)
  | docket (docket dispensed : Nat)
  | deliverResult (docket meterCheck levelCheck inlet : Nat) (rise : Int)
  | status (b : StatusBody)
  deriving DecidableEq, Repr

/-- A frame of the transmit queue (R11): destination, body, failed attempts (R7), and whether it is on the line. -/
structure TxFrame where
  dest : Nat
  body : Body
  attempts : Nat
  onLine : Bool
  deriving DecidableEq, Repr

/-- The line as the station follows it (R5, R6, R7, section 1.7): waiting for bus-free, bus-free, receiving the frame that
won an arbitration, sending a frame, driving an abort burst. A frame begun in bus-free is one step (log 9). -/
inductive LinePhase where
  | waiting | free | receiving | sending | burst
  deriving DecidableEq, Repr

/-- The line controller: transmit queue in its order, head first; the older STATUS still on the line after a newer one
took its place (R12); phase; listen-only flag (R14); seconds since the station last posted a STATUS (R25). -/
structure LineCtl where
  queue : List TxFrame
  older : Option TxFrame
  phase : LinePhase
  listenOnly : Bool
  statusTimer : Option Nat
  deriving DecidableEq, Repr

/-- Ageing grades of a peer (R23). -/
inductive Freshness where
  | fresh | stale | lost
  deriving DecidableEq, Repr

/-- One entry of the peer table (R20). A role of `none` is UNKNOWN; 65535 seconds also mean "no STATUS heard". -/
structure Peer where
  station : Nat
  role : Option Role
  fresh : Freshness
  since : Nat
  body : Option StatusBody
  deriving DecidableEq, Repr

/-! ## Metering (chapter 3) -/

/-- Channel states (R35). -/
inductive ChanState where
  | noData | active | stalled | lost
  deriving DecidableEq, Repr

/-- A channel record (R35). The window holds its ten values oldest first; the averages are computed from it, and the
stale flag is "the state is LOST". -/
structure Channel where
  state : ChanState
  stamp : Option Nat
  power : Option Nat
  silence : Nat
  ws : Nat
  wh : Nat
  window : List Nat
  peak : Nat
  unmetered : Nat
  deriving DecidableEq, Repr

/-- The metering unit: channels 0..12 and the link error count (R32, R35), and the characters of the reading that the
meter link has begun, none while it waits for a sync character (R197); `linkOld` says that a restart has fallen into that
reading, which is then not taken (R46). -/
structure Metering where
  channels : List Channel
  linkErrors : Nat
  link : List Byte
  linkOld : Bool
  deriving DecidableEq, Repr

/-! ## Set duty (chapter 4) and headroom (chapter 5) -/

/-- Duty states (R48). -/
inductive DutyState where
  | off | starting | warming | ready | unloading | cooling | fault
  deriving DecidableEq, Repr

/-- Cooling origins (R48). -/
inductive Origin where
  | idle | stopping
  deriving DecidableEq, Repr

/-- Run modes (R48). -/
inductive RunMode where
  | auto | prime | stop
  deriving DecidableEq, Repr

/-- Fault classes of a SET, in the order of R60. -/
inductive FaultClass where
  | tankEmpty | levelLoop | burnSilent | meterLost | overload | engineFault | breaker | startFail
  deriving DecidableEq, Repr

/-- A fault list entry (R64); `present` is the field Condition. -/
structure FaultEntry where
  cls : FaultClass
  raisedAt : Nat
  present : Bool
  acked : Bool
  deriving DecidableEq, Repr

/-- A feed list entry (R68). -/
structure FeedEntry where
  board : Nat
  load : Nat
  confirmed : Bool
  joined : Nat
  deriving DecidableEq, Repr

/-- The duty controller (R48). `conditions` are the fault classes whose condition is present (R61). -/
structure Duty where
  state : DutyState
  origin : Option Origin
  mode : RunMode
  runOn : Bool
  brkClosed : Bool
  timer : Nat
  idle : Nat
  stallNoted : Bool
  disagree : Nat
  overload : Nat
  burnSilence : Nat
  conditions : List FaultClass
  faults : List FaultEntry
  feed : List FeedEntry
  overflow : List Nat
  starts : Nat
  runSeconds : Nat
  deriving DecidableEq, Repr

/-- The relay pulses under way: on the engine relay and on the breaker relay (R49). -/
structure Pulses where
  engine : Option Output
  breaker : Option Output
  deriving DecidableEq, Repr

/-- A reservation list entry (R76): GRANTED with its hold remaining, or PENDING where `hold` is absent. -/
structure Reservation where
  board : Nat
  ticket : Nat
  load : Nat
  hold : Option Nat
  deriving DecidableEq, Repr

/-! ## Stage changeover (chapter 6) -/

/-- Changeover states (R90). -/
inductive ChgState where
  | idle | seeking | waiting | breaking | dead | making | committing | locked
  deriving DecidableEq, Repr

/-- Live states of a position (R90, R92). -/
inductive LiveState where
  | unsettled | live | notLive
  deriving DecidableEq, Repr

/-- Switch commands (R93). -/
inductive SwitchCmd where
  | openAll
  | closeTo (pos : Nat)
  deriving DecidableEq, Repr

/-- Reasons of an attempt, in the order of section 1.8's TAKE reasons. -/
inductive Reason where
  | planned | dry | dead | unload | restore
  deriving DecidableEq, Repr

/-- Causes of a switch fault (R94). -/
inductive SwitchFault where
  | noOpen | noClose | twoClosed | wrongPosition | uncommanded
  deriving DecidableEq, Repr

/-- Outcomes of an attempt (R112). -/
inductive ChgOutcome where
  | done | returned | allRefused | aborted | switchFault | targetDead
  deriving DecidableEq, Repr

/-- The attempt under way (R90). The last three fields are the model's own (log 29): `owed`, whether a TAKE has been
answered GRANT or PENDING and not yet released (R94); `asked`, the last position a TAKE was posted for, 0 for none
(R112); `returning`, whether MAKING closes the old position again (R107). -/
structure Attempt where
  reason : Reason
  fromPos : Nat
  oldPos : Nat
  estimate : Nat
  candidates : List Nat
  cursor : Nat
  ticket : Nat
  sends : Nat
  timer : Nat
  unfed : Nat
  owed : Bool
  asked : Nat
  returning : Bool
  deriving DecidableEq, Repr

/-- The changeover controller (R90). The closed position is computed from the feedbacks. -/
structure Changeover where
  state : ChgState
  live : List LiveState
  cmd : Option SwitchCmd
  held : Nat
  lastLive : Option Nat
  attempt : Option Attempt
  ticket : Nat
  retry : Option (Nat × Reason)
  dwell : Option Nat
  dryNote : Option Nat
  fault : Option SwitchFault
  quiet : Option Reason
  deriving DecidableEq, Repr

/-! ## Tank (chapter 7) -/

/-- Classes of a loop second (R116). -/
inductive LoopClass where
  | opened | under | inRange | over | fault
  deriving DecidableEq, Repr

/-- Content modes (R123). -/
inductive ContentMode where
  | unknown | live | held | matching
  deriving DecidableEq, Repr

/-- The causes of a BAD loop (R115). -/
inductive BadCause where
  | opened | fault
  deriving DecidableEq, Repr

/-- The hold record (R124). -/
structure Hold where
  content : Nat
  burn : Nat
  inlet : Nat
  start : Nat
  cause : BadCause
  deriving DecidableEq, Repr

/-- Which part of the tank monitor's second is still to come, where a step of its own stands in it: the model's own
(log 16). -/
inductive TankStage where
  | qualifying   -- LOOP_QUALIFIED, then content and what follows
  | matching     -- MATCHING_EXPIRY, then the minute and what follows
  | minute       -- MINUTE_END, then TTE, empty state and dry flag
  deriving DecidableEq, Repr

/-- The tank monitor (R115). The lifetime cl are derived from the pulses (R121), the rate from the buckets (R127). -/
structure Tank where
  loopValue : Nat
  loopClass : LoopClass
  good : Bool
  badCause : Option BadCause
  qualifying : Nat
  filter : List Nat
  liveLevel : Option Nat
  liveContent : Option Nat
  mode : ContentMode
  hold : Option Hold
  matching : Nat
  reported : Nat
  burnPulses : Nat
  inletPulses : Nat
  minuteStart : Nat
  minuteSeconds : Nat
  buckets : List Nat
  tte : Nat
  empty : Bool
  dry : Bool
  stage : Option TankStage
  deriving DecidableEq, Repr

/-! ## Deliveries (chapter 8) -/

/-- Figures read at one moment, as a session or a watch is anchored on them (R134): time, lifetime inlet and burn cl,
reported content, content mode. -/
structure Anchor where
  time : Nat
  inlet : Nat
  burn : Nat
  content : Nat
  mode : ContentMode
  deriving DecidableEq, Repr

/-- Phases of a session (R134). -/
inductive Phase where
  | opened | quiet | settling
  deriving DecidableEq, Repr

/-- The delivery session (R134). ANNOUNCED where `tanker` is present. Content before is the anchor's content,
unavailable where the anchor's mode is not LIVE. -/
structure Session where
  tanker : Option Nat
  docket : Option Nat
  dispensed : Option Nat
  anchor : Anchor
  phase : Phase
  quiet : Nat
  settle : Nat
  deriving DecidableEq, Repr

/-- The inlet watch (R134, R136): its anchor and the seconds it has stood. -/
structure Watch where
  anchor : Anchor
  age : Nat
  deriving DecidableEq, Repr

/-- The last result (R134): the tanker, and the fields of the DELIVER_RESULT. -/
structure LastResult where
  tanker : Nat
  docket : Nat
  meterCheck : Nat
  levelCheck : Nat
  inlet : Nat
  rise : Int
  deriving DecidableEq, Repr

/-- The SET's delivery unit (R134). `now` and `before` are the figures of the last two local seconds, which R136 and
R137 compare: the model's own (log 26). -/
structure SetDelivery where
  session : Option Session
  watch : Option Watch
  last : Option LastResult
  now : Option Anchor
  before : Option Anchor
  deriving DecidableEq, Repr

/-- Delivery states of a TANKER (R142). -/
inductive TankerState where
  | idle | opening | dispensing | closing
  deriving DecidableEq, Repr

/-- The open delivery (R142). -/
structure OpenDelivery where
  target : Nat
  docket : Nat
  begin : Nat
  attempts : Nat
  timer : Nat
  again : Bool
  dispensed : Option Nat
  deriving DecidableEq, Repr

/-- An unbooked dispense run (R145): start time, dispense cl before the first change, seconds without change. -/
structure UnbookedRun where
  start : Nat
  before : Nat
  quiet : Nat
  deriving DecidableEq, Repr

/-- The TANKER's delivery unit (R142). -/
structure Tanker where
  state : TankerState
  delivery : Option OpenDelivery
  nextDocket : Nat
  loadFigure : Nat
  loadAnchor : Nat
  pulses : Nat
  run : Option UnbookedRun
  deriving DecidableEq, Repr

/-! ## Settlement (chapter 9) -/

/-- The open period of a SET (R148): number, elapsed, the three snapshots, idle seconds, interrupted. -/
structure OpenPeriod where
  period : Nat
  elapsed : Nat
  burn : Nat
  output : Nat
  run : Nat
  idle : Nat
  interrupted : Bool
  deriving DecidableEq, Repr

/-- A closed period not yet apportioned (R148). -/
structure ClosedPeriod where
  period : Nat
  fuel : Nat
  energy : Nat
  run : Nat
  idle : Nat
  interrupted : Bool
  deriving DecidableEq, Repr

/-- A claim list entry (R148); its share exists from the apportionment on, in the last allotments. -/
structure Claim where
  board : Nat
  energy : Nat
  deriving DecidableEq, Repr

/-- The last allotments (R148): the period, and each board with its share. -/
structure LastAllotments where
  period : Nat
  shares : List (Nat × Nat)
  deriving DecidableEq, Repr

/-- The SET's settlement unit (R148). `putOff` is the model's own: a period end that R155 puts off until the closed
period is apportioned (log 20). -/
structure SetSettlement where
  opened : Option OpenPeriod
  closed : Option ClosedPeriod
  window : Option Nat
  claims : List Claim
  last : Option LastAllotments
  late : Nat
  putOff : Bool
  deriving DecidableEq, Repr

/-- States of a settlement table entry (R156). -/
inductive EntryState where
  | current | waitingClose | claimed
  deriving DecidableEq, Repr

/-- A settlement table entry (R156). `wh` and `peaks` hold one figure for each of accounts 1..12. -/
structure Entry where
  set : Nat
  pos : Nat
  period : Nat
  state : EntryState
  incomer : Nat
  wh : List Nat
  peaks : List Nat
  incomerLost : Bool
  unmetered : Nat
  openedAt : Nat
  age : Nat
  claim : Option Nat
  attempt : Option Nat
  wait : Nat
  waitLength : Nat
  deriving DecidableEq, Repr

/-- The BOARD's settlement unit (R156): table oldest first, unattributed Wh, last closed heard by set. -/
structure BoardSettlement where
  table : List Entry
  unattributed : Nat
  lastClosed : List (Nat × Nat)
  deriving DecidableEq, Repr

/-! ## Records (chapter 10) -/

/-- Causes of a retention loss (R182). -/
inductive LossCause where
  | backup | check
  deriving DecidableEq, Repr

/-- Causes of a dropped frame (R7, R13). -/
inductive DropCause where
  | attempts | queueFull
  deriving DecidableEq, Repr

/-- The events of the table under R171, each with what it carries beyond its header. -/
inductive Event where
  | retainLost (cause : LossCause)
  | duplicateStation (station : Nat)
  | txDropped (kind dest : Nat) (cause : DropCause)
  | faultRaised (cls : FaultClass) (duty : DutyState)
  | meterLostRaised (channel : Nat)
  | switchFaultRaised (cause : SwitchFault) (feedbacks : List Bool)
  | faultCleared (cls : FaultClass)
  | meterLostCleared (channel : Nat)
  | switchFaultCleared
  | startFail
  | lateCommit (board ticket load : Nat) (duty : DutyState)
  | overcommit (board ticket : Nat) (headroom : Int)
  | feedDiscovered (board load : Nat)
  | feedFull (board : Nat)
  | unloadStalled (boards : List Nat)
  | levelRecovered (step : Int) (start : Nat) (cause : BadCause)
  | levelStep (step : Int) (start : Nat) (cause : BadCause)
  | unbookedDispense (dispensed start : Nat)
  deriving DecidableEq, Repr

/-- One claim line of a SETTLE_SET record (R154). -/
structure ClaimLine where
  board : Nat
  energy : Nat
  share : Nat
  deriving DecidableEq, Repr

/-- The SETTLE_SET record (R154). -/
structure SettleSetRec where
  period : Nat
  interrupted : Bool
  run : Nat
  idle : Nat
  fuel : Nat
  energy : Nat
  claims : List ClaimLine
  allotted : Nat
  retained : Nat
  late : Nat
  deriving DecidableEq, Repr

/-- Outcomes of a SETTLE_BOARD record (R167). -/
inductive SettleOutcome where
  | allotted | late | stale | full | lapsed | evicted
  deriving DecidableEq, Repr

/-- An account line (R167); account 0 is the house. -/
structure AccountLine where
  account : Nat
  wh : Nat
  fuel : Option Nat
  peak : Option Nat
  deriving DecidableEq, Repr

/-- The SETTLE_BOARD record (R167). -/
structure SettleBoardRec where
  set : Nat
  period : Nat
  outcome : SettleOutcome
  claim : Nat
  allotted : Option Nat
  unmetered : Nat
  unattributed : Nat
  lines : List AccountLine
  deriving DecidableEq, Repr

/-- The DELIVERY record (R141). Checks are held as their codes. -/
structure DeliveryRec where
  tanker : Option Nat
  docket : Option Nat
  openedAt : Nat
  before : Option Nat
  after : Option Nat
  inlet : Nat
  burned : Nat
  rise : Int
  variance : Int
  levelCheck : Nat
  dispensed : Option Nat
  meterVariance : Option Int
  meterCheck : Nat
  deriving DecidableEq, Repr

/-- Outcomes of a DOCKET record (R146). -/
inductive DocketOutcome where
  | done | noAnswer | busy | resultMissing
  deriving DecidableEq, Repr

/-- The DOCKET record (R146): the last four fields are absent but for DONE. -/
structure DocketRec where
  docket : Nat
  target : Nat
  dispensed : Nat
  outcome : DocketOutcome
  meterCheck : Option Nat
  levelCheck : Option Nat
  inlet : Option Nat
  rise : Option Int
  deriving DecidableEq, Repr

/-- The CHANGEOVER record (R112). -/
structure ChangeoverRec where
  ticket : Nat
  reason : Reason
  fromPos : Nat
  fromSet : Nat
  toPos : Nat
  toSet : Nat
  outcome : ChgOutcome
  unfed : Nat
  deriving DecidableEq, Repr

/-- The six record kinds (R170) with their bodies. -/
inductive RecordBody where
  | settleSet (r : SettleSetRec)
  | settleBoard (r : SettleBoardRec)
  | delivery (r : DeliveryRec)
  | docket (r : DocketRec)
  | changeover (r : ChangeoverRec)
  | event (e : Event)
  deriving DecidableEq, Repr

/-- The SETTLE_SET carry (R174). -/
structure SettleSetCarry where
  merged : Nat
  first : Nat
  last : Nat
  fuel : Nat
  energy : Nat
  allotted : Nat
  retained : Nat
  run : Nat
  idle : Nat
  late : Nat
  interrupted : Bool
  deriving DecidableEq, Repr

/-- One account line of the SETTLE_BOARD carry (R175). -/
structure CarryLine where
  account : Nat
  wh : Nat
  fuel : Nat
  peak : Nat
  deriving DecidableEq, Repr

/-- The SETTLE_BOARD carry (R175). -/
structure SettleBoardCarry where
  merged : Nat
  set : Nat
  first : Nat
  last : Nat
  notAllotted : Nat
  claim : Nat
  allotted : Nat
  unmetered : Nat
  unattributed : Nat
  lines : List CarryLine
  deriving DecidableEq, Repr

/-- The DELIVERY carry (R176). -/
structure DeliveryCarry where
  merged : Nat
  inlet : Nat
  burned : Nat
  dispensed : Nat
  worstMeter : Nat
  worstLevel : Nat
  deriving DecidableEq, Repr

/-- The DOCKET carry (R176). -/
structure DocketCarry where
  merged : Nat
  inlet : Nat
  dispensed : Nat
  notDone : Nat
  worstMeter : Option Nat
  worstLevel : Option Nat
  deriving DecidableEq, Repr

/-- A carry as a record's carry section holds it (R172). -/
inductive Carry where
  | settleSet (c : SettleSetCarry)
  | settleBoard (c : SettleBoardCarry)
  | delivery (c : DeliveryCarry)
  | docket (c : DocketCarry)
  deriving DecidableEq, Repr

/-- A record of the queue with its header (R171): `lost` is the event-lost count an event record carries, `carry` the
carry a billing record absorbed. -/
structure Record where
  seq : Nat
  stamp : Nat
  powerUps : Nat
  lost : Nat
  carry : Option Carry
  body : RecordBody
  deriving DecidableEq, Repr

/-- The record store (R170 to R177): queue oldest first, four carries, event-lost count, sequence counter. -/
structure RecordStore where
  queue : List Record
  setCarry : Option SettleSetCarry
  boardCarry : Option SettleBoardCarry
  deliveryCarry : Option DeliveryCarry
  docketCarry : Option DocketCarry
  eventLost : Nat
  seq : Nat
  deriving DecidableEq, Repr

/-! ## The whole state -/

/-- The station. Retained items (R180) are the record store, `powerUps`, `stationSeconds`, each channel's `ws` and `wh`,
the pulse counts, `duty.starts`, `duty.runSeconds`, `setBill.opened`, `setBill.closed`, `boardBill`, `chg.ticket`, and
the TANKER's next docket, LOAD figure and LOAD anchor. `doubt` is the doubt latch; `checkAgrees` is the check value of
retained memory, as all that R181 lets show of it: whether it agrees with the contents (log 38). -/
structure State where
  mainOn : Bool
  resetHeld : Bool
  station : StationState
  image : Image
  inputs : List Bool
  backupGood : Bool
  doubt : Bool
  checkAgrees : Bool
  powerUps : Nat
  stationSeconds : Nat
  pulses : Pulses
  line : LineCtl
  peers : List Peer
  meter : Metering
  duty : Duty
  reservations : List Reservation
  chg : Changeover
  tank : Tank
  delivery : SetDelivery
  tanker : Tanker
  setBill : SetSettlement
  boardBill : BoardSettlement
  records : RecordStore
  port : Port
  free : Nat
  pending : List Instr
  deriving DecidableEq, Repr

/-! ## Cold-start values of each block -/

/-- The configuration image after a cold start (R188): every item unwritten. -/
def blankImage : Image where
  station := none
  role := none
  lineRate := 0
  statusInterval := none
  rated := none
  margin := none
  startTimeout := none
  warmup := none
  cooldown := none
  idleStop := none
  unloadLimit := none
  resHold := none
  period := none
  claimWindow := none
  kBurn := none
  kInlet := none
  calEmpty := none
  calFull := none
  span := none
  levelFilter := none
  strapCount := none
  strap := [none, none, none, none, none, none, none, none, none, none, none, none, none, none, none, none]
  reserve := none
  dryWarn := none
  captureBand := none
  reactTankEmpty := none
  reactLevelLoop := none
  reactBurnSilent := none
  reactMeterLost := none
  reactOverload := none
  defaultMode := none
  posSet := [none, none, none]
  preference := none
  deadTime := none
  accounts := none
  followDry := none
  autoRestore := none
  retryInterval := none
  stageLoadDefault := none
  kDispense := none

/-- The port after a cold start: READY, command code 0, counter 0, reply code NONE, no payload (R186); the last START
refusal absent (R191). -/
def blankPort : Port where
  reply := { ready := true, command := 0, counter := 0, code := .none, payload := [] }
  startRefusal := none
  taken := 0

/-- The line controller after a cold start (R17, R25). -/
def blankLine : LineCtl where
  queue := []
  older := none
  phase := .waiting
  listenOnly := false
  statusTimer := none

/-- The cleared window of R38. -/
def zeroWindow : List Nat := [0, 0, 0, 0, 0, 0, 0, 0, 0, 0]

/-- A channel after a cold start, its retained figures zero (R45, R46). -/
def blankChannel : Channel where
  state := .noData
  stamp := none
  power := none
  silence := 0
  ws := 0
  wh := 0
  window := zeroWindow
  peak := 0
  unmetered := 0

/-- The metering unit after a cold start that found retention lost (R45, R46). -/
def blankMeter : Metering where
  channels := [blankChannel, blankChannel, blankChannel, blankChannel, blankChannel, blankChannel, blankChannel,
    blankChannel, blankChannel, blankChannel, blankChannel, blankChannel, blankChannel]
  linkErrors := 0
  link := []
  linkOld := false

/-- The duty controller before START. The spec gives its items no value there (R48, R72); the model holds a stopped set
(DESIGN CHOICE, log 37). -/
def blankDuty : Duty where
  state := .off
  origin := none
  mode := .auto
  runOn := false
  brkClosed := false
  timer := 0
  idle := 0
  stallNoted := false
  disagree := 0
  overload := 0
  burnSilence := 0
  conditions := []
  faults := []
  feed := []
  overflow := []
  starts := 0
  runSeconds := 0

/-- The changeover controller before START (R90, R92, R183; values the spec leaves open: log 37). -/
def blankChangeover : Changeover where
  state := .idle
  live := [.unsettled, .unsettled, .unsettled]
  cmd := none
  held := 0
  lastLive := none
  attempt := none
  ticket := 0
  retry := none
  dwell := none
  dryNote := none
  fault := none
  quiet := none

/-- The tank monitor before START (R131, R183). Before the first full second the loop second value is 0, class OPEN
(DESIGN CHOICE, log 5). -/
def blankTank : Tank where
  loopValue := 0
  loopClass := .opened
  good := true
  badCause := none
  qualifying := 0
  filter := []
  liveLevel := none
  liveContent := none
  mode := .unknown
  hold := none
  matching := 0
  reported := 0
  burnPulses := 0
  inletPulses := 0
  minuteStart := 0
  minuteSeconds := 0
  buckets := []
  tte := 65535
  empty := false
  dry := false
  stage := none

/-- The SET's delivery unit after a cold start (R147). -/
def blankDelivery : SetDelivery where
  session := none
  watch := none
  last := none
  now := none
  before := none

/-- The TANKER's delivery unit after a retention loss (R147). -/
def blankTanker : Tanker where
  state := .idle
  delivery := none
  nextDocket := 1
  loadFigure := 0
  loadAnchor := 0
  pulses := 0
  run := none

/-- The SET's settlement unit after a retention loss, before START (R148, R183). -/
def blankSetBill : SetSettlement where
  opened := none
  closed := none
  window := none
  claims := []
  last := none
  late := 0
  putOff := false

/-- The BOARD's settlement unit after a retention loss (R168, R183). -/
def blankBoardBill : BoardSettlement where
  table := []
  unattributed := 0
  lastClosed := []

/-- The record store after a retention loss of the given cause: RETAIN_LOST is its first record, and the record after it
takes sequence number 1 (R183). -/
def lostRecords (cause : LossCause) : RecordStore where
  queue := [{ seq := 0, stamp := 0, powerUps := 0, lost := 0, carry := none, body := .event (.retainLost cause) }]
  setCarry := none
  boardCarry := none
  deliveryCarry := none
  docketCarry := none
  eventLost := 0
  seq := 1

/-- The station right after the power-up of a new part: retention lost, cause CHECK (section 10.7), cold start,
UNCONFIGURED (R188). Values the spec does not give: logs 5 and 37. -/
def State.reset : State where
  mainOn := true
  resetHeld := false
  station := .unconfigured
  image := blankImage
  inputs := [false, false, false, false, false, false]
  backupGood := true
  doubt := false
  checkAgrees := true
  powerUps := 0
  stationSeconds := 0
  pulses := { engine := none, breaker := none }
  line := blankLine
  peers := []
  meter := blankMeter
  duty := blankDuty
  reservations := []
  chg := blankChangeover
  tank := blankTank
  delivery := blankDelivery
  tanker := blankTanker
  setBill := blankSetBill
  boardBill := blankBoardBill
  records := lostRecords .check
  port := blankPort
  free := 0
  pending := []

end Sys2Proof.Machine
end

