-- ==== Sys2Proof/Machine/Operands.lean ====
section
/-! DEFINITION. Reading operands: the arithmetic of the spec's counts, byte order, the configuration items in force, and
the parameters of the host's commands. -/

namespace Sys2Proof.Machine

/-! ## Arithmetic (00_scope section 4.4) -/

/-- 2 to the 32nd. -/
abbrev two32 : Nat := 4294967296

/-- The later value less the earlier, plus 2^32 where the result is negative (R45, R121). -/
def diff32 (later earlier : Nat) : Nat := (later + two32 - earlier) % two32

/-- One more, stopping at `top`. -/
def incTo (top n : Nat) : Nat := min top (n + 1)

/-- `n + d`, stopping at `top`. -/
def addTo (top n d : Nat) : Nat := min top (n + d)

/-- Clamping to `0..top` (00_scope section 4.4). -/
def clampInt (top : Nat) (x : Int) : Nat := min top x.toNat

/-- The value without its sign. -/
def absDiff (a b : Int) : Nat := (a - b).natAbs

/-- The sum of a list of figures. -/
def sumOf (l : List Nat) : Nat := l.foldr (· + ·) 0

/-- The last `n` values of a list kept oldest first. -/
def lastOf (n : Nat) (l : List Nat) : List Nat := l.drop (l.length - n)

/-! ## Byte order: multi-byte fields are sent most significant byte first (R195) -/

/-- One byte. -/
def be1 (n : Nat) : List Byte := [BitVec.ofNat 8 n]

/-- Two bytes, most significant first. -/
def be2 (n : Nat) : List Byte := [BitVec.ofNat 8 (n / 256), BitVec.ofNat 8 n]

/-- Four bytes, most significant first. -/
def be4 (n : Nat) : List Byte := be2 (n / 65536) ++ be2 n

/-- Two bytes of a figure that may not fit them: free where it does not (logs 14, 24). -/
def be2Fit (n : Nat) : List Byte := be2 (if n < 65536 then n else (Config.wideTwo n).toNat)

/-- Four bytes of a figure that may not fit them: free where it does not (log 14). -/
def be4Fit (n : Nat) : List Byte := be4 (if n < two32 then n else (Config.wideFour n).toNat)

/-- Eight bytes, most significant first. -/
def be8 (n : Nat) : List Byte := be4 (n / two32) ++ be4 n

/-- Four bytes of a signed figure in two's complement (R195): free where it does not fit them (log 14). -/
def beInt (x : Int) : List Byte :=
  be4 (if -2147483648 ≤ x ∧ x < 2147483648 then (x % (two32 : Int)).toNat else (Config.wideSigned x).toNat)

/-- Two bytes read most significant first. -/
def rd2 (a b : Byte) : Nat := a.toNat * 256 + b.toNat

/-- Four bytes read most significant first. -/
def rd4 (a b c d : Byte) : Nat := rd2 a b * 65536 + rd2 c d

/-- The signed figure of a 32-bit two's complement word. -/
def signed32 (n : Nat) : Int := if n < 2147483648 then (n : Int) else (n : Int) - (two32 : Int)

/-! ## The configuration items in force: the value written, else the default (section 11.3, R191) -/

def Image.statusEvery (i : Image) : Nat := i.statusInterval.getD 2
def Image.ratedPower (i : Image) : Nat := i.rated.getD 0
def Image.marginPct (i : Image) : Nat := i.margin.getD 10
def Image.startLimit (i : Image) : Nat := i.startTimeout.getD 60
def Image.warmupTime (i : Image) : Nat := i.warmup.getD 60
def Image.cooldownTime (i : Image) : Nat := i.cooldown.getD 120
def Image.idleLimit (i : Image) : Nat := i.idleStop.getD 600
def Image.unloadTime (i : Image) : Nat := i.unloadLimit.getD 300
def Image.holdTime (i : Image) : Nat := i.resHold.getD 20
def Image.periodLength (i : Image) : Nat := i.period.getD 900
def Image.windowLength (i : Image) : Nat := i.claimWindow.getD 20
def Image.burnFactor (i : Image) : Nat := i.kBurn.getD 1000
def Image.inletFactor (i : Image) : Nat := i.kInlet.getD 1000
def Image.calLow (i : Image) : Nat := i.calEmpty.getD 4000
def Image.calHigh (i : Image) : Nat := i.calFull.getD 20000
def Image.spanMm (i : Image) : Nat := i.span.getD 1000
def Image.filterLength (i : Image) : Nat := i.levelFilter.getD 16
def Image.strapPoints (i : Image) : Nat := i.strapCount.getD 2
def Image.reserveCl (i : Image) : Nat := i.reserve.getD 0
def Image.dryMinutes (i : Image) : Nat := i.dryWarn.getD 45
def Image.captureTenths (i : Image) : Nat := i.captureBand.getD 20
def Image.deadSeconds (i : Image) : Nat := i.deadTime.getD 5
def Image.accountCount (i : Image) : Nat := i.accounts.getD 12
def Image.followsDry (i : Image) : Bool := i.followDry.getD 1 == 1
def Image.restores (i : Image) : Bool := i.autoRestore.getD 1 == 1
def Image.retryTime (i : Image) : Nat := i.retryInterval.getD 30
def Image.stageLoad (i : Image) : Nat := i.stageLoadDefault.getD 500
def Image.dispenseFactor (i : Image) : Nat := i.kDispense.getD 1000
def Image.preferenceOrder (i : Image) : List Nat := i.preference.getD [1, 2, 3]

/-- POS_SET of position `n`, 0 where it names no set (default 0) and for `n` outside 1..3. -/
def Image.setAt (i : Image) (n : Nat) : Nat :=
  if n = 0 then 0 else (i.posSet.getD (n - 1) none).getD 0

/-- The written points of the strapping table, in order, up to STRAP_COUNT (R120). -/
def Image.table (i : Image) : List StrapPoint := (i.strap.take i.strapPoints).filterMap id

/-- The full volume: the volume of the last strapping point (R115). -/
def Image.fullVolume (i : Image) : Nat := (i.table.getLast?.map StrapPoint.volume).getD 0

/-- A run mode by its code: AUTO 0, PRIME 1, STOP 2 (section 11.3). -/
def runModeOf (n : Nat) : Option RunMode :=
  match n with
  | 0 => some .auto
  | 1 => some .prime
  | 2 => some .stop
  | _ => none

/-- DEFAULT_MODE, default AUTO. -/
def Image.startMode (i : Image) : RunMode := (runModeOf (i.defaultMode.getD 0)).getD .auto

/-- A role by its code: SET 0, BOARD 1, TANKER 2 (R195). -/
def roleOf (n : Nat) : Option Role :=
  match n with
  | 0 => some .set
  | 1 => some .board
  | 2 => some .tanker
  | _ => none

/-! ## Tests of the station -/

/-- The station takes events: main supply on, RESET not held (R199; what goes on while RESET is held: log 6). -/
def State.awake (s : State) : Bool := s.mainOn && !s.resetHeld

/-- In RUN with the given role: the blocks of that role are active (00_scope section 2). -/
def State.runs (s : State) (r : Role) : Bool := s.station == .run && s.image.role == some r

/-- The level of a field input, 1..6 (R198). -/
def State.input (s : State) (n : Nat) : Bool := s.inputs.getD (n - 1) false

/-- Run `f` where the station takes events. -/
def whenAwake (s : State) (f : State → State) : State := if s.awake then f s else s

/-- Run `f` where the station is in RUN in the given role and takes events. -/
def whenRuns (r : Role) (s : State) (f : State → State) : State := if s.awake && s.runs r then f s else s

/-! ## Parameters of the host's commands (section 11.7) -/

/-- The four-byte argument of a REQUEST, present only where it has its length. -/
def argOf : List Byte → Option Nat
  | [a, b, c, d] => some (rd4 a b c d)
  | _ => none

end Sys2Proof.Machine
end

