-- ==== Sys2Proof/Machine/Codes.lean ====
section
/-! DEFINITION. The codes of R195: frame kinds with their classes and minimum bodies (R19), enumerated values by their
place in their list, and the frame bodies as bytes, both ways. -/

namespace Sys2Proof.Machine

/-! ## Frame kinds (R19, R195) -/

/-- The kind codes. -/
def kindCode : Kind → Nat
  | .dry => 1 | .take => 2 | .takeReply => 3 | .commit => 4 | .left => 5 | .release => 6
  | .close => 16 | .claim => 17 | .allot => 18 | .deliverOpen => 19 | .deliverAck => 20 | .docket => 21
  | .deliverResult => 22 | .status => 32

/-- The kind a code names; a code not in the table names none. -/
def kindOf (n : Nat) : Option Kind :=
  match n with
  | 1 => some .dry | 2 => some .take | 3 => some .takeReply | 4 => some .commit | 5 => some .left
  | 6 => some .release | 16 => some .close | 17 => some .claim | 18 => some .allot | 19 => some .deliverOpen
  | 20 => some .deliverAck | 21 => some .docket | 22 => some .deliverResult | 32 => some .status
  | _ => none

/-- The priority class of each kind (R19). -/
def kindClass : Kind → Nat
  | .dry => 0
  | .take | .takeReply | .commit | .left | .release => 1
  | .close | .claim | .allot | .deliverOpen | .deliverAck | .docket | .deliverResult => 2
  | .status => 3

/-- The kind of a body. -/
def Body.kind : Body → Kind
  | .dry .. => .dry
  | .take .. => .take
  | .takeReply .. => .takeReply
  | .commit .. => .commit
  | .left .. => .left
  | .release .. => .release
  | .close .. => .close
  | .claim .. => .claim
  | .allot .. => .allot
  | .deliverOpen .. => .deliverOpen
  | .deliverAck .. => .deliverAck
  | .docket .. => .docket
  | .deliverResult .. => .deliverResult
  | .status .. => .status

/-- The priority class of a queued frame. -/
def TxFrame.cls (f : TxFrame) : Nat := kindClass f.body.kind

/-- Whether a queued frame is a STATUS (R12). -/
def TxFrame.isStatus (f : TxFrame) : Bool := f.body.kind == .status

/-! ## Enumerated values: the place in the list, first 0 (R195) -/

def roleCode : Role → Nat
  | .set => 0 | .board => 1 | .tanker => 2

def dutyCode : DutyState → Nat
  | .off => 0 | .starting => 1 | .warming => 2 | .ready => 3 | .unloading => 4 | .cooling => 5 | .fault => 6

def modeCode : RunMode → Nat
  | .auto => 0 | .prime => 1 | .stop => 2

def originCode : Origin → Nat
  | .idle => 0 | .stopping => 1

def faultCode : FaultClass → Nat
  | .tankEmpty => 0 | .levelLoop => 1 | .burnSilent => 2 | .meterLost => 3 | .overload => 4 | .engineFault => 5
  | .breaker => 6 | .startFail => 7

/-- The fault class of a code (section 11.7: by its place in the table of R60). -/
def faultOf (n : Nat) : Option FaultClass :=
  match n with
  | 0 => some .tankEmpty | 1 => some .levelLoop | 2 => some .burnSilent | 3 => some .meterLost
  | 4 => some .overload | 5 => some .engineFault | 6 => some .breaker | 7 => some .startFail
  | _ => none

/-- The eight fault classes in the order of R60. -/
def allFaults : List FaultClass :=
  [.tankEmpty, .levelLoop, .burnSilent, .meterLost, .overload, .engineFault, .breaker, .startFail]

def chgCode : ChgState → Nat
  | .idle => 0 | .seeking => 1 | .waiting => 2 | .breaking => 3 | .dead => 4 | .making => 5 | .committing => 6
  | .locked => 7

/-- TAKE reasons in the order of section 1.8. -/
def reasonCode : Reason → Nat
  | .planned => 0 | .dry => 1 | .dead => 2 | .unload => 3 | .restore => 4

/-- Reasons in the order of the tables of R90 and R112, by which records and the host's payloads code them. -/
def recordReasonCode : Reason → Nat
  | .planned => 0 | .dry => 1 | .unload => 2 | .dead => 3 | .restore => 4

def liveCode : LiveState → Nat
  | .unsettled => 0 | .live => 1 | .notLive => 2

def switchFaultCode : SwitchFault → Nat
  | .noOpen => 0 | .noClose => 1 | .twoClosed => 2 | .wrongPosition => 3 | .uncommanded => 4

def chgOutcomeCode : ChgOutcome → Nat
  | .done => 0 | .returned => 1 | .allRefused => 2 | .aborted => 3 | .switchFault => 4 | .targetDead => 5

def chanCode : ChanState → Nat
  | .noData => 0 | .active => 1 | .stalled => 2 | .lost => 3

def loopCode : LoopClass → Nat
  | .opened => 0 | .under => 1 | .inRange => 2 | .over => 3 | .fault => 4

def badCode : BadCause → Nat
  | .opened => 0 | .fault => 1

def contentCode : ContentMode → Nat
  | .unknown => 0 | .live => 1 | .held => 2 | .matching => 3

def phaseCode : Phase → Nat
  | .opened => 0 | .quiet => 1 | .settling => 2

def tankerCode : TankerState → Nat
  | .idle => 0 | .opening => 1 | .dispensing => 2 | .closing => 3

def entryCode : EntryState → Nat
  | .current => 0 | .waitingClose => 1 | .claimed => 2

def settleCode : SettleOutcome → Nat
  | .allotted => 0 | .late => 1 | .stale => 2 | .full => 3 | .lapsed => 4 | .evicted => 5

def docketOutcomeCode : DocketOutcome → Nat
  | .done => 0 | .noAnswer => 1 | .busy => 2 | .resultMissing => 3

def freshCode : Freshness → Nat
  | .fresh => 0 | .stale => 1 | .lost => 2

def replyCodeOf : ReplyCode → Nat
  | .ok => 0 | .state => 1 | .range => 2 | .role => 3 | .sequence => 4 | .committed => 5 | .none => 6 | .unknown => 7

def lossCode : LossCause → Nat
  | .backup => 0 | .check => 1

def dropCode : DropCause → Nat
  | .attempts => 0 | .queueFull => 1

/-- TAKE_REPLY verdicts (R195). -/
abbrev verdictGrant : Nat := 0
abbrev verdictPending : Nat := 1
abbrev verdictRefuse : Nat := 2

/-- TAKE_REPLY reasons (R195). -/
abbrev reasonNone : Nat := 0
abbrev reasonHeadroom : Nat := 1
abbrev reasonBusy : Nat := 2
abbrev reasonDry : Nat := 3
abbrev reasonStopping : Nat := 4
abbrev reasonFault : Nat := 5
abbrev reasonBlocked : Nat := 6
abbrev reasonNotReady : Nat := 7

/-- ALLOT outcomes (R195). -/
abbrev allotAllotted : Nat := 0
abbrev allotLate : Nat := 1
abbrev allotStale : Nat := 2
abbrev allotFull : Nat := 3

/-- DELIVER_ACK answers (section 1.8). -/
abbrev ackReady : Nat := 0
abbrev ackBusy : Nat := 1

/-- Meter checks as DELIVER_RESULT has them (section 1.8); a DELIVERY record has codes of its own, `deliveryMeterCode`. -/
abbrev meterOk : Nat := 0
abbrev meterMismatch : Nat := 1
abbrev meterNoDocket : Nat := 2
abbrev meterUnknownDocket : Nat := 3

/-- The code of a meter check in a DELIVERY record: its place in the table of R141 (R195). UNKNOWN_DOCKET has no place there
and goes with no DELIVERY record (R138, R141). -/
def deliveryMeterCode (n : Nat) : Nat :=
  if n = meterNoDocket then 0 else if n = meterOk then 1 else if n = meterMismatch then 2 else n

/-- Level checks (section 1.8; in records too, log 47). -/
abbrev levelOk : Nat := 0
abbrev levelMismatch : Nat := 1
abbrev levelUnavailable : Nat := 2

/-! ## Frame bodies as bytes (section 1.8, R195) -/

/-- The role's fields of a STATUS body, without the role byte; READ_PEER sends these (log 24). -/
def statusFields : StatusBody → List Byte
  | .set b => be1 b.duty ++ be1 b.mode ++ be2 b.rated ++ be2 b.output ++ be2 b.headroom ++ be2 b.period ++
      be2 b.content ++ be2 b.tte ++ be1 b.flags
  | .board b => be1 b.state ++ be1 b.closed ++ be1 b.feeding ++ be2 b.load ++ be1 b.flags
  | .tanker b => be1 b.state ++ be1 b.target ++ be2 b.content

/-- The role a STATUS body is of. -/
def StatusBody.role : StatusBody → Role
  | .set _ => .set
  | .board _ => .board
  | .tanker _ => .tanker

/-- A body as the bytes a sender puts in its frame. -/
def Body.bytes : Body → List Byte
  | .dry tte content => be2 tte ++ be2 content
  | .take ticket load reason => be1 ticket ++ be2 load ++ be1 reason
  | .takeReply ticket verdict reason headroom hold =>
      be1 ticket ++ be1 verdict ++ be1 reason ++ be2 headroom ++ be1 hold
  | .commit ticket load => be1 ticket ++ be2 load
  | .left ticket => be1 ticket
  | .release ticket => be1 ticket
  | .close period fuel energy window again => be2 period ++ be4 fuel ++ be4 energy ++ be1 window ++ be1 again
  | .claim period energy attempt => be2 period ++ be4Fit energy ++ be1 attempt
  | .allot period fuel outcome => be2 period ++ be4 fuel ++ be1 outcome
  | .deliverOpen number => be2 number
  | .deliverAck number answer => be2 number ++ be1 answer
  | .docket number dispensed => be2 number ++ be4 dispensed
  | .deliverResult number meter level inlet rise =>
      be2 number ++ be1 meter ++ be1 level ++ be4 inlet ++ beInt rise
  | .status b => be1 (roleCode b.role) ++ statusFields b

/-- The role's fields of a STATUS body, read in the order of section 1.8; absent where the role byte names no role or
the body is below the role's minimum; bytes beyond the minimum are discarded (R22). -/
def parseStatus : List Byte → Option StatusBody
  | [] => none
  | r :: rest =>
    match roleOf r.toNat, rest with
    | some .set, d :: m :: r1 :: r0 :: o1 :: o0 :: h1 :: h0 :: p1 :: p0 :: c1 :: c0 :: t1 :: t0 :: fl :: _ =>
        some (.set { duty := d.toNat, mode := m.toNat, rated := rd2 r1 r0, output := rd2 o1 o0, headroom := rd2 h1 h0,
                     period := rd2 p1 p0, content := rd2 c1 c0, tte := rd2 t1 t0, flags := fl.toNat })
    | some .board, st :: cl :: fd :: l1 :: l0 :: fl :: _ =>
        some (.board { state := st.toNat, closed := cl.toNat, feeding := fd.toNat, load := rd2 l1 l0, flags := fl.toNat })
    | some .tanker, st :: tg :: c1 :: c0 :: _ =>
        some (.tanker { state := st.toNat, target := tg.toNat, content := rd2 c1 c0 })
    | _, _ => none

/-- The fields of a received body of the given kind; absent where the body is below the kind's minimum (R10, R19).
Bytes beyond the minimum are ignored. -/
def parseBody (k : Kind) (body : List Byte) : Option Body :=
  match k, body with
  | .dry, t1 :: t0 :: c1 :: c0 :: _ => some (.dry (rd2 t1 t0) (rd2 c1 c0))
  | .take, t :: l1 :: l0 :: r :: _ => some (.take t.toNat (rd2 l1 l0) r.toNat)
  | .takeReply, t :: v :: r :: h1 :: h0 :: hd :: _ => some (.takeReply t.toNat v.toNat r.toNat (rd2 h1 h0) hd.toNat)
  | .commit, t :: l1 :: l0 :: _ => some (.commit t.toNat (rd2 l1 l0))
  | .left, t :: _ => some (.left t.toNat)
  | .release, t :: _ => some (.release t.toNat)
  | .close, p1 :: p0 :: f3 :: f2 :: f1 :: f0 :: e3 :: e2 :: e1 :: e0 :: w :: a :: _ =>
      some (.close (rd2 p1 p0) (rd4 f3 f2 f1 f0) (rd4 e3 e2 e1 e0) w.toNat a.toNat)
  | .claim, p1 :: p0 :: e3 :: e2 :: e1 :: e0 :: a :: _ => some (.claim (rd2 p1 p0) (rd4 e3 e2 e1 e0) a.toNat)
  | .allot, p1 :: p0 :: f3 :: f2 :: f1 :: f0 :: o :: _ => some (.allot (rd2 p1 p0) (rd4 f3 f2 f1 f0) o.toNat)
  | .deliverOpen, d1 :: d0 :: _ => some (.deliverOpen (rd2 d1 d0))
  | .deliverAck, d1 :: d0 :: a :: _ => some (.deliverAck (rd2 d1 d0) a.toNat)
  | .docket, d1 :: d0 :: f3 :: f2 :: f1 :: f0 :: _ => some (.docket (rd2 d1 d0) (rd4 f3 f2 f1 f0))
  | .deliverResult, d1 :: d0 :: m :: l :: i3 :: i2 :: i1 :: i0 :: r3 :: r2 :: r1 :: r0 :: _ =>
      some (.deliverResult (rd2 d1 d0) m.toNat l.toNat (rd4 i3 i2 i1 i0) (signed32 (rd4 r3 r2 r1 r0)))
  | .status, body => (parseStatus body).map Body.status
  | _, _ => none

end Sys2Proof.Machine
end

