-- ==== Sys2Proof/Machine/Flags.lean ====
section
/-! DEFINITION. What the station derives from what it holds: averages, headroom, the active reaction, lookups in the peer
table, the closed position, derived fuel counts, the STATUS bodies and the attention line. Nothing here is stored. -/

namespace Sys2Proof.Machine

/-! ## Metering figures (R38) -/

/-- The record of channel `n` (R35). -/
def State.channel (s : State) (n : Nat) : Channel := s.meter.channels.getD n blankChannel

/-- The 10-s average in W (R38). -/
def Channel.averageW (c : Channel) : Nat := sumOf c.window / 10

/-- The 10-s average in 0.1 kW (R38). -/
def Channel.average (c : Channel) : Nat := c.averageW / 100

/-- Channel 0's 10-s average in 0.1 kW: a SET's output, a BOARD's stage load (R38). -/
def State.output (s : State) : Nat := (s.channel 0).average

/-! ## Headroom (R74, R75) -/

/-- The usable capacity (R74). -/
def Image.usable (i : Image) : Nat := i.ratedPower * (100 - i.marginPct) / 100

/-- The measured part of the basis (R74). -/
def State.measured (s : State) : Nat :=
  match s.duty.state with
  | .off | .starting | .warming => 0
  | .ready | .unloading | .cooling | .fault => s.output

/-- The sum of the feed list's loads (R74). -/
def State.feedSum (s : State) : Nat := sumOf (s.duty.feed.map FeedEntry.load)

/-- The basis (R74). -/
def State.basis (s : State) : Nat := max s.measured s.feedSum

/-- The sum of the reservation list's loads (R75). -/
def State.reservedSum (s : State) : Nat := sumOf (s.reservations.map Reservation.load)

/-- The headroom, signed (R75). -/
def State.headroom (s : State) : Int := (s.image.usable : Int) - s.basis - s.reservedSum

/-- The headroom as it is sent (R75), in the two bytes of its field. -/
def State.headroomSent (s : State) : Nat := clampInt 65535 s.headroom

/-! ## Reactions (R60, R63) -/

/-- The reactions (R60). -/
inductive Reaction where
  | ignore | alarm | unload | trip
  deriving DecidableEq, Repr

/-- The rank of a reaction: TRIP above UNLOAD above ALARM above IGNORE (R60). -/
def Reaction.rank : Reaction → Nat
  | .ignore => 0 | .alarm => 1 | .unload => 2 | .trip => 3

/-- A choice of ALARM, UNLOAD, TRIP by its code (section 11.3). -/
def alarmChoice (n : Nat) : Reaction :=
  match n with
  | 0 => .alarm
  | 1 => .unload
  | _ => .trip

/-- A choice of IGNORE, ALARM by its code (section 11.3). -/
def ignoreChoice (n : Nat) : Reaction := if n = 0 then .ignore else .alarm

/-- The reaction of each class (R60). START_FAIL's own reaction is the entry into FAULT of R51; its listing has no
further reaction. -/
def Image.reaction (i : Image) : FaultClass → Reaction
  | .tankEmpty => alarmChoice (i.reactTankEmpty.getD 1)
  | .levelLoop => ignoreChoice (i.reactLevelLoop.getD 1)
  | .burnSilent => ignoreChoice (i.reactBurnSilent.getD 1)
  | .meterLost => alarmChoice (i.reactMeterLost.getD 0)
  | .overload => alarmChoice (i.reactOverload.getD 0)
  | .engineFault => .trip
  | .breaker => .trip
  | .startFail => .alarm

/-- Whether a condition of a class is present (R61). -/
def State.present (s : State) (c : FaultClass) : Bool := s.duty.conditions.contains c

/-- Whether a condition is present whose reaction is TRIP (R66). -/
def State.tripPresent (s : State) : Bool := s.duty.conditions.any (fun c => s.image.reaction c == .trip)

/-- Whether a condition is present whose reaction is UNLOAD. -/
def State.unloadPresent (s : State) : Bool := s.duty.conditions.any (fun c => s.image.reaction c == .unload)

/-- The active reaction: the strongest among the conditions present (R63); ALARM and none change no state. -/
def State.activeReaction (s : State) : Reaction :=
  if s.tripPresent then .trip else if s.unloadPresent then .unload else .alarm

/-- The start inhibit (R63). -/
def State.inhibit (s : State) : Bool := s.tripPresent || s.unloadPresent

/-! ## Peer table lookups (R20, R30) -/

/-- The entry of a station, or absent (R30). -/
def State.peer (s : State) (n : Nat) : Option Peer := s.peers.find? (fun p => p.station == n)

/-- A SET's last STATUS, whatever its age (R30). -/
def State.setStatusOf (s : State) (n : Nat) : Option SetStatus :=
  match s.peer n with
  | some p =>
    match p.body with
    | some (.set b) => some b
    | _ => none
  | none => none

/-- The FRESH STATUS of a set (R30). -/
def State.freshSet (s : State) (n : Nat) : Option SetStatus :=
  match s.peer n with
  | some p => if p.fresh = .fresh then s.setStatusOf n else none
  | none => none

/-- "Station n has gone LOST" as a lookup finds it (R30). -/
def State.peerIsLost (s : State) (n : Nat) : Bool :=
  match s.peer n with
  | some p => p.fresh == .lost
  | none => false

/-! ## STATUS flags, one bit each (R195) -/

/-- Flag sets: bit 0 for the first flag. -/
def flagSet : List Bool → Nat
  | [] => 0
  | b :: rest => b.toNat + 2 * flagSet rest

/-- The DRY flag of a set's STATUS. -/
def SetStatus.dryFlag (b : SetStatus) : Bool := b.flags.testBit 0

/-- The FAULT flag of a set's STATUS. -/
def SetStatus.faultFlag (b : SetStatus) : Bool := b.flags.testBit 1

/-! ## The switch of a BOARD (R91) -/

/-- The positions whose closed feedback is present. -/
def State.closedList (s : State) : List Nat := [1, 2, 3].filter s.input

/-- The closed position: the one position whose feedback is present, 0 where none or more than one is (R91). -/
def State.closedPos (s : State) : Nat :=
  match s.closedList with
  | [n] => n
  | _ => 0

/-- The set that feeds the stage: POS_SET of the closed position, 0 where that is 0 (R27). -/
def State.feedingSet (s : State) : Nat := s.image.setAt s.closedPos

/-- The live state of a position (R92). -/
def State.liveAt (s : State) (n : Nat) : LiveState := s.chg.live.getD (n - 1) .unsettled

/-! ## Fuel counts (R121, R142) -/

/-- Lifetime cl from lifetime pulses: times 100, divided by K, modulo 2^32 (R121). -/
def clOf (pulses k : Nat) : Nat := pulses * 100 / k % two32

/-- Lifetime burn cl (R121). -/
def State.burnCl (s : State) : Nat := clOf s.tank.burnPulses s.image.burnFactor

/-- Lifetime inlet cl (R121). -/
def State.inletCl (s : State) : Nat := clOf s.tank.inletPulses s.image.inletFactor

/-- Lifetime dispense cl (R142). -/
def State.dispenseCl (s : State) : Nat := clOf s.tanker.pulses s.image.dispenseFactor

/-- The tanker content: the LOAD figure less the dispense cl since, clamped at 0 (R142). -/
def State.tankerContent (s : State) : Nat := s.tanker.loadFigure - diff32 s.dispenseCl s.tanker.loadAnchor

/-- Whole litres as they are sent: 65535 where larger (R26, R28). -/
def litres (cl : Nat) : Nat := min 65535 (cl / 100)

/-- The burn rate in cl/min, absent below two buckets (R127). -/
def Tank.rate (t : Tank) : Option Nat :=
  if t.buckets.length < 2 then none else some (sumOf t.buckets / t.buckets.length)

/-! ## The STATUS bodies (R26 to R28) -/

/-- A SET's STATUS (R26). -/
def State.setBody (s : State) : SetStatus where
  duty := dutyCode s.duty.state
  mode := modeCode s.duty.mode
  rated := s.image.ratedPower
  output := s.output
  headroom := s.headroomSent
  period := (s.setBill.opened.map OpenPeriod.period).getD 0
  content := litres s.tank.reported
  tte := s.tank.tte
  flags := flagSet [s.tank.dry, !s.duty.faults.isEmpty, s.delivery.session.isSome]

/-- A BOARD's STATUS (R27). -/
def State.boardBody (s : State) : BoardStatus where
  state := chgCode s.chg.state
  closed := s.closedPos
  feeding := s.feedingSet
  load := s.output
  flags := flagSet [s.chg.fault.isSome, s.chg.state == .locked]

/-- A TANKER's STATUS (R28). -/
def State.tankerBody (s : State) : TankerStatus where
  state := tankerCode s.tanker.state
  target := if s.tanker.state = .idle then 0 else (s.tanker.delivery.map OpenDelivery.target).getD 0
  content := litres s.tankerContent

/-- The station's own STATUS by its role (R25). -/
def State.ownStatus (s : State) : Option StatusBody :=
  match s.image.role with
  | some .set => some (.set s.setBody)
  | some .board => some (.board s.boardBody)
  | some .tanker => some (.tanker s.tankerBody)
  | none => none

/-! ## The attention line (R193, R199) -/

/-- Whether the fault list holds an unacknowledged entry. -/
def State.unacked (s : State) : Bool := s.duty.faults.any (fun e => !e.acked)

/-- ATTN asserted (R193); released while RESET is held and without main supply. -/
def State.attn (s : State) : Bool := s.awake && (!s.records.queue.isEmpty || s.unacked)

end Sys2Proof.Machine
end

