-- ==== Sys2Proof/Machine/Records.lean ====
section
/-! DEFINITION. The record store (chapter 10): appending, the full queue, the four carries, the event-lost count. -/

namespace Sys2Proof.Machine

/-- The capacity of the record queue (R170). -/
abbrev queueCap : Nat := 160

/-- Whether a record is event class (R170): CHANGEOVER and EVENT. -/
def RecordBody.isEvent : RecordBody → Bool
  | .changeover _ => true
  | .event _ => true
  | _ => false

/-! ## Merging into a carry (R174 to R176) -/

/-- Merging a SETTLE_SET record (R174). -/
def mergeSettleSet (c : Option SettleSetCarry) (r : SettleSetRec) : SettleSetCarry :=
  match c with
  | none =>
    { merged := 1, first := r.period, last := r.period, fuel := r.fuel, energy := r.energy, allotted := r.allotted,
      retained := r.retained, run := r.run, idle := r.idle, late := r.late, interrupted := r.interrupted }
  | some c =>
    { merged := incTo 65535 c.merged, first := c.first, last := r.period, fuel := c.fuel + r.fuel,
      energy := c.energy + r.energy, allotted := c.allotted + r.allotted, retained := c.retained + r.retained,
      run := c.run + r.run, idle := c.idle + r.idle, late := c.late + r.late,
      interrupted := c.interrupted || r.interrupted }

/-- The place of an account in the carry's lines: account order with the house last (R175, R196). -/
def linePlace (account : Nat) : Nat := if account = 0 then 13 else account

/-- Merging one account line into the carry's lines (R175). -/
def mergeLine (l : AccountLine) : List CarryLine → List CarryLine
  | [] => [{ account := l.account, wh := l.wh, fuel := l.fuel.getD 0, peak := l.peak.getD 0 }]
  | c :: rest =>
    if c.account = l.account then
      { account := c.account, wh := c.wh + l.wh, fuel := c.fuel + l.fuel.getD 0, peak := max c.peak (l.peak.getD 0) } ::
        rest
    else if linePlace l.account < linePlace c.account then
      { account := l.account, wh := l.wh, fuel := l.fuel.getD 0, peak := l.peak.getD 0 } :: c :: rest
    else c :: mergeLine l rest

/-- "Several sets" in the SETTLE_BOARD carry (R175). -/
abbrev severalSets : Nat := 255

/-- Merging a SETTLE_BOARD record (R175). The bytes in which a not-allotted count past 65535 is sent are free (log 14). -/
def mergeSettleBoard (c : Option SettleBoardCarry) (r : SettleBoardRec) : SettleBoardCarry :=
  let missed := if r.outcome = .allotted then 0 else 1
  match c with
  | none =>
    { merged := 1, set := r.set, first := r.period, last := r.period, notAllotted := missed, claim := r.claim,
      allotted := r.allotted.getD 0, unmetered := r.unmetered, unattributed := r.unattributed,
      lines := r.lines.foldl (fun ls l => mergeLine l ls) [] }
  | some c =>
    { merged := incTo 65535 c.merged, set := if c.set = r.set then c.set else severalSets, first := c.first,
      last := r.period, notAllotted := c.notAllotted + missed, claim := c.claim + r.claim,
      allotted := c.allotted + r.allotted.getD 0, unmetered := c.unmetered + r.unmetered,
      unattributed := c.unattributed + r.unattributed, lines := r.lines.foldl (fun ls l => mergeLine l ls) c.lines }

/-- The rank of a meter check, the larger the worse (R176). -/
def meterRank (n : Nat) : Nat :=
  if n = meterMismatch then 2
  else if n = meterNoDocket ∨ n = meterUnknownDocket then 1
  else if n = meterOk then 0
  else Config.unlistedCheckRank n

/-- The rank of a level check, the larger the worse (R176). -/
def levelRank (n : Nat) : Nat :=
  if n = levelMismatch then 2
  else if n = levelUnavailable then 1
  else if n = levelOk then 0
  else Config.unlistedCheckRank n

/-- The worse of the carry's check and the record's; the carry's at equal ranks (R176). -/
def worse (rank : Nat → Nat) (c r : Nat) : Nat := if rank c < rank r then r else c

/-- The same for checks that may be absent: an absent record check leaves the carry's (R176). -/
def worseOpt (rank : Nat → Nat) : Option Nat → Option Nat → Option Nat
  | c, none => c
  | none, some r => some r
  | some c, some r => some (worse rank c r)

/-- Merging a DELIVERY record (R176). -/
def mergeDelivery (c : Option DeliveryCarry) (r : DeliveryRec) : DeliveryCarry :=
  match c with
  | none =>
    { merged := 1, inlet := r.inlet, burned := r.burned, dispensed := r.dispensed.getD 0, worstMeter := r.meterCheck,
      worstLevel := r.levelCheck }
  | some c =>
    { merged := incTo 65535 c.merged, inlet := c.inlet + r.inlet, burned := c.burned + r.burned,
      dispensed := c.dispensed + r.dispensed.getD 0, worstMeter := worse meterRank c.worstMeter r.meterCheck,
      worstLevel := worse levelRank c.worstLevel r.levelCheck }

/-- Merging a DOCKET record (R176). The bytes in which a not-done count past 65535 is sent are free (log 14). -/
def mergeDocket (c : Option DocketCarry) (r : DocketRec) : DocketCarry :=
  let missed := if r.outcome = .done then 0 else 1
  match c with
  | none =>
    { merged := 1, inlet := r.inlet.getD 0, dispensed := r.dispensed, notDone := missed, worstMeter := r.meterCheck,
      worstLevel := r.levelCheck }
  | some c =>
    { merged := incTo 65535 c.merged, inlet := c.inlet + r.inlet.getD 0, dispensed := c.dispensed + r.dispensed,
      notDone := c.notDone + missed, worstMeter := worseOpt meterRank c.worstMeter r.meterCheck,
      worstLevel := worseOpt levelRank c.worstLevel r.levelCheck }

/-- The merge of a billing record into its kind's carry (R173 to R176); an event record has no carry. -/
def mergeCarry (st : RecordStore) (b : RecordBody) : RecordStore :=
  match b with
  | .settleSet r => { st with setCarry := some (mergeSettleSet st.setCarry r) }
  | .settleBoard r => { st with boardCarry := some (mergeSettleBoard st.boardCarry r) }
  | .delivery r => { st with deliveryCarry := some (mergeDelivery st.deliveryCarry r) }
  | .docket r => { st with docketCarry := some (mergeDocket st.docketCarry r) }
  | .changeover _ => st
  | .event _ => st

/-! ## Joining the queue (R171, R172) -/

/-- The carry of a record's own kind, as its carry section takes it (R172). -/
def carryOf (st : RecordStore) (b : RecordBody) : Option Carry :=
  match b with
  | .settleSet _ => st.setCarry.map Carry.settleSet
  | .settleBoard _ => st.boardCarry.map Carry.settleBoard
  | .delivery _ => st.deliveryCarry.map Carry.delivery
  | .docket _ => st.docketCarry.map Carry.docket
  | .changeover _ => none
  | .event _ => none

/-- Emptying the carry of a record's own kind (R172). -/
def emptyCarry (st : RecordStore) (b : RecordBody) : RecordStore :=
  match b with
  | .settleSet _ => { st with setCarry := none }
  | .settleBoard _ => { st with boardCarry := none }
  | .delivery _ => { st with deliveryCarry := none }
  | .docket _ => { st with docketCarry := none }
  | .changeover _ => st
  | .event _ => st

/-- A record joins at the end with its header (R171): an event record takes the event-lost count and sets it to 0, a
billing record absorbs its kind's carry (R172). -/
def joinQueue (st : RecordStore) (stamp powerUps : Nat) (b : RecordBody) : RecordStore :=
  let r : Record :=
    { seq := st.seq, stamp := stamp, powerUps := powerUps, lost := if b.isEvent then st.eventLost else 0,
      carry := carryOf st b, body := b }
  { emptyCarry st b with
      queue := st.queue ++ [r], seq := (st.seq + 1) % 65536, eventLost := if b.isEvent then 0 else st.eventLost }

/-- The queue without its oldest event record, with the count that record carried; `none` where it holds none. -/
def dropOldestEvent : List Record → Option (Nat × List Record)
  | [] => none
  | r :: rest =>
    if r.body.isEvent then some (r.lost, rest)
    else (dropOldestEvent rest).map (fun p => (p.1, r :: p.2))

/-- Appending a record (R172, R173): with room it joins; at a full queue the oldest event record gives way (R177), or,
where there is none, an event record is discarded on arrival and a billing record is merged. -/
def appendTo (st : RecordStore) (stamp powerUps : Nat) (b : RecordBody) : RecordStore :=
  if st.queue.length < queueCap then joinQueue st stamp powerUps b
  else
    match dropOldestEvent st.queue with
    | some (carried, rest) =>
      joinQueue { st with queue := rest, eventLost := addTo 65535 st.eventLost (1 + carried) } stamp powerUps b
    | none =>
      if b.isEvent then { st with eventLost := incTo 65535 st.eventLost } else mergeCarry st b

end Sys2Proof.Machine
end

