-- ==== Sys2Proof/Machine/Ops.lean ====
section
/-! DEFINITION. The shared operations: appending a record, posting a frame to the transmit queue, posting the own STATUS,
counting past the top of a count, and the relay pulses. -/

namespace Sys2Proof.Machine

/-! ## Records -/

/-- A block appends a record, stamped with station-seconds and the power-up count (R171, R172). -/
def addRecord (s : State) (b : RecordBody) : State :=
  { s with records := appendTo s.records s.stationSeconds s.powerUps b }

/-- A block appends an EVENT record. -/
def addEvent (s : State) (e : Event) : State := addRecord s (.event e)

/-! ## The transmit queue (R11 to R16) -/

/-- The capacity of the transmit queue (R11). -/
abbrev txCap : Nat := 8

/-- The place of a posted frame: after every frame of its own class or a lower one (R11). -/
def queueInsert (f : TxFrame) : List TxFrame → List TxFrame
  | [] => [f]
  | g :: rest => if g.cls ≤ f.cls then g :: queueInsert f rest else f :: g :: rest

/-- The queue without its STATUS. -/
def withoutStatus (q : List TxFrame) : List TxFrame := q.filter (fun g => !g.isStatus)

/-- Whether the queue holds a STATUS that may be evicted: one not on the line (R13). A newer STATUS whose older body is on
the line (R12) is not on it itself, and may be evicted (DESIGN CHOICE, log 49). -/
def evictable (q : List TxFrame) : Bool := q.any (fun g => g.isStatus && !g.onLine)

/-- The line controller takes a posted frame (R11 to R13). A STATUS takes the place of the queued one, which stays on
the line as the older body where it is being sent (R12). -/
def acceptFrame (l : LineCtl) (f : TxFrame) : LineCtl :=
  if f.isStatus then
    match l.queue.find? TxFrame.isStatus with
    | some old =>
      { l with
          queue := queueInsert f (withoutStatus l.queue)
          older := if old.onLine then some old else l.older }
    | none => if l.queue.length < txCap then { l with queue := queueInsert f l.queue } else l
  else if l.queue.length < txCap then { l with queue := queueInsert f l.queue }
  else if evictable l.queue then { l with queue := queueInsert f (withoutStatus l.queue) }
  else l

/-- A posted frame is refused: a full queue, no STATUS to evict, and the frame no STATUS (R13). -/
def refusesFrame (l : LineCtl) (f : TxFrame) : Bool :=
  !f.isStatus && decide (txCap ≤ l.queue.length) && !evictable l.queue

/-- Posted frames reach the queue: in RUN, not listen-only (R15, R16), and the station not held in reset. -/
def State.posts (s : State) : Bool := s.awake && s.station == .run && !s.line.listenOnly

/-- A frame as a block posts it, no attempt spent (R7). -/
def newFrame (dest : Nat) (b : Body) : TxFrame := { dest := dest, body := b, attempts := 0, onLine := false }

/-- A block posts a frame to the line controller; a refused one makes a TX_DROPPED record (R13). -/
def post (s : State) (dest : Nat) (b : Body) : State :=
  { s with
      line := if s.posts then acceptFrame s.line (newFrame dest b) else s.line
      records :=
        if s.posts && refusesFrame s.line (newFrame dest b) then
          appendTo s.records s.stationSeconds s.powerUps (.event (.txDropped (kindCode b.kind) dest .queueFull))
        else s.records }

/-- The station posts its own STATUS in RUN, with destination 0; the posting restarts the interval (R25). -/
def postStatus (s : State) : State :=
  { s with
      line :=
        match s.ownStatus with
        | some b =>
          if s.station = .run then
            { (if s.posts then acceptFrame s.line (newFrame 0 (.status b)) else s.line) with statusTimer := some 0 }
          else s.line
        | none => s.line }

/-! ## Counts whose value past the top the spec does not state (log 14) -/

/-- A 32-bit count `n` with `d` more: free where it would pass the top. -/
def countOn (free n d : Nat) : Nat := if n + d < two32 then n + d else (Config.pastTheTop free).toNat

/-- A 16-bit count with one more: free where it would pass the top. -/
def countOn16 (free n : Nat) : Nat := if n + 1 < 65536 then n + 1 else (Config.pastTheTop free).toNat % 65536

/-- The free-value counter after a count of the given top. -/
def freeAfter (top free n d : Nat) : Nat := if n + d < top then free else free + 1

/-- One more for a count that wraps from `top` to 1 (period, ticket and docket numbers: 00_scope section 4.2). -/
def nextNumber (top n : Nat) : Nat := if n < top then n + 1 else 1

/-! ## Relay pulses of a SET (R49) -/

/-- A pulse begins on a coil: an earlier pulse on the same relay ends, and the command takes the coil's side. -/
def startPulse (p : Pulses) (o : Output) : Pulses :=
  match o with
  | .runOn => { p with engine := some .runOn }
  | .runOff => { p with engine := some .runOff }
  | .brkClose => { p with breaker := some .brkClose }
  | .brkOpen => { p with breaker := some .brkOpen }

/-- The duty controller's commands after a pulse; a change of the breaker command sets the disagreement count to 0
(R49, R62). -/
def commandBy (d : Duty) (o : Output) : Duty :=
  match o with
  | .runOn => { d with runOn := true }
  | .runOff => { d with runOn := false }
  | .brkClose => { d with brkClosed := true, disagree := if d.brkClosed then d.disagree else 0 }
  | .brkOpen => { d with brkClosed := false, disagree := if d.brkClosed then 0 else d.disagree }

/-- The duty controller pulses a relay (R49). -/
def pulse (s : State) (o : Output) : State :=
  { s with pulses := startPulse s.pulses o, duty := commandBy s.duty o }

/-- Pulses and switch commands end, as at a restart, a loss of main supply and a held RESET; the relay or switch holds
where it had reached (R49, R93, R199). -/
def endPulses (s : State) : State := { s with pulses := { engine := none, breaker := none } }

end Sys2Proof.Machine
end

