-- ==== Sys2Proof/Machine/Duty.lean ====
section
/-! DEFINITION. The duty controller of a SET (chapter 4): states and their entries, run mode, fault list, feed list,
adoption, its one-second work and its expiries. -/

namespace Sys2Proof.Machine

/-! ## Replies of the headroom arbiter that a duty change draws (R83, R84) -/

/-- The reservation list without a board's entry. -/
def withoutBoard (board : Nat) (l : List Reservation) : List Reservation := l.filter (fun r => r.board != board)

/-- A TAKE_REPLY, its headroom as it stands (R83). -/
def replyTo (s : State) (board ticket verdict reason hold : Nat) : State :=
  post s board (.takeReply ticket verdict reason s.headroomSent hold)

/-- One entry is removed and its board answered REFUSE with the given reason (R84). -/
def refuseEntry (reason : Nat) (s : State) (r : Reservation) : State :=
  replyTo { s with reservations := withoutBoard r.board s.reservations } r.board r.ticket verdictRefuse reason 0

/-- Every entry is removed in list order with a REFUSE (R84). -/
def refuseAll (s : State) (reason : Nat) : State := s.reservations.foldl (refuseEntry reason) s

/-- The headroom against which a PENDING entry is re-checked: the GRANTED entries alone counted (R84). -/
def recheckHeadroom (s : State) : Int :=
  (s.image.usable : Int) - s.basis - sumOf ((s.reservations.filter (fun r => r.hold.isSome)).map Reservation.load)

/-- The re-check of one PENDING entry on entry to READY from WARMING (R84). -/
def recheckEntry (s : State) (r : Reservation) : State :=
  if (r.load : Int) ≤ recheckHeadroom s then
    replyTo
      { s with
          reservations :=
            s.reservations.map (fun q => if q.board = r.board then { q with hold := some s.image.holdTime } else q) }
      r.board r.ticket verdictGrant reasonNone s.image.holdTime
  else refuseEntry reasonHeadroom s r

/-- The re-check of the PENDING entries in list order (R84). -/
def recheckAll (s : State) : State :=
  (s.reservations.filter (fun r => r.hold.isNone)).foldl recheckEntry s

/-! ## Duty states (R51 to R56) -/

/-- The duty state and cooling origin change; outside READY the burn silence count, and outside READY and UNLOADING the
overload count, is 0 (R48, R62). -/
def setDuty (s : State) (d : DutyState) (origin : Option Origin) : State :=
  { s with
      duty := { s.duty with
        state := d
        origin := origin
        overload := if d = .ready ∨ d = .unloading then s.duty.overload else 0
        burnSilence := if d = .ready then s.duty.burnSilence else 0 } }

/-- The state timer set to 0 (R51, R52, R55, R56). -/
def zeroTimer (s : State) : State := { s with duty := { s.duty with timer := 0 } }

/-- Entry to READY from WARMING or from COOLING: BRK_CLOSE, idle count 0, PENDING re-checked, STATUS (R53, R67). -/
def enterReady (s : State) (fromWarming : Bool) : State :=
  let s1 := setDuty s .ready none
  let s2 := pulse { s1 with duty := { s1.duty with idle := 0 } } .brkClose
  postStatus (if fromWarming then recheckAll s2 else s2)

/-- Entry to WARMING; with WARMUP 0 the set enters READY in the same event (R52). -/
def enterWarming (s : State) : State :=
  let s1 := postStatus (zeroTimer (setDuty s .warming none))
  if s.image.warmupTime = 0 then enterReady s1 true else s1

/-- Entry to STARTING: RUN_ON, one more start, and WARMING at once where ENGINE_READY is present (R51). -/
def startEngine (s : State) : State :=
  let s1 := pulse (zeroTimer (setDuty s .starting none)) .runOn
  let s2 := { s1 with
    duty := { s1.duty with starts := countOn s.free s.duty.starts 1 }
    free := freeAfter two32 s.free s.duty.starts 1 }
  let s3 := postStatus s2
  if s.input 1 then enterWarming s3 else s3

/-- A set in OFF with mode PRIME and no start inhibit starts (R51, R63). -/
def primeStart (s : State) : State :=
  if s.duty.state = .off ∧ s.duty.mode = .prime ∧ s.inhibit = false then startEngine s else s

/-- Entry to OFF; in PRIME the set starts again (R51). -/
def enterOff (s : State) : State := primeStart (postStatus (setDuty s .off none))

/-- Entry to COOLING: BRK_OPEN, timer 0; with COOLDOWN 0 RUN_OFF and OFF in the same event (R55). -/
def enterCooling (s : State) (origin : Origin) : State :=
  let s1 := postStatus (pulse (zeroTimer (setDuty s .cooling (some origin))) .brkOpen)
  if s.image.cooldownTime = 0 then enterOff (pulse s1 .runOff) else s1

/-- The test for the end of unloading: both lists empty (R56). -/
def unloadTest (s : State) : State :=
  if s.duty.state = .unloading ∧ s.duty.feed = [] ∧ s.reservations = [] then enterCooling s .stopping else s

/-- Entry to UNLOADING: timer 0, stall noted no, reservations removed, STATUS, then the test (R56). -/
def enterUnloading (s : State) : State :=
  let s1 := zeroTimer (setDuty s .unloading none)
  let s2 := { s1 with duty := { s1.duty with stallNoted := false } }
  unloadTest (postStatus (refuseAll s2 reasonStopping))

/-- Entry to FAULT: reservations removed with REFUSE FAULT, STATUS (R67). -/
def enterFault (s : State) : State := postStatus (refuseAll (setDuty s .fault none) reasonFault)

/-- TRIP: BRK_OPEN and RUN_OFF pulsed, FAULT (R63). -/
def trip (s : State) : State := enterFault (pulse (pulse s .brkOpen) .runOff)

/-- STARTING to OFF: RUN_OFF, reservations removed with REFUSE STOPPING (R51, R67). -/
def abandonStart (s : State) : State := enterOff (refuseAll (pulse (setDuty s .off none) .runOff) reasonStopping)

/-- WARMING to COOLING, reservations removed with REFUSE STOPPING (R52, R67). -/
def abandonWarming (s : State) : State :=
  enterCooling (refuseAll (setDuty s .cooling (some .stopping)) reasonStopping) .stopping

/-- The active reaction acts on the duty state (R63). -/
def actReaction (s : State) : State :=
  match s.activeReaction with
  | .trip => if s.duty.state = .fault then s else trip s
  | .unload =>
    match s.duty.state with
    | .off => s
    | .starting => abandonStart s
    | .warming => abandonWarming s
    | .ready => enterUnloading s
    | .unloading => s
    | .cooling => setDuty s .cooling (some .stopping)
    | .fault => s
  | .alarm => s
  | .ignore => s

/-- The run mode acts on the duty state (R57). -/
def actMode (s : State) : State :=
  match s.duty.state with
  | .off => primeStart s
  | .starting => if s.duty.mode = .stop then abandonStart s else s
  | .warming => if s.duty.mode = .stop then abandonWarming s else s
  | .ready => if s.duty.mode = .stop then enterUnloading s else s
  | .unloading => s
  | .cooling =>
    match s.duty.mode with
    | .auto => s
    | .prime => if s.duty.origin = some .idle then enterReady s false else s
    | .stop => setDuty s .cooling (some .stopping)
  | .fault => s

/-! ## Conditions and the fault list (R61, R64) -/

/-- Whether a class has an entry in the fault list. -/
def State.listed (s : State) (c : FaultClass) : Bool := s.duty.faults.any (fun e => e.cls == c)

/-- The fault list after a raising: a renewed entry, or a new one at the end (R64). -/
def raisedList (l : List FaultEntry) (c : FaultClass) (stamp : Nat) (present : Bool) : List FaultEntry :=
  if l.any (fun e => e.cls == c) then
    l.map (fun e => if e.cls = c then { e with raisedAt := stamp, present := present } else e)
  else l ++ [{ cls := c, raisedAt := stamp, present := present, acked := false }]

/-- An entry is raised and the event recorded; a joining posts a STATUS (R64). -/
def raiseEntry (s : State) (c : FaultClass) (present : Bool) (e : Event) : State :=
  let s1 := addEvent { s with
    duty := { s.duty with faults := raisedList s.duty.faults c s.stationSeconds present } } e
  if s.listed c then s1 else postStatus s1

/-- A condition arises, its reaction not yet acting (R61, R64). -/
def raiseOnly (s : State) (c : FaultClass) : State :=
  if s.present c then s
  else
    let s1 := { s with duty := { s.duty with conditions := s.duty.conditions ++ [c] } }
    if s.image.reaction c = .ignore then s1 else raiseEntry s1 c true (.faultRaised c s.duty.state)

/-- A condition arises and the active reaction acts (R63, R64). -/
def raiseCondition (s : State) (c : FaultClass) : State := if s.present c then s else actReaction (raiseOnly s c)

/-- Whether an entry stays in the list: it leaves when GONE and acknowledged (R64). -/
def FaultEntry.stays (e : FaultEntry) : Bool := e.present || !e.acked

/-- Entries that are GONE and acknowledged leave; a leaving posts a STATUS (R64). -/
def dropSettled (s : State) : State :=
  let s1 := { s with duty := { s.duty with faults := s.duty.faults.filter FaultEntry.stays } }
  if s.duty.faults.all FaultEntry.stays then s1 else postStatus s1

/-- A condition goes: its entry becomes GONE, FAULT_CLEARED is recorded, and a set whose start inhibit clears may start
(R61, R63, R64). -/
def clearCondition (s : State) (c : FaultClass) : State :=
  if s.present c then
    let s1 := { s with duty := { s.duty with conditions := s.duty.conditions.filter (fun d => d != c) } }
    let s2 :=
      if s.image.reaction c = .ignore then s1
      else
        dropSettled (addEvent { s1 with
          duty := { s1.duty with
            faults := s1.duty.faults.map (fun e => if e.cls = c then { e with present := false } else e) } }
          (.faultCleared c))
    if s.inhibit && !s2.inhibit then primeStart s2 else s2
  else s

/-- START_FAIL: recorded in place of FAULT_RAISED, its entry joining with condition GONE (R64). -/
def raiseStartFail (s : State) : State := raiseEntry s .startFail false .startFail

/-- Conditions that go by what the event left: ENGINE_FAULT with the input absent and the run command OFF, BREAKER where
feedback and command agree, BURN_SILENT outside READY (R61). R61 names no order for several that go in one event: they go
in this one (DESIGN CHOICE, log 39). -/
def settle (s : State) : State :=
  let s1 := if s.input 3 = false ∧ s.duty.runOn = false then clearCondition s .engineFault else s
  let s2 := if s1.input 2 = s1.duty.brkClosed then clearCondition s1 .breaker else s1
  if s2.duty.state = .ready then s2 else clearCondition s2 .burnSilent

/-- An event of the duty controller: in a SET in RUN, `f` and what it settles. -/
def dutyEvent (s : State) (f : State → State) : State := whenRuns .set s (fun t => settle (f t))

/-! ## The feed list (R68 to R71) -/

/-- Whether a board is listed. -/
def State.feeds (s : State) (board : Nat) : Bool := s.duty.feed.any (fun e => e.board == board)

/-- The capacity of the feed list (R68). -/
abbrev feedCap : Nat := 8

/-- A board leaves the feed list, and the end of unloading is tested (R56, R70, R71). -/
def feedRemove (s : State) (board : Nat) : State :=
  if s.feeds board then
    unloadTest { s with duty := { s.duty with feed := s.duty.feed.filter (fun e => e.board != board) } }
  else s

/-- A listed board's load is replaced and its entry confirmed (R68, R70). -/
def feedUpdate (s : State) (board load : Nat) : State :=
  { s with
      duty := { s.duty with
        feed := s.duty.feed.map (fun e => if e.board = board then { e with load := load, confirmed := true } else e) } }

/-- A board joins at the end, CONFIRMED, and leaves the overflow set (R68, R69). -/
def feedJoin (s : State) (board load : Nat) : State :=
  { s with
      duty := { s.duty with
        feed := s.duty.feed ++ [{ board := board, load := load, confirmed := true, joined := s.stationSeconds }]
        overflow := s.duty.overflow.filter (fun b => b != board) } }

/-- A full list: FEED_FULL once, and the board joins the overflow set (R68). -/
def feedFull (s : State) (board : Nat) : State :=
  if s.duty.overflow.contains board then s
  else addEvent { s with duty := { s.duty with overflow := s.duty.overflow ++ [board] } } (.feedFull board)

/-- The duty controller places a committed board (R68). -/
def feedPlace (s : State) (board load : Nat) : State :=
  if s.feeds board then feedUpdate s board load
  else if s.duty.feed.length < feedCap then feedJoin s board load
  else feedFull s board

/-- Whether a BOARD STATUS shows IDLE or LOCKED (R69, R70). -/
def BoardStatus.settled (b : BoardStatus) : Bool := b.state == chgCode .idle || b.state == chgCode .locked

/-- A BOARD STATUS that the peer table hands to the duty controller (R69, R70). -/
def feedStatus (s : State) (board : Nat) (b : BoardStatus) : State :=
  let here := s.image.station == some b.feeding
  if s.feeds board then
    if b.settled && !here then
      feedRemove { s with duty := { s.duty with overflow := s.duty.overflow.filter (fun n => n != board) } } board
    else feedUpdate s board b.load
  else if here && b.settled && !s.reservations.any (fun r => r.board == board) then
    if s.duty.feed.length < feedCap then addEvent (feedJoin s board b.load) (.feedDiscovered board b.load)
    else feedFull s board
  else s

/-- A LOST notice makes the board's entry UNCONFIRMED (R70). -/
def feedLost (s : State) (board : Nat) : State :=
  { s with
      duty := { s.duty with
        feed := s.duty.feed.map (fun e => if e.board = board then { e with confirmed := false } else e) } }

/-! ## Adoption (R59, R72) -/

/-- The duty controller as adoption leaves it before the conditions act: state and commands from the inputs, every list
empty, every count 0 (R59, R72). The last row of R59 is adopted OFF with the breaker command CLOSED; BREAKER then trips
it (log 18). -/
def adoptedDuty (s : State) (mode : RunMode) : Duty where
  state := if s.input 1 then (if s.input 2 then .ready else .warming) else .off
  origin := none
  mode := mode
  runOn := s.input 1
  brkClosed := s.input 2
  timer := 0
  idle := 0
  stallNoted := false
  disagree := 0
  overload := 0
  burnSilence := 0
  conditions := []
  faults := []
  feed := []
  overflow := []
  starts := s.duty.starts
  runSeconds := s.duty.runSeconds

/-- The conditions that adoption finds present (R59): METER_LOST, ENGINE_FAULT, and BREAKER in the table's last row. R59
names no order for several found at once: they are raised in this one (DESIGN CHOICE, log 39). -/
def adoptedConditions (s : State) : List FaultClass :=
  (if (s.channel 0).state = .lost then [.meterLost] else []) ++ (if s.input 3 then [.engineFault] else []) ++
    (if s.input 2 && !s.input 1 then [.breaker] else [])

/-- A set adopted WARMING with WARMUP 0 enters READY (R52, log 19). -/
def warmNow (s : State) : State :=
  if s.duty.state = .warming ∧ s.image.warmupTime = 0 then enterReady s true else s

/-- Adoption of a duty state at START and at a warm restart (R59, R72). -/
def adoptDuty (s : State) (mode : RunMode) : State :=
  let s1 := { s with duty := adoptedDuty s mode }
  let s2 := (adoptedConditions s).foldl raiseOnly s1
  settle (warmNow (actMode (actReaction s2)))

/-! ## One second of the duty controller (R51 to R56, R62, R72) -/

/-- The limit of the state timer in each state. -/
def State.timerLimit (s : State) : Nat :=
  match s.duty.state with
  | .starting => s.image.startLimit
  | .warming => s.image.warmupTime
  | .unloading => s.image.unloadTime
  | .cooling => s.image.cooldownTime
  | .off | .ready | .fault => 0

/-- Whether the state timer runs in the state. -/
def DutyState.timed : DutyState → Bool
  | .starting | .warming | .unloading | .cooling => true
  | .off | .ready | .fault => false

/-- The idle count after a second (R54). -/
def idleNext (s : State) : Nat :=
  if s.duty.mode = .auto then
    if s.duty.state = .ready then
      if s.duty.feed = [] ∧ s.reservations = [] then incTo s.image.idleLimit s.duty.idle else 0
    else s.duty.idle
  else 0

/-- The overload count after a second (R62). -/
def overloadNext (s : State) : Nat :=
  if s.duty.state = .ready ∨ s.duty.state = .unloading then
    if s.image.ratedPower < s.output then incTo 60 s.duty.overload else 0
  else 0

/-- The burn silence count after a second; once at 120 it stays (R62, log 33). -/
def burnSilenceNext (s : State) : Nat :=
  if s.duty.state = .ready then
    if s.duty.burnSilence = 120 then 120
    else if s.image.ratedPower < s.output * 10 then incTo 120 s.duty.burnSilence
    else 0
  else 0

/-- Lifetime run seconds grow while the run command is ON and ENGINE_READY present (R72). -/
def State.running (s : State) : Bool := s.duty.runOn && s.input 1

/-- The counts of the duty controller over one second (R51 to R56, R62, R72). -/
def dutyCounts (s : State) : State :=
  { s with
      duty := { s.duty with
        timer := if s.duty.state.timed then incTo s.timerLimit s.duty.timer else s.duty.timer
        idle := idleNext s
        disagree := if s.input 2 = s.duty.brkClosed then 0 else incTo 2 s.duty.disagree
        overload := overloadNext s
        burnSilence := burnSilenceNext s
        runSeconds := if s.running then countOn s.free s.duty.runSeconds 1 else s.duty.runSeconds }
      free := if s.running then freeAfter two32 s.free s.duty.runSeconds 1 else s.free }

/-- The second of the duty controller: its counts, and OVERLOAD goes where the output is at or below RATED (R61). -/
def dutySecond (s : State) : State :=
  let s1 := dutyCounts s
  settle (if s1.output ≤ s1.image.ratedPower then clearCondition s1 .overload else s1)

/-! ## Inputs (R50, R51, R55, R61) -/

/-- A field input takes a level (R50, R91, R198). -/
def setInput (s : State) (n : Nat) (level : Bool) : State := { s with inputs := s.inputs.set (n - 1) level }

/-- ENGINE_READY changes in a SET (R51, R52, R53, R55). -/
def engineReady (s : State) (level : Bool) : State :=
  if level then (if s.duty.state = .starting then enterWarming s else s)
  else
    match s.duty.state with
    | .warming | .ready | .unloading => raiseCondition s .engineFault
    | .cooling => enterOff (pulse s .runOff)
    | .off | .starting | .fault => s

/-- The breaker feedback changes: a count at 2 ends where it agrees (R62). -/
def breakerFeedback (s : State) : State :=
  if s.input 2 = s.duty.brkClosed ∧ s.duty.disagree = 2 then { s with duty := { s.duty with disagree := 0 } } else s

/-- The engine fault input changes: present, it raises ENGINE_FAULT (R61). -/
def engineFaultInput (s : State) (level : Bool) : State := if level then raiseCondition s .engineFault else s

/-! ## Expiries (R51, R52, R54, R55, R56, R62) -/

def State.startTimeoutDue (s : State) : Bool := s.duty.state == .starting && decide (s.image.startLimit ≤ s.duty.timer)

def State.warmupDue (s : State) : Bool := s.duty.state == .warming && decide (s.image.warmupTime ≤ s.duty.timer)

def State.idleStopDue (s : State) : Bool :=
  s.duty.state == .ready && s.duty.mode == .auto && decide (s.image.idleLimit ≤ s.duty.idle) && s.duty.feed.isEmpty &&
    s.reservations.isEmpty

def State.cooldownDue (s : State) : Bool := s.duty.state == .cooling && decide (s.image.cooldownTime ≤ s.duty.timer)

def State.unloadLimitDue (s : State) : Bool :=
  s.duty.state == .unloading && decide (s.image.unloadTime ≤ s.duty.timer) && !s.duty.feed.isEmpty && !s.duty.stallNoted

def State.disagreementDue (s : State) : Bool :=
  decide (2 ≤ s.duty.disagree) && !s.present .breaker && s.input 2 != s.duty.brkClosed

def State.overloadDue (s : State) : Bool :=
  (s.duty.state == .ready || s.duty.state == .unloading) && decide (60 ≤ s.duty.overload) && !s.present .overload

def State.burnSilenceDue (s : State) : Bool :=
  s.duty.state == .ready && decide (120 ≤ s.duty.burnSilence) && !s.present .burnSilent

/-- The failed start: RUN_OFF, START_FAIL, FAULT (R51). -/
def startFailed (s : State) : State := enterFault (raiseStartFail (pulse s .runOff))

/-- Stall noted with its record (R56). -/
def unloadStalled (s : State) : State :=
  addEvent { s with duty := { s.duty with stallNoted := true } } (.unloadStalled (s.duty.feed.map FeedEntry.board))

def startTimeoutStep (s : State) : State := dutyEvent s (fun t => if t.startTimeoutDue then startFailed t else t)

def warmupStep (s : State) : State := dutyEvent s (fun t => if t.warmupDue then enterReady t true else t)

def idleStopStep (s : State) : State := dutyEvent s (fun t => if t.idleStopDue then enterCooling t .idle else t)

def cooldownStep (s : State) : State := dutyEvent s (fun t => if t.cooldownDue then enterOff (pulse t .runOff) else t)

def unloadLimitStep (s : State) : State := dutyEvent s (fun t => if t.unloadLimitDue then unloadStalled t else t)

def disagreementStep (s : State) : State :=
  dutyEvent s (fun t => if t.disagreementDue then raiseCondition t .breaker else t)

def overloadStep (s : State) : State := dutyEvent s (fun t => if t.overloadDue then raiseCondition t .overload else t)

def burnSilenceStep (s : State) : State :=
  dutyEvent s (fun t => if t.burnSilenceDue then raiseCondition t .burnSilent else t)

/-- The end of the pulse under way on a coil (R49). -/
def pulseEnd (s : State) (coil : Output) : State :=
  { s with
      pulses := {
        engine := if s.pulses.engine = some coil then none else s.pulses.engine
        breaker := if s.pulses.breaker = some coil then none else s.pulses.breaker } }

/-! ## The meanings of the rows -/

/-- RELAY_PULSE_END (R49). -/
def execRelayPulseEnd (coil : Output) (s : State) : Host.Outcome State Fault Refusal :=
  .next (whenAwake s (fun t => pulseEnd t coil))

/-- START_TIMEOUT_EXPIRY (R51). -/
def execStartTimeoutExpiry (s : State) : Host.Outcome State Fault Refusal := .next (startTimeoutStep s)

/-- WARMUP_EXPIRY (R52). -/
def execWarmupExpiry (s : State) : Host.Outcome State Fault Refusal := .next (warmupStep s)

/-- IDLE_STOP_EXPIRY (R54). -/
def execIdleStopExpiry (s : State) : Host.Outcome State Fault Refusal := .next (idleStopStep s)

/-- COOLDOWN_EXPIRY (R55). -/
def execCooldownExpiry (s : State) : Host.Outcome State Fault Refusal := .next (cooldownStep s)

/-- UNLOAD_LIMIT_EXPIRY (R56). -/
def execUnloadLimitExpiry (s : State) : Host.Outcome State Fault Refusal := .next (unloadLimitStep s)

/-- DISAGREEMENT_COUNT_EXPIRY (R62). -/
def execDisagreementCountExpiry (s : State) : Host.Outcome State Fault Refusal := .next (disagreementStep s)

/-- OVERLOAD_COUNT_EXPIRY (R62). -/
def execOverloadCountExpiry (s : State) : Host.Outcome State Fault Refusal := .next (overloadStep s)

/-- BURN_SILENCE_EXPIRY (R62). -/
def execBurnSilenceExpiry (s : State) : Host.Outcome State Fault Refusal := .next (burnSilenceStep s)

end Sys2Proof.Machine
end

