-- ==== Sys2Proof/Machine/Fuel.lean ====
section
/-! DEFINITION. The tank monitor of a SET (chapter 7): the loop, the filter, live content, content modes, burn buckets,
TTE, empty state and dry flag, and the pulses of its two meters. -/

namespace Sys2Proof.Machine

/-! ## The loop second (R116) -/

/-- The loop second value: the mean of the ten samples, each at most 25,000 µA (R116). -/
def loopMean (samples : List Nat) : Nat := sumOf (samples.map (fun x => min 25000 x)) / 10

/-- The class of a loop second (R116). -/
def classOf (value : Nat) : LoopClass :=
  if value < 2000 then .opened
  else if value < 3600 then .under
  else if value ≤ 20500 then .inRange
  else if value ≤ 22000 then .over
  else .fault

/-- The value a second enters into the filter (R116). -/
def filterValue (i : Image) (c : LoopClass) (value : Nat) : Nat :=
  match c with
  | .under => i.calLow
  | .over => i.calHigh
  | .opened | .inRange | .fault => value

/-- A value joins the filter; the oldest leaves a full one (R118). -/
def enterFilter (i : Image) (l : List Nat) (v : Nat) : List Nat := lastOf i.filterLength (l ++ [v])

/-! ## Level and content (R118 to R120) -/

/-- The filter average, absent with no value held (R118). -/
def Tank.filterAverage (t : Tank) : Option Nat := if t.filter = [] then none else some (sumOf t.filter / t.filter.length)

/-- The level of a filter average (R119). -/
def levelOf (i : Image) (avg : Nat) : Nat := min i.spanMm ((avg - i.calLow) * i.spanMm / (i.calHigh - i.calLow))

/-- The volume at a level by the strapping table (R120). -/
def volumeAt (level : Nat) : List StrapPoint → Nat
  | [] => 0
  | [p] => p.volume
  | p :: q :: rest =>
    if level < p.level then p.volume
    else if level < q.level then p.volume + (level - p.level) * (q.volume - p.volume) / (q.level - p.level)
    else volumeAt level (q :: rest)

/-- The live level: absent while the loop is BAD or the filter empty (R119). -/
def liveLevelOf (i : Image) (t : Tank) : Option Nat := if t.good then t.filterAverage.map (levelOf i) else none

/-- The live content (R120). -/
def liveContentOf (i : Image) (t : Tank) : Option Nat := (liveLevelOf i t).map (fun l => volumeAt l i.table)

/-! ## Holding (R124, R125) -/

/-- The dead-reckoned content: the held content less the burn and plus the inlet since, clamped (R124). -/
def reckon (s : State) (h : Hold) : Nat :=
  clampInt s.image.fullVolume ((h.content : Int) - diff32 s.burnCl h.burn + diff32 s.inletCl h.inlet)

/-- The capture band in cl (R125). -/
def Image.band (i : Image) : Nat := i.fullVolume * i.captureTenths / 1000

/-- A hold record opens in LIVE; a BAD loop in MATCHING returns to HELD with the record it has (R124). -/
def openHold (s : State) (cause : BadCause) : State :=
  match s.tank.mode with
  | .live =>
    { s with
        tank := { s.tank with
          mode := .held
          hold := some
            { content := s.tank.reported, burn := s.burnCl, inlet := s.inletCl, start := s.stationSeconds, cause := cause } } }
  | .matching => { s with tank := { s.tank with mode := .held } }
  | .unknown | .held => s

/-- The cause that a class names (R117). -/
def causeOf (c : LoopClass) : BadCause := if c = .fault then .fault else .opened

/-- Whether a class breaks the loop: OPEN or FAULT (R117). -/
def LoopClass.broken : LoopClass → Bool
  | .opened | .fault => true
  | .under | .inRange | .over => false

/-- The loop judged by the class of its second (R117). A fifth qualifying second leaves LOOP_QUALIFIED to come
(log 16). -/
def judgeLoop (s : State) : State :=
  let t := s.tank
  let c := t.loopClass
  if t.good then
    if c.broken then
      dutyEvent
        (openHold { s with
          tank := { t with good := false, badCause := some (causeOf c), filter := [], qualifying := 0 } } (causeOf c))
        (fun u => raiseCondition u .levelLoop)
    else { s with tank := { t with filter := enterFilter s.image t.filter (filterValue s.image c t.loopValue) } }
  else
    match c with
    | .inRange =>
      { s with
          tank := { t with
            qualifying := incTo 5 t.qualifying
            filter := enterFilter s.image t.filter t.loopValue
            stage := if 4 ≤ t.qualifying then some .qualifying else t.stage } }
    | .under | .over => { s with tank := { t with qualifying := 0, filter := [] } }
    | .opened | .fault => { s with tank := { t with qualifying := 0, filter := [], badCause := some (causeOf c) } }

/-- The live content is adopted: mode LIVE, hold cleared (R125). -/
def adoptLive (s : State) (v : Nat) : State :=
  { s with tank := { s.tank with mode := .live, reported := v, hold := none } }

/-- The step of an adoption: live less reported (R125). -/
def stepOf (v reported : Nat) : Int := (v : Int) - reported

/-- The live level and content of the second (R119, R120). -/
def formLive (s : State) : State :=
  { s with tank := { s.tank with liveLevel := liveLevelOf s.image s.tank, liveContent := liveContentOf s.image s.tank } }

/-- The comparison of a second in MATCHING (R125); past the last one MATCHING_EXPIRY is to come (log 16). -/
def matchSecond (s : State) (h : Hold) : State :=
  let r := reckon s h
  match s.tank.liveContent with
  | some v =>
    if absDiff v r ≤ s.image.band then addEvent (adoptLive s v) (.levelRecovered (stepOf v r) h.start h.cause)
    else if s.tank.matching < 120 then
      { s with tank := { s.tank with reported := r, matching := s.tank.matching + 1 } }
    else { s with tank := { s.tank with reported := r, stage := some .matching } }
  | none => { s with tank := { s.tank with reported := r } }

/-- The content mode and the reported content of the second (R123 to R125). -/
def formContent (s : State) : State :=
  match s.tank.mode, s.tank.liveContent, s.tank.hold with
  | .unknown, some v, _ => adoptLive s v
  | .unknown, none, _ => s
  | .live, some v, _ => { s with tank := { s.tank with reported := v } }
  | .live, none, _ => s
  | .held, _, some h => { s with tank := { s.tank with reported := reckon s h } }
  | .held, _, none => s
  | .matching, _, some h => matchSecond s h
  | .matching, _, none => s

/-! ## Minute, TTE, empty state, dry flag (R126 to R130) -/

/-- TTE in minutes (R127). -/
def tteOf (s : State) : Nat :=
  if s.tank.mode = .unknown then 65535
  else if s.tank.reported ≤ s.image.reserveCl then 0
  else
    match s.tank.rate with
    | none => 65535
    | some r => if r = 0 then 65535 else min 65534 ((s.tank.reported - s.image.reserveCl) / r)

/-- The empty state (R128). -/
def emptyNow (s : State) : Bool := s.tank.mode != .unknown && decide (s.tank.reported ≤ s.image.reserveCl)

/-- TTE of the second (R127). -/
def formTte (s : State) : State := { s with tank := { s.tank with tte := tteOf s } }

/-- The empty state of the second, its passage handed to the duty controller (R128). -/
def formEmpty (s : State) : State :=
  let s1 := { s with tank := { s.tank with empty := emptyNow s } }
  if emptyNow s = s.tank.empty then s1
  else
    dutyEvent s1 (fun t => if t.tank.empty then raiseCondition t .tankEmpty else clearCondition t .tankEmpty)

/-- The dry flag of the second (R129, R130). -/
def formDry (s : State) : State :=
  if s.tank.dry then
    if s.image.dryMinutes + 15 ≤ s.tank.tte then postStatus { s with tank := { s.tank with dry := false } } else s
  else if s.tank.tte < s.image.dryMinutes ∧ (s.duty.state = .ready ∨ s.duty.state = .unloading) then
    postStatus (post { s with tank := { s.tank with dry := true } } 0 (.dry s.tank.tte (litres s.tank.reported)))
  else s

/-- What follows the minute: TTE, empty state, dry flag (section 7.1). -/
def finishTank (s : State) : State := formDry (formEmpty (formTte s))

/-- The minute's own second: at the 60th MINUTE_END is to come (R126, log 16). -/
def minuteSecond (s : State) : State :=
  if 59 ≤ s.tank.minuteSeconds then
    { s with tank := { s.tank with minuteSeconds := 60, stage := some .minute } }
  else finishTank { s with tank := { s.tank with minuteSeconds := s.tank.minuteSeconds + 1 } }

/-- The figures of the present second that a delivery reads follow the content once it is formed (log 26). -/
def refreshNow (s : State) : State :=
  { s with
      delivery := { s.delivery with
        now := s.delivery.now.map (fun a => { a with content := s.tank.reported, mode := s.tank.mode }) } }

/-- From the content on: content, then the minute, unless MATCHING_EXPIRY is to come (section 7.1). -/
def contentOn (s : State) : State :=
  let s1 := formContent (formLive s)
  if s1.tank.stage = some .matching then s1 else minuteSecond s1

/-- The loop second value and class are measured (R116); in a BOARD or TANKER in RUN the loop is not read. -/
def measureLoop (samples : List Nat) (s : State) : State :=
  if s.station = .unconfigured ∨ s.image.role = some .set then
    { s with tank := { s.tank with loopValue := loopMean samples, loopClass := classOf (loopMean samples) } }
  else s

/-- The tank monitor's second in a SET in RUN, up to a step of its own that is to come (section 7.1, log 16). -/
def tankSecond (s : State) : State :=
  let s1 := judgeLoop s
  if s1.tank.stage = some .qualifying then s1 else contentOn s1

/-! ## The steps within the second (R117, R125, R126) -/

/-- Whether a part of the tank monitor's second is still to come. -/
def State.stageDue (s : State) (g : TankStage) : Bool := s.tank.stage == some g

/-- The loop becomes GOOD; HELD becomes MATCHING with count 0; LEVEL_LOOP goes (R117, R125). -/
def qualify (s : State) : State :=
  dutyEvent
    { s with
        tank := { s.tank with
          stage := none, good := true, badCause := none
          mode := if s.tank.mode = .held then .matching else s.tank.mode
          matching := if s.tank.mode = .held then 0 else s.tank.matching } }
    (fun t => clearCondition t .levelLoop)

/-- LEVEL_STEP: the live content is adopted without a match (R125). -/
def levelStep (s : State) : State :=
  match s.tank.hold, s.tank.liveContent with
  | some h, some v => addEvent (adoptLive s v) (.levelStep (stepOf v s.tank.reported) h.start h.cause)
  | _, _ => s

/-- The minute closes into the burn buckets and the next begins (R126). -/
def closeMinute (s : State) : State :=
  { s with
      tank := { s.tank with
        stage := none
        buckets := lastOf 10 (s.tank.buckets ++ [diff32 s.burnCl s.tank.minuteStart])
        minuteStart := s.burnCl
        minuteSeconds := 0 } }

def loopQualifiedStep (s : State) : State :=
  whenRuns .set s (fun t => if t.stageDue .qualifying then refreshNow (contentOn (qualify t)) else t)

def matchingStep (s : State) : State :=
  whenRuns .set s (fun t =>
    if t.stageDue .matching then
      refreshNow (minuteSecond { levelStep t with tank := { (levelStep t).tank with stage := none } })
    else t)

def minuteStep (s : State) : State :=
  whenRuns .set s (fun t => if t.stageDue .minute then finishTank (closeMinute t) else t)

/-! ## Pulses (R121, R122) -/

/-- The top of a pulse count (R121). -/
abbrev pulseTop : Nat := 281474976710655

/-- Whether the pulses of a role's meter are counted: in UNCONFIGURED and in RUN of that role, while main supply is on
(R121, R142, R180). -/
def State.counts (s : State) (r : Role) : Bool := s.mainOn && (s.station == .unconfigured || s.runs r)

/-- A pulse on BURN: counted, and in a SET in RUN the burn silence ends (R61, R62, R121, R122). -/
def burnPulse (s : State) : State :=
  if s.counts .set then
    dutyEvent { s with tank := { s.tank with burnPulses := incTo pulseTop s.tank.burnPulses } } (fun t =>
      clearCondition { t with duty := { t.duty with burnSilence := 0 } } .burnSilent)
  else s

/-- A pulse on INLET (R121). -/
def inletPulse (s : State) : State :=
  if s.counts .set then { s with tank := { s.tank with inletPulses := incTo pulseTop s.tank.inletPulses } } else s

/-! ## START and restarts (R126, R131) -/

/-- The tank monitor at START and at a warm restart (R131). -/
def startTank (s : State) : State :=
  { s with
      tank := { blankTank with
        loopValue := s.tank.loopValue, loopClass := s.tank.loopClass, burnPulses := s.tank.burnPulses,
        inletPulses := s.tank.inletPulses, minuteStart := s.burnCl } }

/-! ## The meanings of the rows -/

/-- BURN_PULSE (R121). -/
def execBurnPulse (s : State) : Host.Outcome State Fault Refusal := .next (burnPulse s)

/-- INLET_PULSE (R121). -/
def execInletPulse (s : State) : Host.Outcome State Fault Refusal := .next (inletPulse s)

/-- LOOP_QUALIFIED (R117). -/
def execLoopQualified (s : State) : Host.Outcome State Fault Refusal := .next (loopQualifiedStep s)

/-- MATCHING_EXPIRY (R125). -/
def execMatchingExpiry (s : State) : Host.Outcome State Fault Refusal := .next (matchingStep s)

/-- MINUTE_END (R126). -/
def execMinuteEnd (s : State) : Host.Outcome State Fault Refusal := .next (minuteStep s)

end Sys2Proof.Machine
end

