-- ==== Sys2Proof/Machine/Deliveries.lean ====
section
/-! DEFINITION. Deliveries (chapter 8): the session, inlet watch and verdict of a SET, and the open delivery and unbooked
run of a TANKER. -/

namespace Sys2Proof.Machine

/-! ## The SET: anchors, session, watch (R134 to R137) -/

/-- The figures as they stand (R134). -/
def anchorNow (s : State) : Anchor where
  time := s.stationSeconds
  inlet := s.inletCl
  burn := s.burnCl
  content := s.tank.reported
  mode := s.tank.mode

/-- A session opened on an anchor, phase OPEN, quiet count 0 (R135, R136). -/
def openedOn (a : Anchor) (tanker docket : Option Nat) : Session where
  tanker := tanker
  docket := docket
  dispensed := none
  anchor := a
  phase := .opened
  quiet := 0
  settle := 0

/-- The session changes. -/
def setSession (s : State) (x : Option Session) : State := { s with delivery := { s.delivery with session := x } }

/-- The rise that opens an unannounced session: 100 cl (R136). -/
abbrev watchRise : Nat := 100

/-- The inlet watch over a second (R136): it opens a session at a rise of 100 cl, else stands a second longer. -/
def watchSecond (d : SetDelivery) (w : Watch) (inlet : Nat) : SetDelivery :=
  if watchRise ≤ diff32 inlet w.anchor.inlet then { d with watch := none, session := some (openedOn w.anchor none none) }
  else { d with watch := some { w with age := incTo 60 w.age } }

/-- A session over a second: quiet count, the return from QUIET, settle timer (R137, R139). -/
def sessionSecond (x : Session) (changed : Bool) : Session :=
  { x with
      quiet := if changed then 0 else incTo 1800 x.quiet
      phase := if changed ∧ x.phase = .quiet then .opened else x.phase
      settle := if x.phase = .settling then incTo 60 x.settle else x.settle }

/-- Whether the lifetime inlet cl differs between two seconds' figures. -/
def inletMoved (earlier : Option Anchor) (inlet : Nat) : Bool :=
  match earlier with
  | some a => a.inlet != inlet
  | none => false

/-- The delivery unit's second in a SET (R136, R137). -/
def deliverySecond (s : State) : State :=
  let a := anchorNow s
  let d := { s.delivery with now := some a, before := s.delivery.now }
  let moved := inletMoved s.delivery.now a.inlet
  { s with
      delivery :=
        match d.session, d.watch with
        | some x, _ => { d with session := some (sessionSecond x moved) }
        | none, some w => watchSecond d w a.inlet
        | none, none =>
          if moved then { d with watch := d.before.map (fun b => { anchor := b, age := 0 }) } else d }

/-- DELIVER_OPEN taken by a SET (R135). -/
def deliverOpenFrame (s : State) (tanker docket : Nat) : State :=
  if docket = 0 then s
  else
    match s.delivery.session with
    | none =>
      let a := (s.delivery.watch.map Watch.anchor).getD (anchorNow s)
      post { s with
        delivery := { s.delivery with session := some (openedOn a (some tanker) (some docket)), watch := none } }
        tanker (.deliverAck docket ackReady)
    | some x =>
      if x.tanker = none then
        if x.phase = .opened then
          post (setSession s (some { x with tanker := some tanker, docket := some docket })) tanker
            (.deliverAck docket ackReady)
        else post s tanker (.deliverAck docket ackBusy)
      else if x.tanker = some tanker ∧ x.docket = some docket then post s tanker (.deliverAck docket ackReady)
      else post s tanker (.deliverAck docket ackBusy)

/-- Whether the session is of this tanker and docket. -/
def Session.isOf (x : Session) (tanker docket : Nat) : Bool := x.tanker == some tanker && x.docket == some docket

/-- A DOCKET with no session of its own (R138): the last result again, or UNKNOWN_DOCKET. -/
def answerDocket (s : State) (tanker docket : Nat) : State :=
  match s.delivery.last with
  | some l =>
    if l.tanker = tanker ∧ l.docket = docket then
      post s tanker (.deliverResult docket l.meterCheck l.levelCheck l.inlet l.rise)
    else post s tanker (.deliverResult docket meterUnknownDocket levelUnavailable 0 0)
  | none => post s tanker (.deliverResult docket meterUnknownDocket levelUnavailable 0 0)

/-- DOCKET taken by a SET (R138). -/
def docketFrame (s : State) (tanker docket dispensed : Nat) : State :=
  if docket = 0 then s
  else
    match s.delivery.session with
    | some x =>
      if x.isOf tanker docket then
        if x.phase = .settling then s
        else setSession s (some { x with dispensed := some dispensed, phase := .settling, settle := 0 })
      else answerDocket s tanker docket
    | none => answerDocket s tanker docket

/-! ## The verdict (R139 to R141) -/

/-- A content as a verdict takes it: unavailable where the mode is not LIVE (R134, R139). -/
def contentIn (mode : ContentMode) (content : Nat) : Option Nat := if mode = .live then some content else none

/-- The level tolerance (R140). -/
def levelTolerance (inlet full : Nat) : Nat := max (inlet * 2 / 100) (full / 100)

/-- The rise, 0 where a content is unavailable (R140). -/
def riseOf (before after : Option Nat) : Int :=
  match before, after with
  | some b, some a => (a : Int) - b
  | _, _ => 0

/-- The level check (R140). -/
def levelCheckOf (before after : Option Nat) (variance : Int) (tolerance : Nat) : Nat :=
  if before.isSome ∧ after.isSome then (if variance.natAbs ≤ tolerance then levelOk else levelMismatch)
  else levelUnavailable

/-- The meter check (R141). -/
def meterCheckOf (dispensed : Option Nat) (inlet : Nat) : Nat :=
  match dispensed with
  | none => meterNoDocket
  | some d => if absDiff inlet d ≤ max (d * 5 / 1000) 200 then meterOk else meterMismatch

/-- The figures and checks of a session at the end of settling, as the DELIVERY record carries them (R139 to R141). Where
the level check is UNAVAILABLE the variance is still that of R140 from the rise 0 (DESIGN CHOICE, log 43). -/
def verdictOf (s : State) (x : Session) : DeliveryRec :=
  let before := contentIn x.anchor.mode x.anchor.content
  let after := contentIn s.tank.mode s.tank.reported
  let inlet := diff32 s.inletCl x.anchor.inlet
  let burned := diff32 s.burnCl x.anchor.burn
  let rise := riseOf before after
  let variance := rise - ((inlet : Int) - burned)
  { tanker := x.tanker, docket := x.docket, openedAt := x.anchor.time, before := before, after := after, inlet := inlet,
    burned := burned, rise := rise, variance := variance,
    levelCheck := levelCheckOf before after variance (levelTolerance inlet s.image.fullVolume),
    dispensed := x.dispensed, meterVariance := x.dispensed.map (fun d => (inlet : Int) - d),
    meterCheck := meterCheckOf x.dispensed inlet }

/-- A watch may begin in the second in which a session closes (R136, log 26). -/
def watchAfter (d : SetDelivery) : Option Watch :=
  match d.now, d.before with
  | some a, some b => if a.inlet = b.inlet then none else some { anchor := b, age := 0 }
  | _, _ => none

/-- The verdict is recorded, an announced session's result posted and kept, and the session ends (R141). -/
def settleSession (s : State) (x : Session) : State :=
  let r := verdictOf s x
  let s1 := addRecord s (.delivery r)
  match x.tanker, x.docket with
  | some tanker, some docket =>
    let s2 := post s1 tanker (.deliverResult docket r.meterCheck r.levelCheck r.inlet r.rise)
    { s2 with
        delivery := { s2.delivery with
          session := none
          watch := watchAfter s2.delivery
          last := some
            { tanker := tanker, docket := docket, meterCheck := r.meterCheck, levelCheck := r.levelCheck,
              inlet := r.inlet, rise := r.rise } } }
  | _, _ => { s1 with delivery := { s1.delivery with session := none, watch := watchAfter s1.delivery } }

/-! ## Expiries of the SET's delivery unit -/

def State.watchDue (s : State) : Bool :=
  match s.delivery.watch with
  | some w => decide (60 ≤ w.age)
  | none => false

/-- The watch at its end: a rise reached by now opens a session, otherwise it ends (R136). -/
def endWatch (s : State) : State :=
  match s.delivery.watch with
  | some w =>
    if watchRise ≤ diff32 s.inletCl w.anchor.inlet then
      { s with delivery := { s.delivery with watch := none, session := some (openedOn w.anchor none none) } }
    else { s with delivery := { s.delivery with watch := none } }
  | none => s

/-- Where the quiet count moves the phase, the phase it moves to (R137). -/
def quietNext (x : Session) : Option Phase :=
  match x.phase with
  | .opened => if 120 ≤ x.quiet then some (if x.tanker = none then .settling else .quiet) else none
  | .quiet => if 1800 ≤ x.quiet then some .settling else none
  | .settling => none

def State.quietDue (s : State) : Bool :=
  match s.delivery.session with
  | some x => (quietNext x).isSome
  | none => false

/-- The quiet count moves the session on (R137); entry to SETTLING sets the settle timer to 0 (R139). -/
def quietMove (s : State) : State :=
  match s.delivery.session with
  | some x =>
    match quietNext x with
    | some p => setSession s (some { x with phase := p, settle := if p = .settling then 0 else x.settle })
    | none => s
  | none => s

def State.settleDue (s : State) : Bool :=
  match s.delivery.session with
  | some x => x.phase == .settling && decide (60 ≤ x.settle)
  | none => false

/-- The end of settling (R139). -/
def endSettling (s : State) : State :=
  match s.delivery.session with
  | some x => settleSession s x
  | none => s

def inletWatchStep (s : State) : State := whenRuns .set s (fun t => if t.watchDue then endWatch t else t)

def quietCountStep (s : State) : State := whenRuns .set s (fun t => if t.quietDue then quietMove t else t)

def settleTimerStep (s : State) : State := whenRuns .set s (fun t => if t.settleDue then endSettling t else t)

/-! ## The TANKER (R142 to R146) -/

/-- The dispensed figure of the open delivery so far (R144). -/
def dispensedSoFar (s : State) (o : OpenDelivery) : Nat := diff32 s.dispenseCl o.begin

/-- The dispensed figure as a read shows it: the one that DELIVERY_END fixed, until then the one so far (R144, R145, R147). -/
def dispensedShown (s : State) (o : OpenDelivery) : Nat := o.dispensed.getD (dispensedSoFar s o)

/-- A delivery ends with its DOCKET record; IDLE (R143, R144, R146). -/
def endDelivery (s : State) (r : DocketRec) : State :=
  addRecord { s with tanker := { s.tanker with state := .idle, delivery := none } } (.docket r)

/-- The DOCKET record of a delivery that did not end DONE (R146). -/
def undone (o : OpenDelivery) (dispensed : Nat) (outcome : DocketOutcome) : DocketRec where
  docket := o.docket
  target := o.target
  dispensed := dispensed
  outcome := outcome
  meterCheck := none
  levelCheck := none
  inlet := none
  rise := none

/-- The open delivery changes. -/
def setOpen (s : State) (o : OpenDelivery) : State := { s with tanker := { s.tanker with delivery := some o } }

/-- DELIVER_ACK taken by a TANKER (R143). -/
def deliverAckFrame (s : State) (sender docket answer : Nat) : State :=
  match s.tanker.state, s.tanker.delivery with
  | .opening, some o =>
    if o.target = sender ∧ o.docket = docket then
      if answer = ackReady then { s with tanker := { s.tanker with state := .dispensing } }
      else if answer = ackBusy then endDelivery s (undone o (dispensedSoFar s o) .busy)
      else s
    else s
  | _, _ => s

/-- DELIVER_RESULT taken by a TANKER (R144). -/
def deliverResultFrame (s : State) (sender docket meter level inlet : Nat) (rise : Int) : State :=
  match s.tanker.state, s.tanker.delivery with
  | .closing, some o =>
    if o.target = sender ∧ o.docket = docket then
      endDelivery s
        { docket := o.docket, target := o.target, dispensed := o.dispensed.getD 0, outcome := .done,
          meterCheck := some meter, levelCheck := some level, inlet := some inlet, rise := some rise }
    else s
  | _, _ => s

/-- The end of an unbooked run with its record (R145). -/
def endRun (s : State) : State :=
  match s.tanker.run with
  | some r =>
    addEvent { s with tanker := { s.tanker with run := none } } (.unbookedDispense (diff32 s.dispenseCl r.before) r.start)
  | none => s

/-- A delivery begins: a docket is taken and DELIVER_OPEN posted (R143). -/
def beginDelivery (s : State) (target : Nat) : State :=
  let s1 := endRun s
  post
    { s1 with
        tanker := { s1.tanker with
          state := .opening
          nextDocket := nextNumber 65535 s1.tanker.nextDocket
          delivery := some
            { target := target, docket := s1.tanker.nextDocket, begin := s1.dispenseCl, attempts := 1, timer := 0,
              again := false, dispensed := none } } }
    target (.deliverOpen s1.tanker.nextDocket)

/-- DELIVERY_END in DISPENSING: the figure is fixed and DOCKET posted (R144). -/
def closeDelivery (s : State) : State :=
  match s.tanker.delivery with
  | some o =>
    let figure := dispensedSoFar s o
    post
      { s with
          tanker := { s.tanker with state := .closing, delivery := some { o with dispensed := some figure, timer := 0 } } }
      o.target (.docket o.docket figure)
  | none => s

/-- The TANKER's second: step timer and unbooked run (R143, R144, R145). -/
def tankerSecond (s : State) : State :=
  { s with
      tanker := { s.tanker with
        delivery := s.tanker.delivery.map (fun o =>
          match s.tanker.state with
          | .opening => { o with timer := incTo 2 o.timer }
          | .closing => { o with timer := incTo 180 o.timer }
          | .idle | .dispensing => o)
        run := s.tanker.run.map (fun r => { r with quiet := incTo 120 r.quiet }) } }

/-- Whether a pulse now belongs to no delivery (R145). -/
def State.unbooked (s : State) : Bool := s.tanker.state == .idle || s.tanker.state == .closing

/-- The unbooked run after a change of dispense cl (R145). -/
def runAfter (s : State) (before : Nat) : Option UnbookedRun :=
  match s.tanker.run with
  | some r => some { r with quiet := 0 }
  | none => if s.unbooked then some { start := s.stationSeconds, before := before, quiet := 0 } else none

/-- A pulse on DISPENSE (R142, R145). -/
def dispensePulse (s : State) : State :=
  if s.counts .tanker then
    let s1 := { s with tanker := { s.tanker with pulses := incTo pulseTop s.tanker.pulses } }
    if s.awake && s.runs .tanker && s1.dispenseCl != s.dispenseCl then
      { s1 with tanker := { s1.tanker with run := runAfter s1 s.dispenseCl } }
    else s1
  else s

/-! ## Expiries of the TANKER -/

def State.openingDue (s : State) : Bool :=
  match s.tanker.state, s.tanker.delivery with
  | .opening, some o => decide (2 ≤ o.timer)
  | _, _ => false

/-- OPENING at 2 s: DELIVER_OPEN again, or NO_ANSWER after three attempts (R143). -/
def openingExpired (s : State) : State :=
  match s.tanker.delivery with
  | some o =>
    if o.attempts < 3 then
      post (setOpen s { o with attempts := o.attempts + 1, timer := 0 }) o.target (.deliverOpen o.docket)
    else endDelivery s (undone o (dispensedSoFar s o) .noAnswer)
  | none => s

def State.repeatDue (s : State) : Bool :=
  match s.tanker.state, s.tanker.delivery with
  | .closing, some o => decide (90 ≤ o.timer) && !o.again
  | _, _ => false

/-- CLOSING at 90 s: the DOCKET again, once, with the same figure (R144). -/
def docketAgain (s : State) : State :=
  match s.tanker.delivery with
  | some o => post (setOpen s { o with again := true }) o.target (.docket o.docket (o.dispensed.getD 0))
  | none => s

def State.resultDue (s : State) : Bool :=
  match s.tanker.state, s.tanker.delivery with
  | .closing, some o => decide (180 ≤ o.timer)
  | _, _ => false

/-- CLOSING at 180 s: RESULT_MISSING (R144). -/
def resultLost (s : State) : State :=
  match s.tanker.delivery with
  | some o => endDelivery s (undone o (o.dispensed.getD 0) .resultMissing)
  | none => s

def State.runDue (s : State) : Bool :=
  match s.tanker.run with
  | some r => decide (120 ≤ r.quiet)
  | none => false

def openingStep (s : State) : State := whenRuns .tanker s (fun t => if t.openingDue then openingExpired t else t)

def docketRepeatStep (s : State) : State := whenRuns .tanker s (fun t => if t.repeatDue then docketAgain t else t)

def resultMissingStep (s : State) : State := whenRuns .tanker s (fun t => if t.resultDue then resultLost t else t)

def unbookedRunStep (s : State) : State := whenRuns .tanker s (fun t => if t.runDue then endRun t else t)

/-! ## START and restarts (R147) -/

/-- The SET's delivery unit at START: everything absent, the figures of START to compare with (R134, R136, log 26). -/
def startDelivery (s : State) : State :=
  { s with delivery := { session := none, watch := none, last := none, now := some (anchorNow s), before := none } }

/-- The TANKER's unit after a restart: the open delivery and the run are lost (R145, R147). -/
def restartTanker (t : Tanker) : Tanker := { t with state := .idle, delivery := none, run := none }

/-! ## The meanings of the rows -/

/-- DISPENSE_PULSE (R142, R145). -/
def execDispensePulse (s : State) : Host.Outcome State Fault Refusal := .next (dispensePulse s)

/-- INLET_WATCH_EXPIRY (R136). -/
def execInletWatchExpiry (s : State) : Host.Outcome State Fault Refusal := .next (inletWatchStep s)

/-- QUIET_COUNT_EXPIRY (R137). -/
def execQuietCountExpiry (s : State) : Host.Outcome State Fault Refusal := .next (quietCountStep s)

/-- SETTLE_TIMER_EXPIRY (R139, R140, R141). -/
def execSettleTimerExpiry (s : State) : Host.Outcome State Fault Refusal := .next (settleTimerStep s)

/-- OPENING_TIMEOUT (R143). -/
def execOpeningTimeout (s : State) : Host.Outcome State Fault Refusal := .next (openingStep s)

/-- DOCKET_REPEAT (R144). -/
def execDocketRepeat (s : State) : Host.Outcome State Fault Refusal := .next (docketRepeatStep s)

/-- RESULT_MISSING (R144). -/
def execResultMissing (s : State) : Host.Outcome State Fault Refusal := .next (resultMissingStep s)

/-- UNBOOKED_RUN_END (R145). -/
def execUnbookedRunEnd (s : State) : Host.Outcome State Fault Refusal := .next (unbookedRunStep s)

end Sys2Proof.Machine
end

