-- ==== Sys2Proof/Machine/LineCode.lean ====
section
/-! DEFINITION. A frame as bits on the site line: field order (R3), check (R4), bit stuffing (R2), and the receiver's
judgement of the bits it reads (R9). Dominant is 0 and is written `false`; recessive is 1 and is written `true`. -/

namespace Sys2Proof.Machine

/-- The `w` low bits of `n`, most significant first. -/
def bitsOf : Nat → Nat → List Bool
  | 0, _ => []
  | w + 1, n => n.testBit w :: bitsOf w n

/-- The number whose bits, most significant first, follow `acc`. -/
def ofBits (acc : Nat) (l : List Bool) : Nat := l.foldl (fun a b => a * 2 + b.toNat) acc

/-- The bits of a run of bytes, each most significant bit first. -/
def byteBits (l : List Byte) : List Bool := l.flatMap (fun b => bitsOf 8 b.toNat)

/-- One step of the check register (R4): polynomial x^16 + x^12 + x^5 + 1, most significant bit first. -/
def crcStep (r : BitVec 16) (b : Bool) : BitVec 16 :=
  if r.msb ^^ b then (r <<< 1) ^^^ 0x1021#16 else r <<< 1

/-- The check over the given bits; the register starts at all ones and is sent without inversion (R4). -/
def crc16 (l : List Bool) : BitVec 16 := l.foldl crcStep 0xFFFF#16

/-- The bits the check covers: destination, kind, body length and body (R4). -/
def checkedBits (dest kind : Nat) (body : List Byte) : List Bool :=
  bitsOf 8 dest ++ bitsOf 8 kind ++ bitsOf 8 body.length ++ byteBits body

/-- The frame's bits before stuffing, from start bit to check (R3). -/
def plainBits (cls sender dest kind : Nat) (body : List Byte) : List Bool :=
  false :: (bitsOf 2 cls ++ bitsOf 5 sender ++ checkedBits dest kind body ++
    bitsOf 16 (crc16 (checkedBits dest kind body)).toNat)

/-- Bit stuffing (R2): after five consecutive bits of one level the opposite level is inserted, and a stuff bit counts
as the first bit of the next run. `last` and `run` are the level and length of the run before. -/
def stuffFrom (last : Bool) (run : Nat) : List Bool → List Bool
  | [] => []
  | b :: rest =>
    if (if b = last then run + 1 else 1) = 5 then b :: (!b) :: stuffFrom (!b) 1 rest
    else b :: stuffFrom b (if b = last then run + 1 else 1) rest

/-- The frame as it is driven, stuff bits included. -/
def stuff (l : List Bool) : List Bool := stuffFrom true 0 l

/-- Removal of stuff bits (R2); `none` at a stuffing violation: six consecutive bits of one level. `due` says that the
next bit is a stuff bit. The stuff bit that falls due after the last check bit is judged where it was read, and a frame whose
bits end before it is good (DESIGN CHOICE, log 50). -/
def unstuffFrom (last : Bool) (run : Nat) : Bool → List Bool → Option (List Bool)
  | _, [] => some []
  | true, b :: rest => if b = last then none else unstuffFrom b 1 false rest
  | false, b :: rest =>
    (unstuffFrom b (if b = last then run + 1 else 1) ((if b = last then run + 1 else 1) = 5) rest).map (b :: ·)

/-- The bits read, without their stuff bits, or `none` at a stuffing violation. -/
def unstuff (l : List Bool) : Option (List Bool) := unstuffFrom true 0 false l

/-- The bytes of a run of bits, eight at a time; `n` bytes are read. -/
def bytesOf : Nat → List Bool → List Byte
  | 0, _ => []
  | n + 1, l => BitVec.ofNat 8 (ofBits 0 (l.take 8)) :: bytesOf n (l.drop 8)

/-- What the receiver makes of a frame's bits (R9): a good frame with its kind, or a spoilt frame. -/
inductive Judgement where
  | good (kind : Byte) (f : RxFrame)
  | spoilt
  deriving DecidableEq, Repr

/-- The receiver's judgement of the bits from start bit to check, stuff bits removed (R9): the length limit, the
sender's range, the check; a frame cut short is spoilt. -/
def judgePlain (l : List Bool) : Judgement :=
  let body := bytesOf (ofBits 0 ((l.drop 24).take 8)) (l.drop 32)
  let frame : RxFrame :=
    { cls := ofBits 0 ((l.drop 1).take 2), sender := ofBits 0 ((l.drop 3).take 5),
      dest := ofBits 0 ((l.drop 8).take 8), body := body }
  if l.head? ≠ some false then .spoilt
  else if ofBits 0 ((l.drop 24).take 8) > 16 then .spoilt
  else if frame.sender = 0 ∨ frame.sender = 31 then .spoilt
  else if l.length ≠ 48 + 8 * ofBits 0 ((l.drop 24).take 8) then .spoilt
  else if (crc16 ((l.drop 8).take (24 + 8 * body.length))).toNat ≠ ofBits 0 (l.drop (32 + 8 * body.length)) then .spoilt
  else .good (BitVec.ofNat 8 (ofBits 0 ((l.drop 16).take 8))) frame

/-- The receiver's judgement of the bits as they stand on the line. -/
def judge (l : List Bool) : Judgement :=
  match unstuff l with
  | none => .spoilt
  | some plain => judgePlain plain

/-- Whether a frame's sender and length pass the tests of R9 (a frame operand that fails them is a spoilt frame). -/
def frameSound (f : RxFrame) : Bool := 0 < f.sender && f.sender < 31 && f.body.length ≤ 16

/-- The bits of a queued frame as the station of the given number drives it (R3). -/
def TxFrame.bits (station : Nat) (f : TxFrame) : List Bool :=
  stuff (plainBits f.cls station f.dest (kindCode f.body.kind) f.body.bytes)

end Sys2Proof.Machine
end

