-- ==== Sys2Proof/Machine/Arbiter.lean ====
section
/-! DEFINITION. The headroom arbiter of a SET (chapter 5): TAKE, COMMIT, LEFT and RELEASE, and the holds. -/

namespace Sys2Proof.Machine

/-- The capacity of the reservation list (R76). -/
abbrev reservationCap : Nat := 4

/-- The board's entry in the reservation list. -/
def State.entryOf (s : State) (board : Nat) : Option Reservation := s.reservations.find? (fun r => r.board == board)

/-- A board's entry leaves the reservation list, and the end of unloading is tested (R56). -/
def reservationRemove (s : State) (board : Nat) : State :=
  if s.reservations.any (fun r => r.board == board) then
    unloadTest { s with reservations := withoutBoard board s.reservations }
  else s

/-- Whether the set answers a TAKE on its headroom: READY, or COOLING with origin IDLE (R80, R81). -/
def State.carrying (s : State) : Bool :=
  s.duty.state == .ready || (s.duty.state == .cooling && s.duty.origin == some .idle)

/-- Whether the set is on its way down: UNLOADING, or COOLING with origin STOPPING (R78). -/
def State.stopping (s : State) : Bool :=
  s.duty.state == .unloading || (s.duty.state == .cooling && s.duty.origin == some .stopping)

/-- Tests 2 to 5, in order: the reason of a refusal for the set's own condition (R78). -/
def ownRefusal (s : State) : Option Nat :=
  if s.tank.dry then some reasonDry
  else if s.duty.mode = .stop then some reasonBlocked
  else if s.duty.state = .fault ∨ (s.duty.state = .off ∧ s.inhibit = true) then some reasonFault
  else if s.stopping then some reasonStopping
  else none

/-- Tests 7 and 8: the reason of a refusal where the set cannot judge or has no place (R80). R80 says BUSY where the two lists
together number 8; late commits may bring them to more, and BUSY it is then too (DESIGN CHOICE, log 51). -/
def placeRefusal (s : State) : Option Nat :=
  if s.carrying ∧ (s.channel 0).state = .noData then some reasonNotReady
  else if reservationCap ≤ s.reservations.length ∨ feedCap ≤ s.duty.feed.length + s.reservations.length then
    some reasonBusy
  else none

/-- An entry joins at the end of the reservation list (R81, R82). -/
def reserve (s : State) (board ticket load : Nat) (hold : Option Nat) : State :=
  { s with reservations := s.reservations ++ [{ board := board, ticket := ticket, load := load, hold := hold }] }

/-- Test 9: GRANT or REFUSE HEADROOM; a grant in COOLING first returns the set to READY (R81). -/
def grantTest (s : State) (board ticket load : Nat) : State :=
  if (load : Int) ≤ s.headroom then
    let s1 := if s.duty.state = .cooling then enterReady s false else s
    replyTo (reserve s1 board ticket load (some s.image.holdTime)) board ticket verdictGrant reasonNone s.image.holdTime
  else replyTo s board ticket verdictRefuse reasonHeadroom 0

/-- Test 10: PENDING or REFUSE HEADROOM; in OFF the set starts (R82). -/
def pendingTest (s : State) (board ticket load : Nat) : State :=
  if load + s.reservedSum ≤ s.image.usable then
    let s1 := replyTo (reserve s board ticket load none) board ticket verdictPending reasonNone 0
    if s.duty.state = .off then startEngine s1 else s1
  else replyTo s board ticket verdictRefuse reasonHeadroom 0

/-- Tests 7 to 10, the board's earlier entry removed (R80 to R82). -/
def judgeTake (s : State) (board ticket load : Nat) : State :=
  match placeRefusal s with
  | some reason => replyTo s board ticket verdictRefuse reason 0
  | none => if s.carrying then grantTest s board ticket load else pendingTest s board ticket load

/-- The repeat of an entry's answer (R79, R83). -/
def repeatAnswer (s : State) (r : Reservation) : State :=
  match r.hold with
  | some h => replyTo s r.board r.ticket verdictGrant reasonNone h
  | none => replyTo s r.board r.ticket verdictPending reasonNone 0

/-- Test 6 and what follows it (R79). -/
def matchTake (s : State) (board ticket load : Nat) : State :=
  match s.entryOf board with
  | some r =>
    if r.ticket = ticket then repeatAnswer s r
    else judgeTake { s with reservations := withoutBoard board s.reservations } board ticket load
  | none => judgeTake s board ticket load

/-- The tests of section 5.3 on the lists after the removal of R77. -/
def answerTake (s : State) (board ticket load : Nat) : State :=
  match ownRefusal s with
  | some reason => replyTo (reservationRemove s board) board ticket verdictRefuse reason 0
  | none => matchTake s board ticket load

/-- A TAKE taken by a SET (R77): ticket 0 is ignored; otherwise the idle count is zeroed, the board's feed entry leaves,
and the tests answer. -/
def takeFrame (s : State) (board ticket load : Nat) : State :=
  if ticket = 0 then s
  else answerTake (feedRemove { s with duty := { s.duty with idle := 0 } } board) board ticket load

/-- OVERCOMMIT where the headroom is below 0 (R86). -/
def overcommitTest (s : State) (board ticket : Nat) : State :=
  if s.headroom < 0 then addEvent s (.overcommit board ticket s.headroom) else s

/-- Whether a COMMIT matches a GRANTED entry (R86). -/
def commitMatches (s : State) (board ticket : Nat) : Bool :=
  ticket != 0 && s.reservations.any (fun r => r.board == board && r.ticket == ticket && r.hold.isSome)

/-- A COMMIT taken by a SET: matched (R86) or late (R87). R86 speaks of the headroom once the feed entry has joined; the
test is made too where a full feed list takes no entry (DESIGN CHOICE, log 46). -/
def commitFrame (s : State) (board ticket load : Nat) : State :=
  let s1 := feedPlace { s with reservations := withoutBoard board s.reservations } board load
  if commitMatches s board ticket then overcommitTest s1 board ticket
  else overcommitTest (addEvent s1 (.lateCommit board ticket load s.duty.state)) board ticket

/-- A LEFT taken by a SET (R71). -/
def leftFrame (s : State) (board : Nat) : State := feedRemove s board

/-- A RELEASE taken by a SET (R88). -/
def releaseFrame (s : State) (board ticket : Nat) : State :=
  if s.reservations.any (fun r => r.board == board && r.ticket == ticket) then reservationRemove s board else s

/-- The holds over one second (R85). -/
def holdSecond (s : State) : State :=
  { s with reservations := s.reservations.map (fun r => { r with hold := r.hold.map (fun h => h - 1) }) }

/-- Whether a board's hold has run out (R85). -/
def State.holdDue (s : State) (board : Nat) : Bool := s.reservations.any (fun r => r.board == board && r.hold == some 0)

/-- The expiry of a board's hold (R85). -/
def holdStep (s : State) (board : Nat) : State :=
  dutyEvent s (fun t => if t.holdDue board then reservationRemove t board else t)

/-! ## The meaning of the row -/

/-- RES_HOLD_EXPIRY (R85). -/
def execResHoldExpiry (board : Nat) (s : State) : Host.Outcome State Fault Refusal := .next (holdStep s board)

end Sys2Proof.Machine
end

