-- ==== Sys2Proof/Machine/Metering.lean ====
section
/-! DEFINITION. The metering unit (chapter 3): readings, gaps, silence, unmetered seconds, and what it hands to the
settlement unit of a BOARD (R157) and to the duty controller of a SET. -/

namespace Sys2Proof.Machine

/-! ## What a BOARD's settlement unit is handed (R157) -/

/-- A change of the CURRENT entry of the settlement table. -/
def atCurrent (f : Entry → Entry) (t : List Entry) : List Entry :=
  t.map (fun e => if e.state = .current then f e else e)

/-- Whether an entry is CURRENT. -/
def hasCurrent (t : List Entry) : Bool := t.any (fun e => e.state == .current)

/-- One figure of a list of account figures changes; account 1 stands first. -/
def atAccount (account : Nat) (f : Nat → Nat) (l : List Nat) : List Nat :=
  l.set (account - 1) (f (l.getD (account - 1) 0))

/-- The top of a count that stops there (R156). -/
abbrev top32 : Nat := 4294967295

/-- Whole Wh of a channel are placed (R37, R157). -/
def placeWh (b : BoardSettlement) (n wh : Nat) : BoardSettlement :=
  if hasCurrent b.table then
    { b with
        table := atCurrent (fun e =>
          if n = 0 then { e with incomer := addTo top32 e.incomer wh }
          else { e with wh := atAccount n (fun v => addTo top32 v wh) e.wh }) b.table }
  else if n = 0 then { b with unattributed := addTo top32 b.unattributed wh }
  else b

/-- A clamped 1-s value of an account channel is placed (R39, R157). -/
def placePeak (b : BoardSettlement) (n p : Nat) : BoardSettlement :=
  if n = 0 then b
  else { b with table := atCurrent (fun e => { e with peaks := atAccount n (fun v => max v p) e.peaks }) b.table }

/-- Unmetered seconds are placed (R44, R157). -/
def placeUnmetered (free : Nat) (b : BoardSettlement) (d : Nat) : BoardSettlement :=
  { b with table := atCurrent (fun e => { e with unmetered := countOn free e.unmetered d }) b.table }

/-- The CURRENT entry is marked incomer-lost (R42, R157). -/
def markIncomerLost (b : BoardSettlement) : BoardSettlement :=
  { b with table := atCurrent (fun e => { e with incomerLost := true }) b.table }

/-! ## Channels (R33, R35, R36) -/

/-- The channels in use (R33). -/
def State.inUse (s : State) (n : Nat) : Bool :=
  match s.station, s.image.role with
  | .unconfigured, _ => n ≤ 12
  | .run, some .set => n == 0
  | .run, some .board => n ≤ s.image.accountCount
  | .run, some .tanker => false
  | .run, none => false

/-- The record of channel `n` changes. -/
def setChannel (s : State) (n : Nat) (c : Channel) : State :=
  { s with meter := { s.meter with channels := s.meter.channels.set n c } }

/-- Whole Wh and the 1-s value of a metered second are handed on in RUN (R37, R39). -/
def handSecond (s : State) (n wh p : Nat) : State :=
  if s.runs .board then { s with boardBill := placePeak (placeWh s.boardBill n wh) n p } else s

/-- The energy and the peak of one metered second: steps 2, 3 and 5 of R36. -/
def Channel.integrate (c : Channel) (p : Nat) : Channel :=
  { c with ws := (c.ws + p) % 3600, wh := (c.wh + (c.ws + p) / 3600) % two32, peak := max c.peak p }

/-- One metered second of a channel with clamped power `p`: steps 2 to 5 of R36. -/
def meterSecond (n p : Nat) (s : State) : State :=
  let c := s.channel n
  handSecond (setChannel s n { c.integrate p with window := c.window.drop 1 ++ [p] }) n ((c.ws + p) / 3600) p

/-- Unmetered seconds of a channel, and in a BOARD of its CURRENT entry (R44). -/
def addUnmetered (n d : Nat) (s : State) : State :=
  let c := s.channel n
  let s1 := { setChannel s n { c with unmetered := countOn s.free c.unmetered d } with
    free := freeAfter two32 s.free c.unmetered d }
  if s1.runs .board then
    { s1 with boardBill := placeUnmetered s1.free s1.boardBill d, free := s1.free + 1 }
  else s1

/-- A power figure clamped to 0..2,000,000 W (R36). -/
def clampPower (x : Int) : Nat := clampInt 2000000 x

/-- A reading is taken: the channel is ACTIVE, its silence count 0, stamp and power the reading's (R35, R36). -/
def takenBy (n stamp p : Nat) (s : State) : State :=
  setChannel s n { s.channel n with state := .active, silence := 0, stamp := some stamp, power := some p }

/-- The notices of leaving LOST (R43). -/
def leaveLost (n : Nat) (s : State) : State :=
  if (s.channel n).state = .lost then
    if s.runs .board then addEvent s (.meterLostCleared n)
    else if n = 0 then dutyEvent s (fun t => clearCondition t .meterLost)
    else s
  else s

/-- Resynchronisation: all ten places of the window take the reading's power (R43). -/
def resynchronise (n stamp p : Nat) (s : State) : State :=
  let s1 := takenBy n stamp p (leaveLost n s)
  let c := s1.channel n
  handSecond (setChannel s1 n { c.integrate p with window := List.replicate 10 p }) n ((c.ws + p) / 3600) p

/-- The missing seconds that are filled: at most five (R40). -/
def filledSeconds (k : Nat) : Nat := min 5 (k - 1)

/-- The missing seconds are filled with the last power (R40). -/
def fillGap (n last : Nat) : Nat → State → State
  | 0, s => s
  | m + 1, s => fillGap n last m (meterSecond n last s)

/-- A reading with stamp step `k` at least 1 (R40): fills, unmetered seconds beyond the fifth, the reading's second. -/
def takeStep (n stamp p k last : Nat) (s : State) : State :=
  let s1 := fillGap n last (filledSeconds k) s
  let s2 := if 5 < k - 1 then addUnmetered n (k - 1 - 5) s1 else s1
  takenBy n stamp p (meterSecond n p s2)

/-- A reading offered to its channel (R33, R40, R43). -/
def offerReading (n stamp : Nat) (power : Int) (s : State) : State :=
  if s.inUse n then
    let c := s.channel n
    match c.state, c.stamp with
    | .active, some last | .stalled, some last =>
      let k := (stamp + 256 - last) % 256
      if k = 0 then s else takeStep n stamp (clampPower power) k (c.power.getD 0) s
    | _, _ => resynchronise n stamp (clampPower power) s
  else s

/-- A discarded reading counts as a link error (R32). -/
def linkError (s : State) : State := { s with meter := { s.meter with linkErrors := incTo 65535 s.meter.linkErrors } }

/-- The sync character (R197). -/
abbrev syncChar : Byte := 165#8

/-- The last place of a reading's eight characters (R197). -/
abbrev lastPlace : Nat := 7

/-- The meter link holds the characters of a reading begun, none while it waits (R197); `old` where a restart has fallen
into that reading (R46). -/
def setLink (s : State) (l : List Byte) (old : Bool) : State :=
  { s with meter := { s.meter with link := l, linkOld := old } }

/-- A reading of eight characters: one whose check fails or whose channel is above 12 is a link error (R32, R197), any
other is offered to its channel. -/
def judgeReading (chars : List Byte) (s : State) : State :=
  match chars with
  | [_, ch, stamp, p3, p2, p1, p0, check] =>
    if ch + stamp + p3 + p2 + p1 + p0 + check ≠ 0#8 then linkError s
    else if 12 < ch.toNat then linkError s
    else offerReading ch.toNat stamp.toNat (signed32 (rd4 p3 p2 p1 p0)) s
  | _ => s

/-- A reading that arrived during a restart is not taken, whatever its channel; one whose check fails is a link error
(R46). -/
def passReading (chars : List Byte) (s : State) : State :=
  match chars with
  | [_, ch, stamp, p3, p2, p1, p0, check] => if ch + stamp + p3 + p2 + p1 + p0 + check ≠ 0#8 then linkError s else s
  | _ => s

/-- The eighth character completes a reading and the link waits: the reading is judged, or passed over where it arrived
during a restart, RESET held low included (R46, R197, log 11). -/
def completeReading (chars : List Byte) (s : State) : State :=
  let s1 := setLink s [] false
  if s.meter.linkOld || s.resetHeld then passReading chars s1 else judgeReading chars s1

/-- A character arrives on the link (R197): while it waits, sync begins a reading and any other is skipped uncounted;
within a reading it takes its place, and the eighth completes it. -/
def linkChar (s : State) (c : Byte) : State :=
  match s.meter.link with
  | [] => if c = syncChar then setLink s [c] false else s
  | l => if l.length < lastPlace then setLink s (l ++ [c]) s.meter.linkOld else completeReading (l ++ [c]) s

/-- Characters arrive one after the other (R197, log 11). -/
def readMeter (chars : List Byte) (s : State) : State := chars.foldl linkChar s

/-- The reading begun ends incomplete: a link error, and the link waits, so that `linkChar` judges the character that
ended it, the first of the next METER_READING, afresh as a possible sync (R32, R197, log 11). -/
def endReading (s : State) : State := if s.meter.link = [] then s else setLink (linkError s) [] false

/-! ## Silence (R41, R42) -/

/-- One second of a channel: the silence count, and one more unmetered second while LOST (R41, R42). -/
def channelSecond (s : State) (n : Nat) : State :=
  if s.inUse n then
    let s1 := setChannel s n { s.channel n with silence := incTo 65535 (s.channel n).silence }
    if (s.channel n).state = .lost then addUnmetered n 1 s1 else s1
  else s

/-- The channels 0..12. -/
def allChannels : List Nat := [0, 1, 2, 3, 4, 5, 6, 7, 8, 9, 10, 11, 12]

/-- The metering unit's second. -/
def meterTick (s : State) : State := allChannels.foldl channelSecond s

def State.stalledDue (s : State) (n : Nat) : Bool :=
  s.inUse n && (s.channel n).state == .active && decide (3 ≤ (s.channel n).silence)

def State.lostDue (s : State) (n : Nat) : Bool :=
  s.inUse n && ((s.channel n).state == .stalled || (s.channel n).state == .noData) && decide (10 ≤ (s.channel n).silence)

/-- The notices and the record of entering LOST (R42). -/
def lostNotices (n : Nat) (s : State) : State :=
  if s.runs .board then
    addEvent (if n = 0 then { s with boardBill := markIncomerLost s.boardBill } else s) (.meterLostRaised n)
  else if n = 0 then dutyEvent s (fun t => raiseCondition t .meterLost)
  else s

/-- A channel enters LOST (R42). -/
def enterLost (n : Nat) (s : State) : State :=
  lostNotices n (addUnmetered n 10 (setChannel s n { s.channel n with state := .lost }))

def channelStalledStep (s : State) (n : Nat) : State :=
  whenAwake s (fun t => if t.stalledDue n then setChannel t n { t.channel n with state := .stalled } else t)

def channelLostStep (s : State) (n : Nat) : State := whenAwake s (fun t => if t.lostDue n then enterLost n t else t)

/-! ## START and restarts (R34, R46) -/

/-- A channel at START: leaving use it becomes NO_DATA; in use and NO_DATA its silence count starts at 0 (R34). -/
def narrowChannel (used : Bool) (c : Channel) : Channel :=
  if used then (if c.state = .noData then { c with silence := 0 } else c)
  else { c with state := .noData, stamp := none, power := none, window := zeroWindow }

/-- The metering unit narrows its channels to those of the role (R34). The state is already in RUN. -/
def narrowMeter (s : State) : State :=
  { s with
      meter := { s.meter with
        channels := s.meter.channels.mapIdx (fun n c => narrowChannel (s.inUse n) c) } }

/-- The channels of a BOARD that are LOST at START hand their notices and records (R34); a SET's is taken up by the
adoption of its duty state (R59). -/
def lostAtStart (s : State) : State :=
  allChannels.foldl (fun t n => if t.inUse n && (t.channel n).state == .lost then lostNotices n t else t) s

/-- A channel after a cold start or a warm restart: its retained figures kept (R46). -/
def restartChannel (c : Channel) : Channel := { blankChannel with ws := c.ws, wh := c.wh }

/-- The metering unit after a cold start or a warm restart (R46). The reading that the link has begun goes on arriving and
is not to be taken. -/
def restartMeter (m : Metering) : Metering where
  channels := m.channels.map restartChannel
  linkErrors := 0
  link := m.link
  linkOld := !m.link.isEmpty

/-- What the meter link does with main supply on; RESET held low does not keep it from following its characters (R46,
log 11). -/
def whenSupplied (s : State) (act : State → State) : State := if s.mainOn then act s else s

/-! ## The meanings of the rows -/

/-- METER_READING (R32, R33, R36, R40, R43, R46). -/
def execMeterReading (chars : List Byte) (s : State) : Host.Outcome State Fault Refusal :=
  .next (whenSupplied s (readMeter chars))

/-- METER_READING_TIMEOUT (R32, R197). -/
def execMeterReadingTimeout (s : State) : Host.Outcome State Fault Refusal := .next (whenSupplied s endReading)

/-- CHANNEL_STALLED (R41). -/
def execChannelStalled (channel : Nat) (s : State) : Host.Outcome State Fault Refusal :=
  .next (channelStalledStep s channel)

/-- CHANNEL_LOST (R42). -/
def execChannelLost (channel : Nat) (s : State) : Host.Outcome State Fault Refusal := .next (channelLostStep s channel)

end Sys2Proof.Machine
end

