-- ==== Sys2Proof/Machine/Settlement.lean ====
section
/-! DEFINITION. Settlement (chapter 9): the periods, claims and apportionment of a SET; the settlement table, the claims
and the account split of a BOARD. -/

namespace Sys2Proof.Machine

/-! ## The SET: periods (R148 to R150) -/

/-- A period opens on the lifetime figures as they stand; the peak of channel 0 is reset (R39, R149, R155). -/
def openPeriod (s : State) (p : Nat) : State :=
  let s1 := setChannel s 0 { s.channel 0 with peak := 0 }
  { s1 with
      setBill := { s1.setBill with
        opened := some
          { period := p, elapsed := 0, burn := s.burnCl, output := (s.channel 0).wh, run := s.duty.runSeconds, idle := 0,
            interrupted := false } } }

/-- The closed period's figures: differences of lifetime figures (R149). -/
def closedFrom (s : State) (o : OpenPeriod) : ClosedPeriod where
  period := o.period
  fuel := diff32 s.burnCl o.burn
  energy := diff32 (s.channel 0).wh o.output
  run := diff32 s.duty.runSeconds o.run
  idle := o.idle
  interrupted := o.interrupted

/-- The boards' group destination (section 4.2). -/
abbrev toBoards : Nat := 33

/-- A CLOSE for a closed period (R149, R155). -/
def postClose (s : State) (c : ClosedPeriod) (again : Nat) : State :=
  post s toBoards (.close c.period c.fuel c.energy s.image.windowLength again)

/-! ## Apportionment (R152 to R154) -/

/-- D: the larger of E and the sum of the claims (R152). -/
def divisor (energy : Nat) (claims : List Claim) : Nat := max energy (sumOf (claims.map Claim.energy))

/-- A share: F × C / D rounded down, 0 where D is 0 (R152). -/
def shareOf (fuel d c : Nat) : Nat := if d = 0 then 0 else fuel * c / d

/-- The claim lines with their shares (R152, R154). -/
def claimLines (c : ClosedPeriod) (claims : List Claim) : List ClaimLine :=
  claims.map (fun x =>
    { board := x.board, energy := x.energy, share := shareOf c.fuel (divisor c.energy claims) x.energy })

/-- The sum of the shares (R154). -/
def allottedOf (lines : List ClaimLine) : Nat := sumOf (lines.map ClaimLine.share)

/-- The SETTLE_SET record of an apportionment (R154). -/
def settleSetOf (c : ClosedPeriod) (claims : List Claim) (late : Nat) : SettleSetRec :=
  let lines := claimLines c claims
  { period := c.period, interrupted := c.interrupted, run := c.run, idle := c.idle, fuel := c.fuel, energy := c.energy,
    claims := lines, allotted := allottedOf lines, retained := c.fuel - allottedOf lines, late := late }

/-- One ALLOT ALLOTTED (R153). -/
def postAllot (period : Nat) (s : State) (l : ClaimLine) : State :=
  post s l.board (.allot period l.share allotAllotted)

/-- The closed period is apportioned on the claims listed (R152 to R154). -/
def apportion (s : State) : State :=
  match s.setBill.closed with
  | some c =>
    let r := settleSetOf c s.setBill.claims s.setBill.late
    let recorded := decide (0 < c.run) || !s.setBill.claims.isEmpty
    let s1 := r.claims.foldl (postAllot c.period) s
    let s2 := if recorded then addRecord s1 (.settleSet r) else s1
    { s2 with
        setBill := { s2.setBill with
          closed := none
          window := none
          claims := []
          last := some { period := c.period, shares := r.claims.map (fun l => (l.board, l.share)) }
          late := if recorded then 0 else s2.setBill.late } }
  | none => s

/-- The open period ends (R149): an open window first, then CLOSE, the next period, and its window. -/
def endPeriod (s : State) : State :=
  let s1 := if s.setBill.window.isSome then apportion s else s
  match s1.setBill.opened with
  | some o =>
    let c := closedFrom s1 o
    let s2 := postClose { s1 with setBill := { s1.setBill with closed := some c } } c 0
    let s3 := openPeriod s2 (nextNumber 65535 o.period)
    { s3 with setBill := { s3.setBill with window := some 0, claims := [], putOff := false } }
  | none => s1

/-- The window ends; an end of the open period that was put off follows (R152, R155). -/
def endWindow (s : State) : State :=
  let s1 := apportion s
  if s1.setBill.putOff then endPeriod s1 else s1

/-! ## Claims at the set (R151) -/

/-- The capacity of the claim list (R148). -/
abbrev claimCap : Nat := 16

/-- One more claim answered LATE or FULL (R148; past the top: log 14). -/
def countLate (s : State) : State :=
  { s with
      setBill := { s.setBill with late := countOn16 s.free s.setBill.late }
      free := freeAfter 65536 s.free s.setBill.late 1 }

/-- Whether a claim names the closed period while its window is open. -/
def State.claimsOpen (s : State) (period : Nat) : Bool :=
  s.setBill.window.isSome && s.setBill.closed.any (fun c => c.period == period)

/-- A claim for the closed period (R151, first three rows). -/
def listClaim (s : State) (board period energy : Nat) : State :=
  if s.setBill.claims.any (fun c => c.board == board) then
    { s with
        setBill := { s.setBill with
          claims := s.setBill.claims.map (fun c => if c.board = board then { c with energy := energy } else c) } }
  else if s.setBill.claims.length < claimCap then
    { s with
        setBill := { s.setBill with claims := s.setBill.claims ++ [{ board := board, energy := energy }] } }
  else countLate (post s board (.allot period 0 allotFull))

/-- A CLAIM taken by a SET (R151). -/
def claimFrame (s : State) (board period energy : Nat) : State :=
  if s.claimsOpen period then listClaim s board period energy
  else
    match s.setBill.last with
    | some l =>
      if l.period = period then
        match l.shares.find? (fun x => x.1 == board) with
        | some x => post s board (.allot period x.2 allotAllotted)
        | none => countLate (post s board (.allot period 0 allotLate))
      else post s board (.allot period 0 allotStale)
    | none => post s board (.allot period 0 allotStale)

/-! ## The SET's second, expiries and restarts (R149, R150, R152, R155) -/

/-- Whether a second is idle: READY with the output below 5 % of the rating (R150). -/
def State.idling (s : State) : Bool := s.duty.state == .ready && decide (s.output * 20 < s.image.ratedPower)

/-- The SET's settlement second (R149, R150, R152). The idle seconds stop at 3,600, the top of their range, where a period
end is put off (DESIGN CHOICE, log 41). -/
def setBillSecond (s : State) : State :=
  { s with
      setBill := { s.setBill with
        opened := s.setBill.opened.map (fun o =>
          { o with
              elapsed := incTo s.image.periodLength o.elapsed
              idle := if s.idling then incTo 3600 o.idle else o.idle })
        window := s.setBill.window.map (fun w => incTo s.image.windowLength w) } }

def State.periodDue (s : State) : Bool :=
  !s.setBill.putOff && s.setBill.opened.any (fun o => decide (s.image.periodLength ≤ o.elapsed))

def State.windowDue (s : State) : Bool := s.setBill.window.any (fun w => decide (s.image.windowLength ≤ w))

def periodEndStep (s : State) : State := whenRuns .set s (fun t => if t.periodDue then endPeriod t else t)

def windowEndStep (s : State) : State := whenRuns .set s (fun t => if t.windowDue then endWindow t else t)

/-- What is not retained is cleared at START and at a warm restart (R155). -/
def clearClaims (b : SetSettlement) : SetSettlement :=
  { b with window := none, claims := [], last := none, late := 0 }

/-- A closed period held is announced again, its window fresh (R155). -/
def repeatClose (s : State) : State :=
  match s.setBill.closed with
  | some c => { postClose s c 1 with setBill := { s.setBill with window := some 0, claims := [] } }
  | none => s

/-- The open period is marked interrupted (R150). -/
def interrupt (s : State) : State :=
  { s with
      setBill := { s.setBill with opened := s.setBill.opened.map (fun o => { o with interrupted := true }) } }

/-- START of the SET's settlement unit (R155): a held period resumes, or period 1 opens. -/
def startSetBill (s : State) : State :=
  let s1 := { s with setBill := { clearClaims s.setBill with putOff := false } }
  match s1.setBill.opened with
  | none => repeatClose (openPeriod s1 1)
  | some o =>
    let s2 := repeatClose (interrupt s1)
    if s.image.periodLength ≤ o.elapsed then
      if s2.setBill.closed.isSome then
        { s2 with
            setBill := { s2.setBill with
              putOff := true
              opened := s2.setBill.opened.map (fun p => { p with elapsed := s.image.periodLength }) } }
      else endPeriod s2
    else s2

/-- A warm restart of the SET's settlement unit (R155). -/
def rewarmSetBill (s : State) : State := repeatClose (interrupt { s with setBill := clearClaims s.setBill })

/-! ## The BOARD: entries (R156 to R160, R162, R166, R167) -/

/-- The capacity of the settlement table (R156). -/
abbrev tableCap : Nat := 8

/-- The account figures of an entry in the accounts of the board: the ACCOUNTS now in force governs a retained entry too
(R156; DESIGN CHOICE, log 42). -/
def accountWh (i : Image) (e : Entry) : List Nat := e.wh.take i.accountCount

/-- "Any energy": an incomer Wh or an account Wh above 0 (R160). -/
def hasEnergy (i : Image) (e : Entry) : Bool := decide (0 < e.incomer) || (accountWh i e).any (fun w => decide (0 < w))

/-- The claim value of an entry (R162). The bytes in which a sum past 4,294,967,295 is sent are free (log 14). -/
def claimValue (i : Image) (e : Entry) : Nat :=
  if e.incomerLost then max e.incomer (sumOf (accountWh i e)) else e.incomer

/-- C as a record carries it: fixed, or what R162 would give (R167). -/
def recordClaim (i : Image) (e : Entry) : Nat := e.claim.getD (claimValue i e)

/-- The house energy (R166). -/
def houseWh (i : Image) (e : Entry) : Nat := recordClaim i e - sumOf (accountWh i e)

/-- The shares before the remainder, of the figures in index order, house first (R166). -/
def floorShares (a : Nat) (whs : List Nat) : List Nat := whs.map (fun w => a * w / sumOf whs)

/-- The place of the largest figure, the lowest place among equals (R166). -/
def largestPlace (whs : List Nat) : Nat :=
  (whs.foldl (fun (acc : Nat × Nat × Nat) w =>
    if acc.2.1 < w then (acc.1 + 1, w, acc.1) else (acc.1 + 1, acc.2.1, acc.2.2)) (0, 0, 0)).2.2

/-- The shares of A over the house and the accounts, house first (R166): the remainder goes to the largest, and with no
energy at all the whole goes to the house. -/
def splitShares (a : Nat) (whs : List Nat) : List Nat :=
  if sumOf whs = 0 then
    match whs with
    | [] => []
    | _ :: rest => a :: rest.map (fun _ => 0)
  else
    let base := floorShares a whs
    let place := largestPlace whs
    base.set place (base.getD place 0 + (a - sumOf base))

/-- The figures that A is divided over: house, then accounts 1..ACCOUNTS (R166). -/
def splitBase (i : Image) (e : Entry) : List Nat := houseWh i e :: accountWh i e

/-- The account lines of a record: accounts with energy in order, then the house (R167). -/
def accountLines (i : Image) (e : Entry) (a : Option Nat) : List AccountLine :=
  let shares := a.map (fun f => splitShares f (splitBase i e))
  let fuelAt := fun (n : Nat) => shares.map (fun l => l.getD n 0)
  let accounts := (accountWh i e).mapIdx (fun n w =>
    ({ account := n + 1, wh := w, fuel := fuelAt (n + 1), peak := some (e.peaks.getD n 0) } : AccountLine))
  let house : AccountLine := { account := 0, wh := houseWh i e, fuel := fuelAt 0, peak := none }
  accounts.filter (fun l => decide (0 < l.wh)) ++
    (if 0 < house.wh ∨ 0 < house.fuel.getD 0 then [house] else [])

/-- The SETTLE_BOARD record of an entry (R167). -/
def settleBoardOf (s : State) (e : Entry) (outcome : SettleOutcome) (a : Option Nat) : SettleBoardRec where
  set := e.set
  period := e.period
  outcome := outcome
  claim := recordClaim s.image e
  allotted := a
  unmetered := e.unmetered
  unattributed := s.boardBill.unattributed
  lines := accountLines s.image e a

/-- The table changes. -/
def setTable (s : State) (t : List Entry) : State := { s with boardBill := { s.boardBill with table := t } }

/-- The entry at a place leaves the table: with energy as a record, which sets the unattributed Wh to 0 (R160, R167). -/
def leaveTable (s : State) (place : Nat) (outcome : SettleOutcome) (a : Option Nat) : State :=
  match s.boardBill.table[place]? with
  | some e =>
    let s1 := setTable s (s.boardBill.table.eraseIdx place)
    if hasEnergy s.image e then
      addRecord { s1 with boardBill := { s1.boardBill with unattributed := 0 } }
        (.settleBoard (settleBoardOf s e outcome a))
    else s1
  | none => s

/-- The place evicted from a full table: the oldest WAITING_CLOSE entry, else the oldest CLAIMED one (R160). -/
def evictPlace (t : List Entry) : Option Nat :=
  match t.findIdx? (fun e => e.state == .waitingClose) with
  | some n => some n
  | none => t.findIdx? (fun e => e.state == .claimed)

/-- A full table makes room (R160). -/
def makeRoom (s : State) : State :=
  if s.boardBill.table.length < tableCap then s
  else
    match evictPlace s.boardBill.table with
    | some n => leaveTable s n .evicted none
    | none => s

/-- Twelve figures of 0. -/
def zeroAccounts : List Nat := [0, 0, 0, 0, 0, 0, 0, 0, 0, 0, 0, 0]

/-- A new CURRENT entry, every figure 0 (R158). -/
def newEntry (s : State) (set pos period : Nat) : Entry where
  set := set
  pos := pos
  period := period
  state := .current
  incomer := 0
  wh := zeroAccounts
  peaks := zeroAccounts
  incomerLost := (s.channel 0).state == .lost
  unmetered := 0
  openedAt := s.stationSeconds
  age := 0
  claim := none
  attempt := none
  wait := 0
  waitLength := 0

/-- The period of an entry that opens: one that another entry of the set still holds is not given twice, and the new entry
opens unbound (R156; DESIGN CHOICE, log 45). -/
def freePeriod (t : List Entry) (set period : Nat) : Nat :=
  if t.any (fun e => e.set == set && e.period == period) then 0 else period

/-- A new entry opens at the end of the table (R158, step 3). -/
def openEntry (s : State) (set pos period : Nat) : State :=
  let s1 := makeRoom s
  setTable s1 (s1.boardBill.table ++ [newEntry s1 set pos (freePeriod s1.boardBill.table set period)])

/-- A WAITING_CLOSE entry becomes CURRENT again (R158, step 2); one that is CURRENT while channel 0 is LOST is marked
(R42, R157). -/
def reopen (lost : Bool) (pos : Nat) (e : Entry) : Entry :=
  { e with state := .current, pos := pos, age := 0, incomerLost := e.incomerLost || lost }

/-- The last closed heard for a set, 0 where none (R156). -/
def State.lastClosedOf (s : State) (set : Nat) : Nat :=
  ((s.boardBill.lastClosed.find? (fun x => x.1 == set)).map Prod.snd).getD 0

/-- The period of a set as an opening entry takes it: from its FRESH status, the period after one already closed
(R158, step 1). -/
def periodFor (s : State) (set : Nat) : Nat :=
  if set = 0 then 0
  else
    match s.freshSet set with
    | some b => if b.period ≠ 0 ∧ b.period = s.lastClosedOf set then nextNumber 65535 b.period else b.period
    | none => 0

/-- An entry is made CURRENT for a set and period (R158, steps 2 and 3). -/
def makeCurrent (s : State) (set pos period : Nat) : State :=
  match s.boardBill.table.findIdx? (fun e =>
      e.state == .waitingClose && e.set == set && e.period == period && period != 0) with
  | some n => setTable s (s.boardBill.table.modify n (reopen ((s.channel 0).state == .lost) pos))
  | none => openEntry s set pos period

/-- An entry is made CURRENT for the set of a position (R158). -/
def openFor (s : State) (pos : Nat) : State :=
  let set := s.image.setAt pos
  makeCurrent s set pos (periodFor s set)

/-- The CURRENT entry ends: WAITING_CLOSE, age 0 (R159). -/
def endCurrent (s : State) : State :=
  setTable s (atCurrent (fun e => { e with state := .waitingClose, age := 0 }) s.boardBill.table)

/-- A closed feedback appears (R158, R159). -/
def feedbackAppears (s : State) (pos : Nat) : State := openFor (endCurrent s) pos

/-- A closed feedback disappears (R159); where another stays present, an entry opens for it, the lowest position where
two do (log 23). -/
def feedbackGoes (s : State) (pos : Nat) : State :=
  if s.boardBill.table.any (fun e => e.state == .current && e.pos == pos) then
    match s.closedList with
    | [] => endCurrent s
    | n :: _ => openFor (endCurrent s) n
  else s

/-! ## CLOSE and claims (R161 to R164) -/

/-- The extra seconds of a claim's first wait (R162). -/
abbrev waitExtra : Nat := 15

/-- The wait of a claim caused by a STATUS (R162). -/
abbrev statusWait : Nat := 75

/-- A CLAIM frame of an entry (R162). -/
def postClaim (s : State) (e : Entry) (c attempt : Nat) : State := post s e.set (.claim e.period c attempt)

/-- The entry at a place claims: without energy it leaves, otherwise C is fixed and CLAIM posted (R162). -/
def claimEntry (s : State) (place waitLength : Nat) : State :=
  match s.boardBill.table[place]? with
  | some e =>
    if hasEnergy s.image e then
      let c := claimValue s.image e
      postClaim
        (setTable s (s.boardBill.table.set place
          { e with state := .claimed, claim := some c, attempt := some 1, wait := 0, waitLength := waitLength }))
        e c 1
    else setTable s (s.boardBill.table.eraseIdx place)
  | none => s

/-- The period after p (R158, R161). -/
abbrev periodAfter (p : Nat) : Nat := nextNumber 65535 p

/-- A CURRENT entry claims, and an entry for the following period becomes CURRENT on the same position (R161, R164): one of
that period that waits for its CLOSE again, or a new one (R156, log 45). -/
def turnOver (s : State) (place waitLength : Nat) (e : Entry) (following : Nat) : State :=
  makeCurrent (claimEntry s place waitLength) e.set e.pos following

/-- A claim is posted again as attempt 1, its wait restarting with the window of the CLOSE (R161). -/
def claimAgain (s : State) (place window : Nat) (e : Entry) : State :=
  postClaim
    (setTable s (s.boardBill.table.set place
      { e with attempt := some 1, wait := 0, waitLength := window + waitExtra }))
    e (e.claim.getD 0) 1

/-- The rows of R161 for the entry of the set and period, at its place. A repeat flag above 1 is neither row's: it posts no
claim again (DESIGN CHOICE, log 44). -/
def closeActs (s : State) (place window again : Nat) (e : Entry) : State :=
  match e.state with
  | .current => turnOver s place (window + waitExtra) e (periodAfter e.period)
  | .waitingClose => claimEntry s place (window + waitExtra)
  | .claimed => if again = 1 then claimAgain s place window e else s

/-- The younger of two entries added into the older (R161); CURRENT, with its position, where either is. -/
def mergeEntry (free : Nat) (older younger : Entry) : Entry :=
  { older with
      incomer := addTo top32 older.incomer younger.incomer
      wh := List.zipWith (addTo top32) older.wh younger.wh
      peaks := List.zipWith max older.peaks younger.peaks
      unmetered := countOn free older.unmetered younger.unmetered
      incomerLost := older.incomerLost || younger.incomerLost
      state := if younger.state = .current then .current else older.state
      pos := if younger.state = .current then younger.pos else older.pos }

/-- Whether an entry of a set is unbound and may bind (R161). -/
def unbound (set : Nat) (e : Entry) : Bool := e.set == set && e.period == 0 && e.state != .claimed

/-- The table with the unbound entries of a set bound to a period: the oldest takes it, the younger ones merge into it
(R161, log 22). -/
def bindTable (free : Nat) (t : List Entry) (set period : Nat) : List Entry :=
  match t.findIdx? (unbound set) with
  | some n =>
    let younger := (t.drop (n + 1)).filter (unbound set)
    let kept := (t.drop (n + 1)).filter (fun e => !unbound set e)
    match t[n]? with
    | some e => t.take n ++ younger.foldl (mergeEntry free) { e with period := period } :: kept
    | none => t
  | none => t

/-- Whether a set is named in a POS_SET (R156). -/
def State.namesSet (s : State) (set : Nat) : Bool := set != 0 && [1, 2, 3].any (fun n => s.image.setAt n == set)

/-- The last closed heard for a set takes a period (R161). -/
def hearClose (s : State) (set period : Nat) : State :=
  if s.namesSet set then
    { s with
        boardBill := { s.boardBill with
          lastClosed := s.boardBill.lastClosed.filter (fun x => x.1 != set) ++ [(set, period)] } }
  else s

/-- The place of the entry of a set and period. -/
def placeOf (t : List Entry) (set period : Nat) : Option Nat := t.findIdx? (fun e => e.set == set && e.period == period)

/-- The rows of R161 where the table holds the set and period. -/
def closeRows (s : State) (set period window again : Nat) : State :=
  match placeOf s.boardBill.table set period with
  | some n =>
    match s.boardBill.table[n]? with
    | some e => closeActs s n window again e
    | none => s
  | none => s

/-- CLOSE taken by a BOARD (R161). A period of 0 names no period, and a repeat flag above 1 binds nothing (logs 22, 44). -/
def closeFrame (s : State) (set period window again : Nat) : State :=
  let s1 := hearClose s set period
  if period = 0 then s1
  else if (placeOf s1.boardBill.table set period).isSome then closeRows s1 set period window again
  else if again = 0 then
    closeRows { setTable s1 (bindTable s1.free s1.boardBill.table set period) with free := s1.free + 1 } set period window
      again
  else s1

/-- The period before p (R164). -/
def periodBefore (p : Nat) : Nat := if p = 1 then 65535 else p - 1

/-- Whether a status's period shows that the entry's period has been closed (R164). -/
def supersedes (set r : Nat) (e : Entry) : Bool :=
  e.set == set && e.period != 0 && e.state != .claimed && r != e.period && r != periodBefore e.period

/-- One entry of a set acts on its STATUS (R164). -/
def statusActs (r : Nat) (s : State) (key : Nat × Nat) : State :=
  match placeOf s.boardBill.table key.1 key.2 with
  | some n =>
    match s.boardBill.table[n]? with
    | some e => if e.state = .current then turnOver s n statusWait e r else claimEntry s n statusWait
    | none => s
  | none => s

/-- A SET STATUS handed to the settlement unit (R164). R164 names no order where several entries of the set claim: they claim
in the order of the table (DESIGN CHOICE, log 39). -/
def billStatus (s : State) (set r : Nat) : State :=
  ((s.boardBill.table.filter (supersedes set r)).map (fun e => (e.set, e.period))).foldl (statusActs r) s

/-- The outcome that an ALLOT other than ALLOTTED leaves (R165). -/
def otherOutcome (n : Nat) : Option SettleOutcome :=
  if n = allotLate then some .late
  else if n = allotStale then some .stale
  else if n = allotFull then some .full
  else none

/-- The place of the CLAIMED entry of a set and period (R165). -/
def claimedPlace (t : List Entry) (set period : Nat) : Option Nat :=
  t.findIdx? (fun e => e.set == set && e.period == period && e.state == .claimed)

/-- ALLOT taken by a BOARD (R165). -/
def allotFrame (s : State) (set period fuel outcome : Nat) : State :=
  match claimedPlace s.boardBill.table set period with
  | some n =>
    if outcome = allotAllotted then leaveTable s n .allotted (some fuel)
    else
      match otherOutcome outcome with
      | some o => leaveTable s n o none
      | none => s
  | none => s

/-! ## The BOARD's second, expiries and restarts (R159, R163, R164, R168) -/

/-- An entry over a second: age in WAITING_CLOSE, wait in CLAIMED (R159, R163). -/
def entrySecond (e : Entry) : Entry :=
  match e.state with
  | .current => e
  | .waitingClose => { e with age := incTo 7200 e.age }
  | .claimed => { e with wait := incTo e.waitLength e.wait }

/-- The BOARD's settlement second. -/
def boardBillSecond (s : State) : State := setTable s (s.boardBill.table.map entrySecond)

/-- Whether an entry's wait has run out (R163). -/
def waitOver (e : Entry) : Bool := e.state == .claimed && decide (e.waitLength ≤ e.wait)

/-- Whether an entry has waited 7,200 s for its CLOSE (R164). -/
def ageOver (e : Entry) : Bool := e.state == .waitingClose && decide (7200 ≤ e.age)

/-- Attempt 2, or the lapse after it (R163). -/
def waitRunsOut (s : State) (place : Nat) (e : Entry) : State :=
  if e.attempt = some 1 then
    postClaim
      (setTable s (s.boardBill.table.set place { e with attempt := some 2, wait := 0, waitLength := waitExtra }))
      e (e.claim.getD 0) 2
  else leaveTable s place .lapsed none

def claimWaitStep (s : State) (place : Nat) : State :=
  whenRuns .board s (fun t =>
    match t.boardBill.table[place]? with
    | some e => if waitOver e then waitRunsOut t place e else t
    | none => t)

def lapseStep (s : State) (place : Nat) : State :=
  whenRuns .board s (fun t =>
    match t.boardBill.table[place]? with
    | some e => if ageOver e then leaveTable t place .lapsed none else t
    | none => t)

/-- A CURRENT entry at a start: it stays where its position alone is closed and names its set, otherwise WAITING_CLOSE
(R168). -/
def settleCurrent (s : State) (e : Entry) : Entry :=
  if e.state = .current ∧ ¬ (s.closedPos = e.pos ∧ e.set = s.image.setAt e.pos) then
    { e with state := .waitingClose, age := 0 }
  else if e.state = .waitingClose then { e with age := 0 }
  else e

/-- A CLAIMED entry at a start posts its claim again (R168). -/
def reclaim (s : State) (e : Entry) : State :=
  if e.state = .claimed then postClaim s e (e.claim.getD 0) (e.attempt.getD 1) else s

/-- The table set against the feedbacks at START and at a warm restart (R168). R168 names no order: the CLAIMED entries post
again last, in the order of the table (DESIGN CHOICE, log 39). -/
def startBoardBill (s : State) : State :=
  let s1 := setTable s (s.boardBill.table.map (settleCurrent s))
  let s2 :=
    if hasCurrent s1.boardBill.table then s1
    else
      match s1.closedList with
      | [] => s1
      | n :: _ => openFor s1 n
  let s3 := setTable s2 (s2.boardBill.table.map (fun e => if e.state = .claimed then { e with wait := 0 } else e))
  s3.boardBill.table.foldl reclaim s3

/-! ## The meanings of the rows -/

/-- PERIOD_END (R149). -/
def execPeriodEnd (s : State) : Host.Outcome State Fault Refusal := .next (periodEndStep s)

/-- CLAIM_WINDOW_END (R152). -/
def execClaimWindowEnd (s : State) : Host.Outcome State Fault Refusal := .next (windowEndStep s)

/-- CLAIM_WAIT_EXPIRY (R163). -/
def execClaimWaitExpiry (place : Nat) (s : State) : Host.Outcome State Fault Refusal := .next (claimWaitStep s place)

/-- WAITING_CLOSE_LAPSE (R164). -/
def execWaitingCloseLapse (place : Nat) (s : State) : Host.Outcome State Fault Refusal := .next (lapseStep s place)

end Sys2Proof.Machine
end

