-- ==== Sys2Proof/Machine/Stage.lean ====
section
/-! DEFINITION. The changeover controller of a BOARD (chapter 6): triggers, candidates, asking the set, moving the switch,
switch faults, adoption. -/

namespace Sys2Proof.Machine

/-! ## States, frames and the attempt (R90) -/

/-- The changeover state changes, and a STATUS is posted (R25). -/
def enterChg (s : State) (st : ChgState) : State := postStatus { s with chg := { s.chg with state := st } }

/-- The attempt changes. -/
def setAttempt (s : State) (a : Option Attempt) : State := { s with chg := { s.chg with attempt := a } }

/-- The position now tried: the candidate at the cursor (R90). -/
def Attempt.target (a : Attempt) : Nat := a.candidates.getD a.cursor 0

/-- RELEASE with the attempt's ticket to the set of the position now tried (R94, R102, R104, R106, R111). -/
def releaseTarget (s : State) (a : Attempt) : State :=
  setAttempt (post s (s.image.setAt a.target) (.release a.ticket)) (some { a with owed := false })

/-- The stage is live: a position is closed and LIVE (R92). -/
def State.stageLive (s : State) : Bool := s.closedPos != 0 && s.liveAt s.closedPos == .live

/-- The load estimate (R100). -/
def loadEstimate (s : State) : Nat := if s.stageLive then s.output else s.chg.lastLive.getD s.image.stageLoad

/-- The CHANGEOVER record of an attempt (R112). -/
def changeoverOf (s : State) (a : Attempt) (o : ChgOutcome) : ChangeoverRec where
  ticket := a.ticket
  reason := a.reason
  fromPos := a.fromPos
  fromSet := s.image.setAt a.fromPos
  toPos := a.asked
  toSet := s.image.setAt a.asked
  outcome := o
  unfed := a.unfed

/-! ## Triggers (R96 to R101) -/

/-- A trigger of a reason is held off while the retry timer runs with that reason (R99). -/
def heldOff (s : State) (r : Reason) : Bool := s.chg.retry.any (fun x => x.2 == r)

/-- The feeding set's stored status, whatever its freshness (R98). -/
def State.feedingStatus (s : State) : Option SetStatus := if s.closedPos = 0 then none else s.setStatusOf s.feedingSet

/-- DEAD: a position is closed and its live state is NOT_LIVE (R98). -/
def deadTest (s : State) : Bool := s.closedPos != 0 && s.liveAt s.closedPos == .notLive

/-- RESTORE: no position is closed, and AUTO_RESTORE is yes (R98). -/
def restoreTest (s : State) : Bool := s.closedList.isEmpty && s.image.restores

/-- UNLOAD: the feeding set's stored status shows UNLOADING (R98). -/
def unloadingTest (s : State) : Bool := s.feedingStatus.any (fun b => b.duty == dutyCode .unloading)

/-- Whether the condition of a reason of R98 holds. -/
def triggerTest (s : State) : Reason → Bool
  | .dead => deadTest s
  | .restore => restoreTest s
  | .unload => unloadingTest s
  | .planned | .dry => false

/-- The first of the given reasons whose condition holds and that is not held off (R98). -/
def firstTrigger (s : State) (rows : List Reason) : Option Reason :=
  rows.find? (fun r => triggerTest s r && !heldOff s r)

/-- The rows of R98 in their order. -/
def allRows : List Reason := [.dead, .restore, .unload]

/-- Whether a position passes the tests of a candidate (R101). -/
def candidateOk (s : State) (estimate pos : Nat) : Bool :=
  pos != s.closedPos && s.image.setAt pos != 0 &&
    match s.freshSet (s.image.setAt pos) with
    | none => false
    | some b =>
      !b.dryFlag && !b.faultFlag && decide (estimate ≤ b.headroom) &&
        ((b.duty == dutyCode .ready && s.liveAt pos == .live) ||
          (b.duty == dutyCode .off && b.mode == modeCode .auto))

/-- Whether a position's set shows READY (R101). -/
def showsReady (s : State) (pos : Nat) : Bool :=
  (s.freshSet (s.image.setAt pos)).any (fun b => b.duty == dutyCode .ready)

/-- The candidate list: READY first, then OFF in AUTO, each in PREFERENCE order (R101). -/
def candidateList (s : State) (estimate : Nat) : List Nat :=
  let kept := s.image.preferenceOrder.filter (candidateOk s estimate)
  kept.filter (showsReady s) ++ kept.filter (fun p => !showsReady s p)

/-- A ticket is taken and TAKE posted for the candidate at the cursor (R102). -/
def askCandidate (s : State) (a : Attempt) : State :=
  let t := nextNumber 255 s.chg.ticket
  post
    { s with
        chg := { s.chg with
          ticket := t
          attempt := some { a with ticket := t, sends := 1, timer := 0, owed := false, asked := a.target } } }
    (s.image.setAt a.target) (.take t a.estimate (reasonCode a.reason))

/-- A new attempt as its trigger fills it (R96). -/
def newAttempt (s : State) (r : Reason) (candidates : List Nat) : Attempt where
  reason := r
  fromPos := s.closedPos
  oldPos := 0
  estimate := loadEstimate s
  candidates := candidates
  cursor := 0
  ticket := 0
  sends := 0
  timer := 0
  unfed := 0
  owed := false
  asked := 0
  returning := false

/-- An attempt whose list is empty at the trigger: ALL_REFUSED at once, recorded only where the quiet reason is another
(R99, R101). -/
def emptyAttempt (s : State) (a : Attempt) : State :=
  let s1 := if s.chg.quiet = some a.reason then s else addRecord s (.changeover (changeoverOf s a .allRefused))
  { s1 with
      chg := { s1.chg with
        quiet := some a.reason
        retry := if a.reason = .planned then s1.chg.retry else some (0, a.reason) } }

/-- The trigger is taken with its candidates: SEEKING with a TAKE, or the end of an empty attempt (R96, R101, R102). A
DRY trigger clears the dry note (R97). -/
def beginAttempt (s : State) (r : Reason) (candidates : List Nat) : State :=
  let a := newAttempt s r candidates
  let s1 := { s with chg := { s.chg with retry := none, dryNote := if r = .dry then none else s.chg.dryNote } }
  if candidates = [] then emptyAttempt s1 a else askCandidate (enterChg s1 .seeking) a

/-- A trigger other than PLANNED is taken (R96, R101). -/
def takeTrigger (s : State) (r : Reason) : State := beginAttempt s r (candidateList s (loadEstimate s))

/-- The test of the dry note, with the dwell timer stopped (R97): a note whose set still feeds and still shows DRY is the
DRY trigger, which a DRY retry holds off with the note standing (R99); any other note is cleared. -/
def noteTest (s : State) : State :=
  match s.chg.dryNote with
  | some n =>
    if s.chg.dwell = none then
      if n = s.feedingSet ∧ s.feedingStatus.any SetStatus.dryFlag then
        if heldOff s .dry then s else takeTrigger s .dry
      else { s with chg := { s.chg with dryNote := none } }
    else s
  | none => s

/-- The given rows of R98, then the test of R97, in IDLE; at most one trigger is taken (log 27). -/
def idleRows (s : State) (rows : List Reason) : State :=
  if s.chg.state = .idle then
    match firstTrigger s rows with
    | some r => takeTrigger s r
    | none => noteTest s
  else s

/-- Every row of R98 and the test of R97, as at a return to IDLE and at adoption (R95, R98, R113). -/
def idleTests (s : State) : State := idleRows s allRows

/-! ## The end of an attempt (R99, R101, R107, R109, R112) -/

/-- The retry timer after an attempt (R99). -/
def retryAfter (c : Changeover) (a : Attempt) (o : ChgOutcome) : Option (Nat × Reason) :=
  match o with
  | .allRefused | .aborted => if a.reason = .planned then c.retry else some (0, a.reason)
  | .targetDead => some (0, .restore)
  | .done | .returned | .switchFault => c.retry

/-- The dwell timer after an attempt (R97). -/
def dwellAfter (c : Changeover) (o : ChgOutcome) : Option Nat :=
  match o with
  | .done | .returned => some 0
  | .allRefused | .aborted | .switchFault | .targetDead => c.dwell

/-- An attempt is recorded and leaves the controller (R99, R101, R112). -/
def closeAttempt (s : State) (a : Attempt) (o : ChgOutcome) : State :=
  let s1 := addRecord s (.changeover (changeoverOf s a o))
  { s1 with
      chg := { s1.chg with
        attempt := none
        retry := retryAfter s1.chg a o
        dwell := dwellAfter s1.chg o
        quiet := if a.asked = 0 then s1.chg.quiet else none } }

/-- An attempt ends in IDLE, and the tests at the return are made (R98, R103). -/
def endAttempt (s : State) (a : Attempt) (o : ChgOutcome) : State := idleTests (enterChg (closeAttempt s a o) .idle)

/-! ## The next candidate (R103) -/

/-- The next place of the candidate list, after the cursor, that passes the tests as they now stand (R101). -/
def nextPlace (s : State) (a : Attempt) : Option Nat :=
  (List.range a.candidates.length).find? (fun n =>
    decide (a.cursor < n) && candidateOk s a.estimate (a.candidates.getD n 0))

/-- Moving to the next candidate (R103). -/
def nextCandidate (s : State) (a : Attempt) : State :=
  match nextPlace s a with
  | some n =>
    askCandidate (if s.chg.state = .seeking then s else enterChg s .seeking) { a with cursor := n }
  | none => endAttempt s a .allRefused

/-- A candidate is abandoned: RELEASE, then the next (R102, R104). -/
def abandonCandidate (s : State) (a : Attempt) : State := nextCandidate (releaseTarget s a) { a with owed := false }

/-! ## Switch commands and switch faults (R93, R94) -/

/-- A switch command is issued or released. -/
def setCmd (s : State) (c : Option SwitchCmd) : State := { s with chg := { s.chg with cmd := c, held := 0 } }

/-- The closed feedbacks present, position 1 first (R94). -/
def feedbacks (s : State) : List Bool := [s.input 1, s.input 2, s.input 3]

/-- A switch fault is taken (R94). -/
def takeSwitchFault (s : State) (cause : SwitchFault) : State :=
  let s1 := setCmd s none
  let s2 := addEvent { s1 with chg := { s1.chg with fault := some cause } } (.switchFaultRaised cause (feedbacks s))
  match s.chg.attempt with
  | some a => enterChg (closeAttempt (if a.owed then releaseTarget s2 a else s2) a .switchFault) .locked
  | none => enterChg s2 .locked

/-! ## Moving the switch (R105 to R109) -/

/-- COMMITTING, entered and left in one event (R109). -/
def commitMove (s : State) (a : Attempt) : State :=
  let s1 := enterChg s .committing
  let s2 := post s1 (s1.image.setAt a.target) (.commit a.ticket (s1.chg.lastLive.getD a.estimate))
  let s3 :=
    if a.oldPos ≠ 0 ∧ s.image.setAt a.oldPos ≠ 0 then post s2 (s.image.setAt a.oldPos) (.left a.ticket) else s2
  endAttempt s3 a .done

/-- Entry to DEAD: step timer 0 (R106). -/
def enterDead (s : State) (a : Attempt) : State := enterChg (setAttempt s (some { a with timer := 0 })) .dead

/-- A GRANT moves the switch (R105). -/
def moveSwitch (s : State) (a : Attempt) : State :=
  let b := { a with owed := true, oldPos := 0 }
  if s.closedPos ≠ 0 ∧ s.closedPos = a.target then commitMove (setAttempt s (some b)) b
  else if s.closedPos ≠ 0 then
    enterChg (setCmd (setAttempt s (some { b with oldPos := s.closedPos })) (some .openAll)) .breaking
  else enterDead s b

/-- MAKING for a position under the interlock of R93: CLOSE only with no closed feedback present and no command held,
otherwise the switch fault UNCOMMANDED (R93, R108). -/
def makeFor (s : State) (a : Attempt) (pos : Nat) (returning : Bool) : State :=
  let s1 := enterChg (setAttempt s (some { a with returning := returning })) .making
  if s.closedList = [] ∧ s.chg.cmd = none then setCmd s1 (some (.closeTo pos)) else takeSwitchFault s1 .uncommanded

/-- The old position may be closed again: it is not 0, it is LIVE, and its set's FRESH status shows READY (R107). -/
def mayReturn (s : State) (a : Attempt) : Bool :=
  a.oldPos != 0 && s.liveAt a.oldPos == .live && showsReady s a.oldPos

/-- DEAD_TIME is over: MAKING on a live target, otherwise RELEASE and the old position or TARGET_DEAD (R106, R107). -/
def deadTimeOver (s : State) (a : Attempt) : State :=
  if s.liveAt a.target = .live then makeFor s a a.target false
  else
    let s1 := releaseTarget s a
    if mayReturn s a then makeFor s1 { a with owed := false } a.oldPos true
    else endAttempt s1 { a with owed := false } .targetDead

/-- The closed feedback of the position being made appears: COMMITTING, or the end RETURNED (R107, R108). -/
def madeContact (s : State) (a : Attempt) : State :=
  let s1 := setCmd s none
  if a.returning then endAttempt s1 a .returned else commitMove s1 a

/-- A change of the closed feedbacks as the controller follows it (R91, R93, R94, R98, R105, R108). In IDLE a feedback that
appears at a position NOT_LIVE already makes no DEAD test: no live state has changed (DESIGN CHOICE, log 53). -/
def followFeedback (s : State) (pos : Nat) (level : Bool) : State :=
  if s.chg.state ≠ .locked ∧ 2 ≤ s.closedList.length then takeSwitchFault s .twoClosed
  else
    match s.chg.state, s.chg.attempt with
    | .idle, _ => if s.closedList = [] then idleRows s [.restore] else s
    | .breaking, some a => if s.closedList = [] then enterDead (setCmd s none) a else s
    | .dead, some _ => if level then takeSwitchFault s .uncommanded else s
    | .making, some a =>
      if level then
        match s.chg.cmd with
        | some (.closeTo n) => if n = pos then madeContact s a else takeSwitchFault s .wrongPosition
        | _ => takeSwitchFault s .uncommanded
      else s
    | _, _ => s

/-- A closed feedback changes in a BOARD in RUN: settlement first, then the controller (R91, R108). -/
def closedFeedback (s : State) (pos : Nat) (level : Bool) : State :=
  followFeedback (if level then feedbackAppears s pos else feedbackGoes s pos) pos level

/-! ## Frames taken by the controller (R97, R102, R104, R110) -/

/-- TAKE_REPLY taken by a BOARD (R102, R104, R110). -/
def takeReplyFrame (s : State) (sender ticket verdict : Nat) : State :=
  match s.chg.attempt with
  | some a =>
    if sender = s.image.setAt a.target ∧ ticket = a.ticket then
      match s.chg.state with
      | .seeking =>
        if verdict = verdictGrant then moveSwitch s a
        else if verdict = verdictPending then
          enterChg (setAttempt s (some { a with owed := true, timer := 0 })) .waiting
        else if verdict = verdictRefuse then nextCandidate s { a with owed := false }
        else s
      | .waiting =>
        if verdict = verdictGrant then moveSwitch s a
        else if verdict = verdictRefuse then nextCandidate s { a with owed := false }
        else s
      | .idle | .breaking | .dead | .making | .committing | .locked => s
    else s
  | none => s

/-- The dry note is set (R97). -/
def noteDry (s : State) (set : Nat) : State := { s with chg := { s.chg with dryNote := some set } }

/-- DRY taken by a BOARD (R97). In SEEKING and WAITING the target's DRY abandons the candidate whatever else it is (R102,
R104). A sender that is the feeding set too, FOLLOW_DRY yes, meets both rows of R97: the note is set, then the candidate
abandoned; with FOLLOW_DRY no the row of the target alone acts (DESIGN CHOICE, log 40). -/
def dryFrame (s : State) (sender : Nat) : State :=
  let feeding := s.closedPos != 0 && s.feedingSet == sender && s.image.followsDry
  let target := s.chg.attempt.any (fun a => s.image.setAt a.target == sender)
  match s.chg.state, s.chg.attempt with
  | .idle, _ =>
    if feeding then
      if s.chg.dwell = none ∧ heldOff s .dry = false then takeTrigger s .dry else noteDry s sender
    else s
  | .seeking, some a | .waiting, some a =>
    let s1 := if feeding then noteDry s sender else s
    if target then abandonCandidate s1 a else s1
  | .breaking, _ | .dead, _ | .making, _ => if target && s.image.followsDry then noteDry s sender else s
  | _, _ => s

/-- A SET STATUS handed to the controller (R98, R104). -/
def chgStatus (s : State) (set : Nat) (b : SetStatus) : State :=
  match s.chg.state, s.chg.attempt with
  | .waiting, some a => if s.image.setAt a.target = set ∧ b.faultFlag = true then abandonCandidate s a else s
  | .idle, _ => if s.closedPos ≠ 0 ∧ s.feedingSet = set then idleRows s [.unload] else s
  | _, _ => s

/-! ## The BOARD's changeover second and its expiries -/

/-- The step timer's limit in each state (R102, R104, R106). -/
def stepLimit (i : Image) (c : ChgState) : Nat :=
  match c with
  | .seeking => 2
  | .waiting => 180
  | .dead => i.deadSeconds
  | .idle | .breaking | .making | .committing | .locked => 0

/-- The step timer over a second. -/
def stepSecond (i : Image) (c : ChgState) (timer : Nat) : Nat :=
  match c with
  | .seeking | .waiting | .dead => incTo (stepLimit i c) timer
  | .idle | .breaking | .making | .committing | .locked => timer

/-- Whether the last live load is taken at this second: the stage live, its live input present (R92). -/
def State.takesLoad (s : State) : Bool := s.stageLive && s.input (3 + s.closedPos)

/-- The changeover controller's second (R92, R93, R97, R99, R102, R104, R105, R106). -/
def chgSecond (s : State) : State :=
  { s with
      chg := { s.chg with
        held := if s.chg.cmd = none then s.chg.held else incTo 3 s.chg.held
        lastLive := if s.takesLoad then some s.output else s.chg.lastLive
        attempt := s.chg.attempt.map (fun a =>
          { a with
              timer := stepSecond s.image s.chg.state a.timer
              unfed := if s.closedList = [] then incTo 65535 a.unfed else a.unfed })
        retry := s.chg.retry.map (fun x => (incTo s.image.retryTime x.1, x.2))
        dwell := s.chg.dwell.map (fun n => incTo 60 n) } }

def State.cmdDue (s : State) : Bool := s.chg.cmd.isSome && decide (3 ≤ s.chg.held)

/-- A command released by its 3 s: a failed movement (R93, R94). -/
def cmdOver (s : State) : State :=
  match s.chg.cmd, s.chg.state with
  | some .openAll, .breaking => takeSwitchFault s .noOpen
  | some (.closeTo _), .making => takeSwitchFault s .noClose
  | _, _ => setCmd s none

/-- Whether the step timer has run out in a state. -/
def State.stepDue (s : State) (c : ChgState) : Bool :=
  s.chg.state == c && s.chg.attempt.any (fun a => decide (stepLimit s.image c ≤ a.timer))

/-- SEEKING at 2 s: the TAKE again, or the candidate given up (R102). -/
def seekOver (s : State) : State :=
  match s.chg.attempt with
  | some a =>
    if a.sends = 1 then
      post (setAttempt s (some { a with sends := 2, timer := 0 })) (s.image.setAt a.target)
        (.take a.ticket a.estimate (reasonCode a.reason))
    else abandonCandidate s a
  | none => s

/-- WAITING at 180 s (R104). -/
def waitOver180 (s : State) : State :=
  match s.chg.attempt with
  | some a => abandonCandidate s a
  | none => s

/-- DEAD at DEAD_TIME (R106). -/
def deadOver (s : State) : State :=
  match s.chg.attempt with
  | some a => deadTimeOver s a
  | none => s

def State.retryDue (s : State) : Bool := s.chg.retry.any (fun x => decide (s.image.retryTime ≤ x.1))

/-- The retry timer stops; in IDLE the tests are made, and after a DRY retry the feeding set's DRY flag (R99). -/
def retryOver (s : State) : State :=
  let dryRetry := heldOff s .dry
  let s1 := { s with chg := { s.chg with retry := none } }
  if s1.chg.state = .idle then
    match firstTrigger s1 allRows with
    | some r => takeTrigger s1 r
    | none => if dryRetry ∧ s1.feedingStatus.any SetStatus.dryFlag then takeTrigger s1 .dry else noteTest s1
  else s1

def State.dwellDue (s : State) : Bool := s.chg.dwell.any (fun n => decide (60 ≤ n))

/-- The dwell timer stops; in IDLE the dry note is tested (R97). A note stands while an attempt is under way, as R97 says; in
LOCKED, of which R97 says nothing, it is left untested too (DESIGN CHOICE, log 54). -/
def dwellOver (s : State) : State :=
  let s1 := { s with chg := { s.chg with dwell := none } }
  if s1.chg.state = .idle then noteTest s1 else s1

def switchTimeoutStep (s : State) : State := whenRuns .board s (fun t => if t.cmdDue then cmdOver t else t)

def takeResendStep (s : State) : State := whenRuns .board s (fun t => if t.stepDue .seeking then seekOver t else t)

def waitingTimeoutStep (s : State) : State := whenRuns .board s (fun t => if t.stepDue .waiting then waitOver180 t else t)

def deadTimeStep (s : State) : State := whenRuns .board s (fun t => if t.stepDue .dead then deadOver t else t)

def retryStep (s : State) : State := whenRuns .board s (fun t => if t.retryDue then retryOver t else t)

def dwellStep (s : State) : State := whenRuns .board s (fun t => if t.dwellDue then dwellOver t else t)

/-! ## Live states (R92) -/

/-- A live sense has held one level for 2 s (R92); a closed position turned NOT_LIVE is tested in IDLE (R98). -/
def liveChange (s : State) (pos : Nat) (level : Bool) : State :=
  let st : LiveState := if level then .live else .notLive
  let s1 := setInput s (3 + pos) level
  let s2 := { s1 with chg := { s1.chg with live := s1.chg.live.set (pos - 1) st } }
  if s.liveAt pos ≠ st ∧ st = .notLive ∧ s.closedPos = pos ∧ (s.awake && s.runs .board) = true then
    idleRows s2 [.dead]
  else s2

/-! ## Adoption (R113) -/

/-- The dry note that adoption sets (R113). -/
def adoptedNote (s : State) : Option Nat :=
  if s.image.followsDry ∧ (s.freshSet s.feedingSet).any SetStatus.dryFlag then some s.feedingSet else none

/-- The controller adopted from the feedbacks: two or more closed, the switch fault TWO_CLOSED; otherwise IDLE and its
tests (R113). -/
def adoptStage (s : State) : State :=
  let s1 := { s with
    chg := { s.chg with
      state := .idle, cmd := none, held := 0, lastLive := none, attempt := none, retry := none, dwell := none,
      dryNote := adoptedNote s, fault := none, quiet := none } }
  if 2 ≤ s.closedList.length then takeSwitchFault s1 .twoClosed else idleTests s1

/-- A warm restart of the controller: LOCKED is kept, otherwise it adopts (R113). -/
def rewarmStage (s : State) : State :=
  if s.chg.state = .locked then
    { s with
        chg := { s.chg with
          cmd := none, held := 0, attempt := none, retry := none, dwell := none, dryNote := none, quiet := none } }
  else adoptStage s

/-! ## The meanings of the rows -/

/-- LIVE_STATE_CHANGE (R92). -/
def execLiveStateChange (pos : Nat) (level : Bool) (s : State) : Host.Outcome State Fault Refusal :=
  .next (whenAwake s (fun t => if 1 ≤ pos ∧ pos ≤ 3 then liveChange t pos level else t))

/-- SWITCH_COMMAND_TIMEOUT (R93, R94). -/
def execSwitchCommandTimeout (s : State) : Host.Outcome State Fault Refusal := .next (switchTimeoutStep s)

/-- TAKE_RESEND (R102). -/
def execTakeResend (s : State) : Host.Outcome State Fault Refusal := .next (takeResendStep s)

/-- WAITING_TIMEOUT (R104). -/
def execWaitingTimeout (s : State) : Host.Outcome State Fault Refusal := .next (waitingTimeoutStep s)

/-- DEAD_TIME_EXPIRY (R106, R107). -/
def execDeadTimeExpiry (s : State) : Host.Outcome State Fault Refusal := .next (deadTimeStep s)

/-- RETRY_TIMER_EXPIRY (R99). -/
def execRetryTimerExpiry (s : State) : Host.Outcome State Fault Refusal := .next (retryStep s)

/-- DWELL_TIMER_EXPIRY (R97). -/
def execDwellTimerExpiry (s : State) : Host.Outcome State Fault Refusal := .next (dwellStep s)

end Sys2Proof.Machine
end

