-- ==== Sys2Proof/Machine/Peers.lean ====
section
/-! DEFINITION. The peer table (chapter 2): filing a good frame, ageing, notices, and the interval of the own STATUS. -/

namespace Sys2Proof.Machine

/-- An entry as it is created (R21). -/
def newPeer (n : Nat) : Peer := { station := n, role := none, fresh := .lost, since := 65535, body := none }

/-- An entry after a STATUS is stored (R22). -/
def storeStatus (p : Peer) (b : StatusBody) : Peer :=
  { p with role := some b.role, fresh := .fresh, since := 0, body := some b }

/-- The table with an entry placed at its station number (R20). -/
def filePeer (p : Peer) : List Peer → List Peer
  | [] => [p]
  | q :: rest =>
    if q.station = p.station then p :: rest
    else if p.station < q.station then p :: q :: rest
    else q :: filePeer p rest

/-- The STATUS body that a good frame brings, if it is one that is stored (R22). -/
def statusIn (kind : Byte) (body : List Byte) : Option StatusBody :=
  if kind.toNat = kindCode .status then parseStatus body else none

/-- Whether the peer table takes frames of a sender: STATION written, and another number (R20). -/
def State.hears (s : State) (sender : Nat) : Bool :=
  match s.image.station with
  | some own => own != sender
  | none => false

/-- A good frame is shown to the peer table (R20 to R22). -/
def showPeer (s : State) (sender : Nat) (b : Option StatusBody) : State :=
  if s.hears sender then
    let old := (s.peer sender).getD (newPeer sender)
    { s with
        peers := filePeer (match b with | some x => storeStatus old x | none => old) s.peers }
  else s

/-- The notice of a stored STATUS (R29). A SET STATUS at a BOARD goes to two blocks: the changeover controller acts before the
settlement unit (DESIGN CHOICE, log 39). -/
def noticeStatus (s : State) (sender : Nat) (b : StatusBody) : State :=
  match b with
  | .board x => dutyEvent s (fun t => feedStatus t sender x)
  | .set x => whenRuns .board s (fun t => billStatus (chgStatus t sender x) sender x.period)
  | .tanker _ => s

/-- A good frame at the peer table: filed, and a stored STATUS handed on (R9, R22, R29). -/
def peerFrame (s : State) (kind : Byte) (f : RxFrame) : State :=
  let b := statusIn kind f.body
  let s1 := showPeer s f.sender b
  match b with
  | some x => if s.hears f.sender then noticeStatus s1 f.sender x else s1
  | none => s1

/-! ## Ageing (R23, R29) -/

/-- The table over a second (R23). -/
def peersSecond (s : State) : State :=
  { s with peers := s.peers.map (fun p => { p with since := incTo 65535 p.since }) }

/-- An entry's freshness changes. -/
def gradePeer (s : State) (n : Nat) (g : Freshness) : State :=
  { s with peers := s.peers.map (fun p => if p.station = n then { p with fresh := g } else p) }

def State.staleDue (s : State) (n : Nat) : Bool :=
  s.peers.any (fun p => p.station == n && p.fresh == .fresh && decide (6 ≤ p.since))

def State.peerLostDue (s : State) (n : Nat) : Bool :=
  s.peers.any (fun p => p.station == n && p.fresh == .stale && decide (15 ≤ p.since))

/-- The LOST notice: a board's feed entry becomes UNCONFIRMED; a set's changes nothing at a BOARD (R29, R70, R98,
R164). -/
def noticeLost (s : State) (n : Nat) : State :=
  if (s.peer n).any (fun p => p.role == some .board) then dutyEvent s (fun t => feedLost t n) else s

def peerStaleStep (s : State) (n : Nat) : State := whenAwake s (fun t => if t.staleDue n then gradePeer t n .stale else t)

def peerLostStep (s : State) (n : Nat) : State :=
  whenAwake s (fun t => if t.peerLostDue n then noticeLost (gradePeer t n .lost) n else t)

/-! ## The own STATUS (R25) -/

/-- The interval count over a second (R25). -/
def statusSecond (s : State) : State :=
  { s with
      line := { s.line with statusTimer := s.line.statusTimer.map (fun n => incTo s.image.statusEvery n) } }

def State.statusDue (s : State) : Bool :=
  s.station == .run && s.line.statusTimer.any (fun n => decide (s.image.statusEvery ≤ n))

def statusStep (s : State) : State := whenAwake s (fun t => if t.statusDue then postStatus t else t)

/-! ## The meanings of the rows -/

/-- PEER_STALE (R23). -/
def execPeerStale (station : Nat) (s : State) : Host.Outcome State Fault Refusal := .next (peerStaleStep s station)

/-- PEER_LOST (R23, R29). -/
def execPeerLost (station : Nat) (s : State) : Host.Outcome State Fault Refusal := .next (peerLostStep s station)

/-- STATUS_INTERVAL_EXPIRY (R25). -/
def execStatusIntervalExpiry (s : State) : Host.Outcome State Fault Refusal := .next (statusStep s)

end Sys2Proof.Machine
end

