-- ==== Sys2Proof/Machine/Line.lean ====
section
/-! DEFINITION. The site line (chapter 1): the course of the own frames, and the reception of a frame from its judgement
to the block that takes it. -/

namespace Sys2Proof.Machine

/-! ## The own frames (R5 to R8) -/

/-- The phase of the line changes. -/
def setPhase (s : State) (p : LinePhase) : State := { s with line := { s.line with phase := p } }

/-- The head of the queue goes on the line (R5, R11). -/
def startHead : List TxFrame → List TxFrame
  | [] => []
  | f :: rest => { f with onLine := true } :: rest

/-- Bus-free: a station with a frame begins it (R5, R11). -/
def busFree (s : State) : State :=
  if s.line.phase = .sending then s
  else if s.posts ∧ s.line.queue ≠ [] then
    { s with line := { s.line with queue := startHead s.line.queue, older := none, phase := .sending } }
  else setPhase s .free

/-- No frame of the queue is on the line. -/
def offLine (q : List TxFrame) : List TxFrame := q.map (fun f => { f with onLine := false })

/-- An arbitration loss: the frame keeps its place, no attempt is counted; a superseded STATUS is dropped (R6, R12). -/
def arbitrationLost (s : State) : State :=
  if s.line.phase = .sending then
    { s with line := { s.line with queue := offLine s.line.queue, older := none, phase := .receiving } }
  else s

/-- The frame on the line, from the queue. -/
def onLineFrame (q : List TxFrame) : Option TxFrame := q.find? TxFrame.onLine

/-- One more attempt against the frame on the line, which leaves the line; with its third it leaves the queue (R7). -/
def countAttempt (q : List TxFrame) : List TxFrame :=
  (q.filter (fun f => !(f.onLine && decide (2 ≤ f.attempts)))).map (fun f =>
    if f.onLine then { f with attempts := f.attempts + 1, onLine := false } else f)

/-- A bit error: an abort burst, and an attempt counted; after the third TX_DROPPED (R7). A superseded STATUS is dropped
without either (R12). -/
def bitErrorSeen (s : State) : State :=
  if s.line.phase = .sending then
    match s.line.older with
    | some _ => { s with line := { s.line with older := none, phase := .burst } }
    | none =>
      let s1 := { s with line := { s.line with queue := countAttempt s.line.queue, phase := .burst } }
      match onLineFrame s.line.queue with
      | some f =>
        if 2 ≤ f.attempts then addEvent s1 (.txDropped (kindCode f.body.kind) f.dest .attempts) else s1
      | none => s1
  else s

/-- The frame on the line is sent and leaves (R8); a superseded STATUS is gone and the newer stays queued (R12). -/
def frameGone (s : State) : State :=
  if s.line.phase = .sending then
    match s.line.older with
    | some _ => { s with line := { s.line with older := none, phase := .waiting } }
    | none =>
      { s with
          line := { s.line with queue := s.line.queue.filter (fun f => !f.onLine), phase := .waiting } }
  else s

/-! ## Reception (R9, R10, R14) -/

/-- Whether the station follows a frame that goes over the line: one begun after bus-free, or the winner of an arbitration
it has lost. It follows none while it counts bus-free, drives an abort burst or sends a frame of its own (R5, R6, R17,
R18, log 9). -/
def State.follows (s : State) : Bool := s.line.phase == .free || s.line.phase == .receiving

/-- The end of a frame received, or a spoilt one: bus-free is counted afresh (R5, R9). -/
def endReception (s : State) : State := setPhase s .waiting

/-- The duplicate-station condition (R14). -/
def State.duplicate (s : State) (f : RxFrame) : Bool :=
  s.station == .run && !s.line.listenOnly && s.image.station == some f.sender

/-- Listen-only is set: the queue is emptied and DUPLICATE_STATION recorded (R14). -/
def goListenOnly (s : State) (own : Nat) : State :=
  addEvent { s with line := { s.line with queue := [], older := none, listenOnly := true } } (.duplicateStation own)

/-- Whether a destination is the station's own, all, or its role's group (R10). -/
def State.addressed (s : State) (dest : Nat) : Bool :=
  s.image.station == some dest || dest == 0 ||
    match s.image.role with
    | some .set => dest == 32
    | some .board => dest == 33
    | some .tanker => dest == 34
    | none => false

/-- A taken frame reaches the block that owns its kind in the station's role; in another role it is dropped (R10, R19).
A STATUS has reached the peer table already. -/
def deliver (s : State) (sender : Nat) (b : Body) : State :=
  match b with
  | .dry _ _ => whenRuns .board s (fun t => dryFrame t sender)
  | .take ticket load _ => dutyEvent s (fun t => takeFrame t sender ticket load)
  | .takeReply ticket verdict _ _ _ => whenRuns .board s (fun t => takeReplyFrame t sender ticket verdict)
  | .commit ticket load => dutyEvent s (fun t => commitFrame t sender ticket load)
  | .left _ => dutyEvent s (fun t => leftFrame t sender)
  | .release ticket => dutyEvent s (fun t => releaseFrame t sender ticket)
  | .close period _ _ window again => whenRuns .board s (fun t => closeFrame t sender period window again)
  | .claim period energy _ => whenRuns .set s (fun t => claimFrame t sender period energy)
  | .allot period fuel outcome => whenRuns .board s (fun t => allotFrame t sender period fuel outcome)
  | .deliverOpen number => whenRuns .set s (fun t => deliverOpenFrame t sender number)
  | .deliverAck number answer => whenRuns .tanker s (fun t => deliverAckFrame t sender number answer)
  | .docket number dispensed => whenRuns .set s (fun t => docketFrame t sender number dispensed)
  | .deliverResult number meter level inlet rise =>
    whenRuns .tanker s (fun t => deliverResultFrame t sender number meter level inlet rise)
  | .status _ => s

/-- The body of a frame that a station in RUN takes: its kind named, its length at least the minimum (R10). -/
def takenBody (kind : Byte) (body : List Byte) : Option Body :=
  match kindOf kind.toNat with
  | some k => parseBody k body
  | none => none

/-- A good frame: duplicate test, peer table, and where R10 allows the owning block. -/
def goodFrameSeen (s : State) (kind : Byte) (f : RxFrame) : State :=
  let s1 := if s.duplicate f then goListenOnly s f.sender else s
  let s2 := peerFrame s1 kind f
  if s2.station = .run ∧ s2.addressed f.dest then
    match takenBody kind f.body with
    | some b => deliver s2 f.sender b
    | none => s2
  else s2

/-- What a station does with a frame on the line that it follows; a frame that it does not follow has no effect. -/
def whenFollowed (s : State) (act : State → State) : State := whenAwake s (fun t => if t.follows then act t else t)

/-- A frame operand of a command: judged (R9) and received where the station follows it. -/
def receive (kind : Byte) (f : RxFrame) (s : State) : State :=
  whenFollowed s (fun t =>
    if frameSound f then goodFrameSeen (endReception t) kind f else endReception t)

/-- The bits of a frame that the receiver reads, judged (R2, R4, R9). -/
def receiveBits (bits : List Bool) (s : State) : State :=
  match judge bits with
  | .good kind f => receive kind f s
  | .spoilt => whenFollowed s endReception

/-- The kind byte of a kind. -/
def kindByte (k : Kind) : Byte := BitVec.ofNat 8 (kindCode k)

/-! ## The meanings of the rows -/

/-- BUS_FREE (R5). -/
def execBusFree (s : State) : Host.Outcome State Fault Refusal := .next (whenAwake s busFree)

/-- ARBITRATION_LOSS (R6). -/
def execArbitrationLoss (s : State) : Host.Outcome State Fault Refusal := .next (whenAwake s arbitrationLost)

/-- BIT_ERROR (R7). -/
def execBitError (s : State) : Host.Outcome State Fault Refusal := .next (whenAwake s bitErrorSeen)

/-- FRAME_SENT (R8). -/
def execFrameSent (s : State) : Host.Outcome State Fault Refusal := .next (whenAwake s frameGone)

/-- FRAME_SPOILT (R9): the bits read decide; bits that pass the four tests are a good frame. -/
def execFrameSpoilt (bits : List Bool) (s : State) : Host.Outcome State Fault Refusal := .next (receiveBits bits s)

/-- GOOD_FRAME (R9, R10, R14). -/
def execGoodFrame (kind : Byte) (f : RxFrame) (s : State) : Host.Outcome State Fault Refusal := .next (receive kind f s)

/-- DRY (R97). -/
def execDry (f : RxFrame) (s : State) : Host.Outcome State Fault Refusal := .next (receive (kindByte .dry) f s)

/-- TAKE (R77). -/
def execTake (f : RxFrame) (s : State) : Host.Outcome State Fault Refusal := .next (receive (kindByte .take) f s)

/-- TAKE_REPLY (R102). -/
def execTakeReply (f : RxFrame) (s : State) : Host.Outcome State Fault Refusal :=
  .next (receive (kindByte .takeReply) f s)

/-- COMMIT (R86, R87). -/
def execCommit (f : RxFrame) (s : State) : Host.Outcome State Fault Refusal := .next (receive (kindByte .commit) f s)

/-- LEFT (R71). -/
def execLeft (f : RxFrame) (s : State) : Host.Outcome State Fault Refusal := .next (receive (kindByte .left) f s)

/-- RELEASE (R88). -/
def execRelease (f : RxFrame) (s : State) : Host.Outcome State Fault Refusal := .next (receive (kindByte .release) f s)

/-- CLOSE (R161). -/
def execClose (f : RxFrame) (s : State) : Host.Outcome State Fault Refusal := .next (receive (kindByte .close) f s)

/-- CLAIM (R151). -/
def execClaim (f : RxFrame) (s : State) : Host.Outcome State Fault Refusal := .next (receive (kindByte .claim) f s)

/-- ALLOT (R165). -/
def execAllot (f : RxFrame) (s : State) : Host.Outcome State Fault Refusal := .next (receive (kindByte .allot) f s)

/-- DELIVER_OPEN (R135). -/
def execDeliverOpen (f : RxFrame) (s : State) : Host.Outcome State Fault Refusal :=
  .next (receive (kindByte .deliverOpen) f s)

/-- DELIVER_ACK (R143). -/
def execDeliverAck (f : RxFrame) (s : State) : Host.Outcome State Fault Refusal :=
  .next (receive (kindByte .deliverAck) f s)

/-- DOCKET (R138). -/
def execDocket (f : RxFrame) (s : State) : Host.Outcome State Fault Refusal := .next (receive (kindByte .docket) f s)

/-- DELIVER_RESULT (R144). -/
def execDeliverResult (f : RxFrame) (s : State) : Host.Outcome State Fault Refusal :=
  .next (receive (kindByte .deliverResult) f s)

/-- STATUS (R22). -/
def execStatus (f : RxFrame) (s : State) : Host.Outcome State Fault Refusal := .next (receive (kindByte .status) f s)

end Sys2Proof.Machine
end

