-- ==== Sys2Proof/Machine/Payload.lean ====
section
/-! DEFINITION. The payloads the host reads (sections 11.6 and 11.8): records with their carry sections, and the parts of
READ_STATUS, READ_TOTALS and READ_PEER. Widths that R195's types do not settle: log 24. -/

namespace Sys2Proof.Machine

/-! ## Field types (R195) -/

/-- Yes as 1, no as 0 (R195). -/
def beBool (b : Bool) : List Byte := be1 b.toNat

/-- A two-valued item: 0 where it holds the first value of its list, else 1 (R195). -/
def firstOf (first : Bool) : List Byte := be1 (if first then 0 else 1)

/-- An optional field: a presence byte, then the field, zeros of its width when absent (R195). -/
def optField {α : Type} (width : Nat) (enc : α → List Byte) : Option α → List Byte
  | some x => be1 1 ++ enc x
  | none => be1 0 ++ List.replicate width 0#8

/-- A list: a count byte, then the items (R195). -/
def listField {α : Type} (enc : α → List Byte) (l : List α) : List Byte := be1 l.length ++ l.flatMap enc

/-! ## Records (R195, R196) -/

/-- The record kind codes (section 11.8). -/
def recordKind : RecordBody → Nat
  | .settleSet _ => 1 | .settleBoard _ => 2 | .delivery _ => 3 | .docket _ => 4 | .changeover _ => 5 | .event _ => 6

/-- The event kind codes (section 11.8). -/
def eventKind : Event → Nat
  | .retainLost _ => 1
  | .duplicateStation _ => 2
  | .txDropped .. => 3
  | .faultRaised .. | .meterLostRaised _ | .switchFaultRaised .. => 4
  | .faultCleared _ | .meterLostCleared _ | .switchFaultCleared => 5
  | .lateCommit .. => 6
  | .overcommit .. => 7
  | .feedDiscovered .. => 8
  | .feedFull _ => 9
  | .levelRecovered .. => 10
  | .levelStep .. => 11
  | .unloadStalled _ => 12
  | .unbookedDispense .. => 13
  | .startFail => 14

/-- The event kind of a record, 0 for other kinds (R196). -/
def bodyEventKind : RecordBody → Nat
  | .event e => eventKind e
  | .settleSet _ | .settleBoard _ | .delivery _ | .docket _ | .changeover _ => 0

/-- The class SWITCH_FAULT of a BOARD (R195). -/
abbrev switchFaultClass : Nat := 8

/-- The body of an EVENT record (R171, R195). The channel of METER_LOST has one byte (DESIGN CHOICE, log 24). -/
def eventBytes : Event → List Byte
  | .retainLost c => be1 (lossCode c)
  | .duplicateStation n => be1 n
  | .txDropped kind dest cause => be1 kind ++ be1 dest ++ be1 (dropCode cause)
  | .faultRaised c d => be1 (faultCode c) ++ be1 (dutyCode d)
  | .meterLostRaised n => be1 (faultCode .meterLost) ++ be1 n
  | .switchFaultRaised c f => be1 switchFaultClass ++ be1 (switchFaultCode c) ++ be1 (flagSet f)
  | .faultCleared c => be1 (faultCode c)
  | .meterLostCleared n => be1 (faultCode .meterLost) ++ be1 n
  | .switchFaultCleared => be1 switchFaultClass
  | .startFail => []
  | .lateCommit board ticket load d => be1 board ++ be2 ticket ++ be2 load ++ be1 (dutyCode d)
  | .overcommit board ticket headroom => be1 board ++ be2 ticket ++ beInt headroom
  | .feedDiscovered board load => be1 board ++ be2 load
  | .feedFull board => be1 board
  | .unloadStalled boards => listField be1 boards
  | .levelRecovered step start cause => beInt step ++ be4 start ++ be1 (badCode cause)
  | .levelStep step start cause => beInt step ++ be4 start ++ be1 (badCode cause)
  | .unbookedDispense dispensed start => be4 dispensed ++ be4 start

/-- A claim line (R196). -/
def claimLineBytes (l : ClaimLine) : List Byte := be1 l.board ++ be4 l.energy ++ be4 l.share

/-- The SETTLE_SET body (R196). -/
def settleSetBytes (r : SettleSetRec) : List Byte :=
  be2 r.period ++ beBool r.interrupted ++ be2 r.run ++ be2 r.idle ++ be4 r.fuel ++ be4 r.energy ++ be4 r.allotted ++
    be4 r.retained ++ be2 r.late ++ listField claimLineBytes r.claims

/-- An account line (R196): fuel present in bit 0, peak present in bit 1. -/
def accountLineBytes (l : AccountLine) : List Byte :=
  be1 l.account ++ be4 l.wh ++ be1 (flagSet [l.fuel.isSome, l.peak.isSome]) ++ be4 (l.fuel.getD 0) ++
    be4 (l.peak.getD 0)

/-- The SETTLE_BOARD body (R196). -/
def settleBoardBytes (r : SettleBoardRec) : List Byte :=
  be1 r.set ++ be2 r.period ++ be1 (settleCode r.outcome) ++ be4Fit r.claim ++ optField 4 be4 r.allotted ++
    be4 r.unmetered ++ be4 r.unattributed ++ listField accountLineBytes r.lines

/-- The DELIVERY body in the field order of R141, the meter check by its place in R141's table (R195). The level check, for
which R140 has no table, carries the code of section 1.8 (DESIGN CHOICE, log 47). A content that is unavailable is an
optional field that is absent (DESIGN CHOICE, log 24). -/
def deliveryBytes (r : DeliveryRec) : List Byte :=
  firstOf r.tanker.isSome ++ optField 1 be1 r.tanker ++ optField 2 be2 r.docket ++ be4 r.openedAt ++
    optField 4 be4 r.before ++ optField 4 be4 r.after ++ be4 r.inlet ++ be4 r.burned ++ beInt r.rise ++
    beInt r.variance ++ be1 r.levelCheck ++ optField 4 be4 r.dispensed ++ optField 4 beInt r.meterVariance ++
    be1 (deliveryMeterCode r.meterCheck)

/-- The DOCKET body in the field order of R146. R146 has no table of the checks, which carry the codes of section 1.8
(DESIGN CHOICE, log 47). -/
def docketBytes (r : DocketRec) : List Byte :=
  be2 r.docket ++ be1 r.target ++ be4 r.dispensed ++ be1 (docketOutcomeCode r.outcome) ++ optField 1 be1 r.meterCheck ++
    optField 1 be1 r.levelCheck ++ optField 4 be4 r.inlet ++ optField 4 beInt r.rise

/-- The CHANGEOVER body in the field order of R112. -/
def changeoverBytes (r : ChangeoverRec) : List Byte :=
  be2 r.ticket ++ be1 (recordReasonCode r.reason) ++ be1 r.fromPos ++ be1 r.fromSet ++ be1 r.toPos ++ be1 r.toSet ++
    be1 (chgOutcomeCode r.outcome) ++ be4 r.unfed

/-- A record's body. -/
def bodyBytes : RecordBody → List Byte
  | .settleSet r => settleSetBytes r
  | .settleBoard r => settleBoardBytes r
  | .delivery r => deliveryBytes r
  | .docket r => docketBytes r
  | .changeover r => changeoverBytes r
  | .event e => eventBytes e

/-- The SETTLE_SET carry section: 61 bytes (R196). -/
def setCarryBytes (c : SettleSetCarry) : List Byte :=
  be2 c.first ++ be2 c.last ++ beBool c.interrupted ++ be8 c.fuel ++ be8 c.energy ++ be8 c.allotted ++ be8 c.retained ++
    be8 c.run ++ be8 c.idle ++ be8 c.late

/-- A line of the SETTLE_BOARD carry: as in a record, with 8-byte Wh and fuel (R196); every line has fuel, and every one
but the house a peak (log 25). -/
def carryLineBytes (l : CarryLine) : List Byte :=
  be1 l.account ++ be8 l.wh ++ be1 (flagSet [true, l.account != 0]) ++ be8 l.fuel ++ be4 l.peak

/-- The SETTLE_BOARD carry section (R196). -/
def boardCarryBytes (c : SettleBoardCarry) : List Byte :=
  be1 c.set ++ be2 c.first ++ be2 c.last ++ be2Fit c.notAllotted ++ be8 c.claim ++ be8 c.allotted ++ be8 c.unmetered ++
    be8 c.unattributed ++ listField carryLineBytes c.lines

/-- The DELIVERY carry section in the field order of R176, the worst checks coded as in the records (DESIGN CHOICE, log
47). -/
def deliveryCarryBytes (c : DeliveryCarry) : List Byte :=
  be8 c.inlet ++ be8 c.burned ++ be8 c.dispensed ++ be1 (deliveryMeterCode c.worstMeter) ++ be1 c.worstLevel

/-- The DOCKET carry section in the field order of R176. -/
def docketCarryBytes (c : DocketCarry) : List Byte :=
  be8 c.inlet ++ be8 c.dispensed ++ be2Fit c.notDone ++ optField 1 be1 c.worstMeter ++ optField 1 be1 c.worstLevel

/-- A carry section (R196). -/
def carryBytes : Carry → List Byte
  | .settleSet c => setCarryBytes c
  | .settleBoard c => boardCarryBytes c
  | .delivery c => deliveryCarryBytes c
  | .docket c => docketCarryBytes c

/-- The merged count of a carry. -/
def Carry.merged : Carry → Nat
  | .settleSet c => c.merged
  | .settleBoard c => c.merged
  | .delivery c => c.merged
  | .docket c => c.merged

/-- The count of a record's header: the event-lost count carried, or the merged count absorbed (R196). -/
def headerCount (r : Record) : Nat := if r.body.isEvent then r.lost else (r.carry.map Carry.merged).getD 0

/-- A record as READ_RECORD returns it: header, body, carry section (R178, R196). -/
def recordBytes (r : Record) : List Byte :=
  be1 (recordKind r.body) ++ be1 (bodyEventKind r.body) ++ be2 r.seq ++ be4 r.stamp ++ be2 r.powerUps ++
    be2 (headerCount r) ++ be2 (bodyBytes r.body).length ++ bodyBytes r.body ++ (r.carry.map carryBytes).getD []

/-! ## READ_STATUS (R194) -/

/-- The common part (R194). ATTN is sent as 1 while it is asserted (DESIGN CHOICE, log 24). -/
def commonPart (s : State) : List Byte :=
  firstOf (s.station == .unconfigured) ++ optField 1 (fun r => be1 (roleCode r)) s.image.role ++
    optField 1 be1 s.image.station ++ beBool s.line.listenOnly ++ be1 s.image.lineRate ++ be2 s.line.queue.length ++
    beBool s.attn ++ optField 1 be1 s.port.startRefusal ++ be1 (flagSet s.inputs)

/-- The metering part (R47). The stale flag is sent as 1 while it is set (DESIGN CHOICE, log 24). -/
def meterPart (s : State) : List Byte :=
  s.meter.channels.flatMap (fun c =>
    be1 (chanCode c.state) ++ beBool (c.state == .lost) ++ be2Fit c.average ++ be2 c.silence) ++
    be2 s.meter.linkErrors

/-- A fault list entry (R64, R73). -/
def faultEntryBytes (e : FaultEntry) : List Byte :=
  be1 (faultCode e.cls) ++ be4 e.raisedAt ++ firstOf e.present ++ beBool e.acked

/-- A feed list entry (R68, R73). -/
def feedEntryBytes (e : FeedEntry) : List Byte := be1 e.board ++ be2 e.load ++ firstOf e.confirmed ++ be4 e.joined

/-- The duty controller's part (R73). -/
def dutyPart (s : State) : List Byte :=
  be1 (dutyCode s.duty.state) ++ optField 1 (fun o => be1 (originCode o)) s.duty.origin ++ be1 (modeCode s.duty.mode) ++
    firstOf s.duty.runOn ++ firstOf s.duty.brkClosed ++ be1 (flagSet [s.input 1, s.input 2, s.input 3]) ++
    be4 s.duty.timer ++ be2 s.duty.idle ++ beBool s.inhibit ++ be1 (flagSet (allFaults.map s.present)) ++
    listField faultEntryBytes s.duty.faults ++ listField feedEntryBytes s.duty.feed

/-- A reservation list entry (R76, R89). -/
def reservationBytes (r : Reservation) : List Byte :=
  be1 r.board ++ be2 r.ticket ++ be2 r.load ++ firstOf r.hold.isSome ++ optField 4 be4 r.hold

/-- The headroom arbiter's part (R89). -/
def arbiterPart (s : State) : List Byte :=
  be2Fit s.image.usable ++ be2Fit s.measured ++ be2Fit s.feedSum ++ be2Fit s.basis ++ beInt s.headroom ++
    listField reservationBytes s.reservations

/-- The code of the command held: none, OPEN, CLOSE_1..CLOSE_3 (R90). -/
def cmdCode : Option SwitchCmd → Nat
  | none => 0
  | some .openAll => 1
  | some (.closeTo n) => 1 + n

/-- The attempt's fields in the order of R90. The cursor is one byte and counts places from 0 (DESIGN CHOICE, log 24). -/
def attemptBytes (a : Attempt) : List Byte :=
  be1 (recordReasonCode a.reason) ++ be1 a.fromPos ++ be1 a.oldPos ++ be2 a.estimate ++ listField be1 a.candidates ++
    be1 a.cursor ++ be2 a.ticket ++ be2 a.sends ++ be4 a.timer ++ be4 a.unfed

/-- The changeover controller's part (R114). The dry note, the switch fault and the quiet reason, `none, or ...` in R90,
and the retry and dwell timers, `stopped, or ...` there, are optional fields, and the command held is one code with none at
0 (DESIGN CHOICE, log 24). -/
def stagePart (s : State) : List Byte :=
  be1 (chgCode s.chg.state) ++ be1 s.closedPos ++
    [1, 2, 3].flatMap (fun n => beBool (s.input n) ++ be1 (liveCode (s.liveAt n))) ++
    be1 (cmdCode s.chg.cmd) ++ be4 s.chg.held ++ optField 2 be2 s.chg.lastLive ++ optField 19 attemptBytes s.chg.attempt ++
    be2 s.chg.ticket ++ optField 5 (fun x => be4 x.1 ++ be1 (recordReasonCode x.2)) s.chg.retry ++
    optField 4 be4 s.chg.dwell ++ optField 1 be1 s.chg.dryNote ++
    optField 1 (fun c => be1 (switchFaultCode c)) s.chg.fault ++
    optField 1 (fun r => be1 (recordReasonCode r)) s.chg.quiet

/-- The hold record with its burn and inlet since (R124, R133). -/
def holdBytes (s : State) (h : Hold) : List Byte :=
  be4 h.content ++ be4 h.burn ++ be4 h.inlet ++ be4 h.start ++ be1 (badCode h.cause) ++ be4 (diff32 s.burnCl h.burn) ++
    be4 (diff32 s.inletCl h.inlet)

/-- The loop second value and class (R133). -/
def loopPart (s : State) : List Byte := be2 s.tank.loopValue ++ be1 (loopCode s.tank.loopClass)

/-- The tank monitor's part (R133). The dry flag is sent as 1 while it is set, and a rate that is none as an optional field
that is absent (DESIGN CHOICE, log 24). -/
def tankPart (s : State) : List Byte :=
  loopPart s ++ firstOf s.tank.good ++ optField 1 (fun c => be1 (badCode c)) s.tank.badCause ++ be2 s.tank.qualifying ++
    optField 2 be2 s.tank.filterAverage ++ be2 s.tank.filter.length ++ optField 2 be2 s.tank.liveLevel ++
    optField 4 be4 s.tank.liveContent ++ be1 (contentCode s.tank.mode) ++ be4 s.tank.reported ++
    optField 25 (holdBytes s) s.tank.hold ++ be2 s.tank.matching ++ listField be4 s.tank.buckets ++
    optField 4 be4 s.tank.rate ++ be2 s.tank.tte ++ firstOf s.tank.empty ++ beBool s.tank.dry

/-- The session with all its fields (R134, R147). A content before that is unavailable is an optional field that is absent
(DESIGN CHOICE, log 24). -/
def sessionBytes (x : Session) : List Byte :=
  firstOf x.tanker.isSome ++ optField 1 be1 x.tanker ++ optField 2 be2 x.docket ++ optField 4 be4 x.dispensed ++
    optField 4 be4 (contentIn x.anchor.mode x.anchor.content) ++ be4 x.anchor.inlet ++ be4 x.anchor.burn ++
    be4 x.anchor.time ++ be1 (phaseCode x.phase) ++ be2 x.quiet ++ be4 x.settle

/-- The inlet watch (R134, R147). -/
def watchBytes (w : Watch) : List Byte :=
  be4 w.anchor.time ++ be4 w.anchor.inlet ++ be4 w.anchor.burn ++ be4 w.anchor.content ++ be1 (contentCode w.anchor.mode)

/-- The last result (R134, R147). R134 lists the tanker, the docket and the fields of the DELIVER_RESULT, whose own first
field is the docket: it goes out once (DESIGN CHOICE, log 24). -/
def resultBytes (l : LastResult) : List Byte :=
  be1 l.tanker ++ be2 l.docket ++ be1 l.meterCheck ++ be1 l.levelCheck ++ be4 l.inlet ++ beInt l.rise

/-- The SET's delivery part (R147). -/
def deliveryPart (s : State) : List Byte :=
  optField 35 sessionBytes s.delivery.session ++ optField 17 watchBytes s.delivery.watch ++
    optField 13 resultBytes s.delivery.last

/-- The open delivery with its dispensed so far (R142, R147). -/
def openBytes (s : State) (o : OpenDelivery) : List Byte :=
  be1 o.target ++ be2 o.docket ++ be4 o.begin ++ be2 o.attempts ++ be4 o.timer ++ beBool o.again ++
    optField 4 be4 o.dispensed ++ be4 (dispensedShown s o)

/-- The TANKER's part (R147). The unbooked run goes out with its seconds without a change (DESIGN CHOICE, log 24). -/
def tankerPart (s : State) : List Byte :=
  be1 (tankerCode s.tanker.state) ++ optField 23 (openBytes s) s.tanker.delivery ++ be2 s.tanker.nextDocket ++
    be4 s.tanker.loadFigure ++ be4 s.tankerContent ++
    optField 12 (fun r => be4 r.start ++ be4 r.before ++ be4 r.quiet) s.tanker.run

/-- A closed period with its figures (R148, R169); Interrupted is sent as yes/no (DESIGN CHOICE, log 24). -/
def closedBytes (c : ClosedPeriod) : List Byte :=
  be2 c.period ++ be4 c.fuel ++ be4 c.energy ++ be4 c.run ++ be4 c.idle ++ beBool c.interrupted

/-- A claim list entry, its share absent until it is apportioned (R148). -/
def claimBytes (c : Claim) : List Byte := be1 c.board ++ be4 c.energy ++ optField 4 be4 none

/-- The late-claim count as R169 returns it: absent in UNCONFIGURED. -/
def lateShown (s : State) : Option Nat := if s.station = .run then some s.setBill.late else none

/-- The SET's settlement part (R169); an absent claim list is an empty one, and Interrupted, 'set, clear' in R148, is sent as
yes/no (DESIGN CHOICE, log 24). -/
def setBillPart (s : State) : List Byte :=
  optField 11 (fun (o : OpenPeriod) => be2 o.period ++ be4 o.elapsed ++ be4 o.idle ++ beBool o.interrupted)
      s.setBill.opened ++
    optField 19 closedBytes s.setBill.closed ++ optField 4 be4 s.setBill.window ++
    listField claimBytes s.setBill.claims ++
    optField 3 (fun (l : LastAllotments) =>
      be2 l.period ++ listField (fun x => be1 x.1 ++ be4 x.2) l.shares) s.setBill.last ++
    optField 2 be2 (lateShown s)

/-- A settlement table entry with all its fields (R156, R169). Incomer-lost, 'set, clear' in R156, is sent as yes/no (DESIGN
CHOICE, log 24). -/
def entryBytes (i : Image) (e : Entry) : List Byte :=
  be1 e.set ++ be1 e.pos ++ be2 e.period ++ be1 (entryCode e.state) ++ be4 e.incomer ++
    (accountWh i e).flatMap be4 ++ (e.peaks.take i.accountCount).flatMap be4 ++ beBool e.incomerLost ++
    be4 e.unmetered ++ be4 e.openedAt ++ be4 e.age ++ optField 4 be4Fit e.claim ++ optField 1 be1 e.attempt ++ be4 e.wait ++
    be4 e.waitLength

/-- The sets named in POS_SET items, in position order. In UNCONFIGURED two items may name one set, which then stands twice
(DESIGN CHOICE, log 24). -/
def namedSets (i : Image) : List Nat := ([1, 2, 3].map i.setAt).filter (fun n => n != 0)

/-- The BOARD's settlement part (R169). -/
def boardBillPart (s : State) : List Byte :=
  listField (entryBytes s.image) s.boardBill.table ++ be4 s.boardBill.unattributed ++
    listField (fun n => be1 n ++ be2 (s.lastClosedOf n)) (namedSets s.image)

/-- The settlement part of the role (R169): no bytes for a TANKER, or while ROLE is unwritten (DESIGN CHOICE, log 24). -/
def billPart (s : State) : List Byte :=
  match s.image.role with
  | some .set => setBillPart s
  | some .board => boardBillPart s
  | some .tanker => []
  | none => []

/-- A carry as READ_STATUS returns it: merged count, and where not empty its fields (R185). -/
def carryPart {α : Type} (merged : α → Nat) (enc : α → List Byte) : Option α → List Byte
  | some c => be2 (merged c) ++ enc c
  | none => be2 0

/-- The part of the record store and retained memory (R185). -/
def storePart (s : State) : List Byte :=
  be2 s.records.queue.length ++ be2 (s.records.queue.filter (fun r => r.body.isEvent)).length ++
    optField 2 be2 (s.records.queue.head?.map Record.seq) ++ be2 s.records.seq ++ be2 s.records.eventLost ++
    carryPart SettleSetCarry.merged setCarryBytes s.records.setCarry ++
    carryPart SettleBoardCarry.merged boardCarryBytes s.records.boardCarry ++
    carryPart DeliveryCarry.merged deliveryCarryBytes s.records.deliveryCarry ++
    carryPart DocketCarry.merged docketCarryBytes s.records.docketCarry ++
    firstOf s.backupGood ++ be2 s.powerUps ++ be4 s.stationSeconds

/-- The parts of the active blocks (R194). In UNCONFIGURED the fields of R133 that read absent are left out, as R194 lists
none of them (DESIGN CHOICE, log 24). -/
def blockParts (s : State) : List Byte :=
  match s.station, s.image.role with
  | .unconfigured, _ => meterPart s ++ loopPart s ++ billPart s
  | .run, some .set =>
    meterPart s ++ dutyPart s ++ arbiterPart s ++ tankPart s ++ deliveryPart s ++ setBillPart s
  | .run, some .board => meterPart s ++ stagePart s ++ boardBillPart s
  | .run, some .tanker => tankerPart s
  | .run, none => []

/-- The READ_STATUS payload (R194). -/
def statusPayload (s : State) : List Byte := commonPart s ++ blockParts s ++ storePart s

/-! ## READ_TOTALS and READ_PEER (R31, R194) -/

/-- The totals of the metering unit (R47). -/
def meterTotals (s : State) : List Byte :=
  s.meter.channels.flatMap (fun c => be4 c.wh ++ be2 c.ws ++ be4 c.unmetered ++ be4 c.peak)

/-- The open period's snapshots and its figures so far (R169). -/
def periodTotals (s : State) : List Byte :=
  optField 24 (fun (o : OpenPeriod) =>
    let c := closedFrom s o
    be4 o.burn ++ be4 o.output ++ be4 o.run ++ be4 c.run ++ be4 c.fuel ++ be4 c.energy) s.setBill.opened

/-- The totals of the role (R73, R133, R147, R169, R194). The lifetime cl of a SET and of a TANKER are optional fields in
RUN, and are left out in UNCONFIGURED, where R194 lists the pulses alone; so are the snapshots and the figures of the open
period there, although R148 retains them and R169 returns retained period items (DESIGN CHOICE, log 24). -/
def roleTotals (s : State) : List Byte :=
  match s.station, s.image.role with
  | .unconfigured, _ => be8 s.tank.burnPulses ++ be8 s.tank.inletPulses ++ be8 s.tanker.pulses
  | .run, some .set =>
    be4 s.duty.starts ++ be4 s.duty.runSeconds ++ be8 s.tank.burnPulses ++ be8 s.tank.inletPulses ++
      optField 4 be4 (some s.burnCl) ++ optField 4 be4 (some s.inletCl) ++ periodTotals s
  | .run, some .board => []
  | .run, some .tanker => be8 s.tanker.pulses ++ optField 4 be4 (some s.dispenseCl)
  | .run, none => []

/-- The READ_TOTALS payload (R194). -/
def totalsPayload (s : State) : List Byte := meterTotals s ++ roleTotals s

/-- The code of a peer's role: UNKNOWN, SET, BOARD, TANKER (R20). -/
def peerRoleCode : Option Role → Nat
  | none => 0
  | some .set => 1
  | some .board => 2
  | some .tanker => 3

/-- The READ_PEER payload (R31, R194): the stored body preceded by its count, without the role byte with which the frame
began (DESIGN CHOICE, log 24). -/
def peerPayload (p : Peer) : List Byte :=
  be1 p.station ++ be1 (peerRoleCode p.role) ++ be1 (freshCode p.fresh) ++ be4 p.since ++
    listField (fun b => [b]) ((p.body.map statusFields).getD [])

end Sys2Proof.Machine
end

