-- ==== Sys2Proof/Machine/Pins.lean ====
section
/-! DEFINITION. The field inputs that the roles share (R198): a debounced change of FI1, FI2 or FI3 acts on the duty
controller of a SET and on the changeover controller of a BOARD. -/

namespace Sys2Proof.Machine

/-- What a change of FI1..FI3 means to the duty controller (R50, R198). -/
def dutyInput (s : State) (n : Nat) (level : Bool) : State :=
  if n = 1 then engineReady s level
  else if n = 2 then breakerFeedback s
  else engineFaultInput s level

/-- A debounced change of FI1..FI3 (R50, R91, R198). A level already held is no change. In UNCONFIGURED the level alone
changes. -/
def pinChange (s : State) (n : Nat) (level : Bool) : State :=
  if s.input n = level ∨ n = 0 ∨ 3 < n then s
  else
    whenRuns .board (dutyEvent (setInput s n level) (fun t => dutyInput t n level)) (fun t => closedFeedback t n level)

/-! ## The meanings of the rows -/

/-- ENGINE_READY_CHANGE (R50, R51): FI1. -/
def execEngineReadyChange (level : Bool) (s : State) : Host.Outcome State Fault Refusal :=
  .next (whenAwake s (fun t => pinChange t 1 level))

/-- BREAKER_FEEDBACK_CHANGE (R50, R62): FI2. -/
def execBreakerFeedbackChange (level : Bool) (s : State) : Host.Outcome State Fault Refusal :=
  .next (whenAwake s (fun t => pinChange t 2 level))

/-- ENGINE_FAULT_INPUT_CHANGE (R50, R61): FI3. -/
def execEngineFaultInputChange (level : Bool) (s : State) : Host.Outcome State Fault Refusal :=
  .next (whenAwake s (fun t => pinChange t 3 level))

/-- CLOSED_FEEDBACK_CHANGE (R91): FI1, FI2 or FI3. -/
def execClosedFeedbackChange (pos : Nat) (level : Bool) (s : State) : Host.Outcome State Fault Refusal :=
  .next (whenAwake s (fun t => pinChange t pos level))

end Sys2Proof.Machine
end

