-- ==== Sys2Proof/Machine/Restart.lean ====
section
/-! DEFINITION. Supplies, the RESET pin, cold start, START and warm restart (sections 10.6, 11.2 to 11.4, 11.9), and the
validation of the configuration image (R191). -/

namespace Sys2Proof.Machine

/-! ## Cold start -/

/-- The command of the switch is released (R93). -/
def dropCmd (c : Changeover) : Changeover := { c with cmd := none, held := 0 }

/-- Every block at its cold-start value; retained items as they stand (R17, R24, R46, R72, R89, R92, R131, R147, R155,
R168, R185, R186, R188). The levels of the field inputs are the pins' own (log 5). -/
def coldStart (s : State) : State where
  mainOn := s.mainOn
  resetHeld := false
  station := .unconfigured
  image := blankImage
  inputs := s.inputs
  backupGood := s.backupGood
  doubt := s.doubt
  checkAgrees := s.checkAgrees
  powerUps := s.powerUps
  stationSeconds := s.stationSeconds
  pulses := { engine := none, breaker := none }
  line := blankLine
  peers := []
  meter := restartMeter s.meter
  duty := { blankDuty with starts := s.duty.starts, runSeconds := s.duty.runSeconds }
  reservations := []
  chg := { blankChangeover with ticket := s.chg.ticket }
  tank := { blankTank with burnPulses := s.tank.burnPulses, inletPulses := s.tank.inletPulses }
  delivery := blankDelivery
  tanker := restartTanker s.tanker
  setBill := { clearClaims s.setBill with putOff := false }
  boardBill := s.boardBill
  records := s.records
  port := { blankPort with taken := s.port.taken }
  free := s.free
  pending := s.pending

/-! ## Retention (R181 to R183) -/

/-- A retention loss clears every retained item, then appends RETAIN_LOST (R183). -/
def loseRetention (s : State) (cause : LossCause) : State :=
  { s with
      powerUps := 0
      stationSeconds := 0
      meter := blankMeter
      duty := { s.duty with starts := 0, runSeconds := 0 }
      chg := { s.chg with ticket := 0 }
      tank := { s.tank with burnPulses := 0, inletPulses := 0 }
      tanker := blankTanker
      setBill := blankSetBill
      boardBill := blankBoardBill
      records := lostRecords cause }

/-- Retention judged at a power-up by the doubt latch and the check value (R182). -/
def judgeRetention (s : State) : State :=
  if s.doubt then loseRetention s .backup
  else if s.checkAgrees then { s with powerUps := incTo 65535 s.powerUps }
  else loseRetention s .check

/-- The backup has fallen so low that the doubt latch itself was not kept: the latch reads clear, and contents and check
value stand in disorder (R181, log 38). -/
def loseLatch (s : State) : State := { s with doubt := false, checkAgrees := false }

/-- Main supply returns, the doubt latch kept since its loss or lost (R182): judgement, the latch cleared, the check value
renewed with the contents that the judgement leaves (R181), cold start. -/
def powerUp (latchKept : Bool) (s : State) : State :=
  if s.mainOn then s
  else
    let found := if latchKept then s else loseLatch s
    coldStart { judgeRetention found with mainOn := true, doubt := false, checkAgrees := true }

/-- The line controller driving nothing, its frames kept (R199). -/
def releaseLine (l : LineCtl) : LineCtl := { l with queue := offLine l.queue, older := none, phase := .waiting }

/-- Field pulses and the switch command end, and the line is released (R49, R93, R199). -/
def letGo (s : State) : State :=
  { s with pulses := { engine := none, breaker := none }, chg := dropCmd s.chg, line := releaseLine s.line }

/-- Main supply falls (R49, R180). A backup last measured LOW stands below the threshold at the first moment of the
monitor's own run, and the doubt latch is set (R181, log 38); the meter link loses the reading it has begun (log 11). -/
def supplyLoss (s : State) : State :=
  if s.mainOn then
    { setLink (letGo s) [] false with mainOn := false, resetHeld := false, doubt := s.doubt || !s.backupGood }
  else s

/-- The backup falls below the threshold while main supply is off and sets the doubt latch (R181). -/
def backupFalls (s : State) : State := if s.mainOn then s else { s with doubt := true }

/-- RESET is held low (R199). -/
def holdReset (s : State) : State := if s.mainOn then { letGo s with resetHeld := true } else s

/-- RESET is released: a cold start, retention not judged (R182, R199). -/
def releaseReset (s : State) : State := if s.mainOn then coldStart s else s

/-! ## Validation of the image (R191) -/

/-- Levels strictly ascending and volumes never falling (R120, R191). -/
def strapAscends : List StrapPoint → Bool
  | [] => true
  | [_] => true
  | p :: q :: rest => decide (p.level < q.level) && decide (p.volume ≤ q.volume) && strapAscends (q :: rest)

/-- Points 1..STRAP_COUNT written and in order (R191). -/
def strapOk (i : Image) : Bool :=
  (i.strap.take i.strapPoints).all Option.isSome && decide (i.table.length = i.strapPoints) && strapAscends i.table

/-- The POS_SET values of positions 1..3. -/
def posSets (i : Image) : List Nat := [1, 2, 3].map i.setAt

/-- POS_SET refused: no set named, one named twice, or the own number named (R191). -/
def posSetFails (i : Image) (own : Nat) : Bool :=
  (namedSets i).isEmpty || !decide ((namedSets i).Nodup) || (posSets i).contains own

/-- The failing item of a SET's image (R191, step 2). -/
def setFailure (i : Image) : Option Nat :=
  if i.rated = none then some 5
  else if i.calHigh < i.calLow + 8000 then some 18
  else if strapOk i = false then some 22
  else if i.fullVolume ≤ i.reserveCl then some 23
  else none

/-- The code of the first failing item of the image, `none` where it is valid (R191). -/
def firstFailure (i : Image) : Option Nat :=
  match i.station, i.role with
  | none, _ => some 1
  | some _, none => some 2
  | some _, some .set => setFailure i
  | some own, some .board => if posSetFails i own then some 32 else none
  | some _, some .tanker => none

/-! ## START (R191) -/

/-- START of a SET's blocks (R59, R123, R134, R155). -/
def startSet (s : State) : State := startDelivery (adoptDuty (startSetBill (startTank s)) s.image.startMode)

/-- START of a BOARD's blocks (R34, R113, R168): changeover, settlement, then the channels LOST, 0 to 12 (DESIGN CHOICE of
the order, log 39). -/
def startBoard (s : State) : State := lostAtStart (startBoardBill (adoptStage s))

/-- Each block of the role takes START (R191). -/
def startRole (s : State) : State :=
  match s.image.role with
  | some .set => startSet s
  | some .board => startBoard s
  | some .tanker => s
  | none => s

/-- A validated START: RUN, station-seconds 0, the channels of the role, the blocks, the first STATUS (R191). -/
def enterRun (s : State) : State :=
  postStatus (startRole (narrowMeter
    { s with station := .run, stationSeconds := 0, port := { s.port with startRefusal := none } }))

/-! ## Warm restart (R192) -/

/-- The line controller at a warm restart: an abort burst where it was sending (R18). R18 speaks of a station that is sending;
the burst of an earlier bit error, still driven, ends at once (DESIGN CHOICE, log 48). -/
def restartLine (l : LineCtl) : LineCtl :=
  { l with queue := [], older := none, phase := if l.phase = .sending then .burst else .waiting }

/-- A warm restart of a SET's blocks (R72, R89, R131, R147, R155). -/
def rewarmSet (s : State) : State := startDelivery (adoptDuty (rewarmSetBill (startTank s)) s.duty.mode)

/-- A warm restart of a BOARD's blocks (R113, R168), in the order of START (DESIGN CHOICE, log 39). -/
def rewarmBoard (s : State) : State := startBoardBill (rewarmStage s)

/-- A warm restart of the role's blocks. -/
def rewarmRole (s : State) : State :=
  match s.image.role with
  | some .set => rewarmSet s
  | some .board => rewarmBoard s
  | some .tanker => { s with tanker := restartTanker s.tanker }
  | none => s

/-- A warm restart (R192): the line, the peer table, metering, the reservation list, then the role's blocks, and a STATUS.
R192 names no order: the peer table empties before the controller adopts, which then finds no FRESH status (DESIGN CHOICE,
log 52). -/
def warmRestart (s : State) : State :=
  postStatus (rewarmRole
    { endPulses s with
        line := restartLine s.line
        peers := []
        meter := restartMeter s.meter
        reservations := []
        chg := dropCmd s.chg })

/-! ## The meanings of the rows -/

/-- POWER_UP (R182, R183). -/
def execPowerUp (latchKept : Bool) (s : State) : Host.Outcome State Fault Refusal := .next (powerUp latchKept s)

/-- RESET_PIN (R182, R199). -/
def execResetPin (s : State) : Host.Outcome State Fault Refusal := .next (releaseReset s)

/-- MAIN_SUPPLY_LOSS (R49, R180). -/
def execMainSupplyLoss (s : State) : Host.Outcome State Fault Refusal := .next (supplyLoss s)

/-- BACKUP_BELOW_THRESHOLD (R181). -/
def execBackupBelowThreshold (s : State) : Host.Outcome State Fault Refusal := .next (backupFalls s)

/-- RESET_HELD_LOW (R199). -/
def execResetHeldLow (s : State) : Host.Outcome State Fault Refusal := .next (holdReset s)

end Sys2Proof.Machine
end

