-- ==== Sys2Proof/Machine/Port.lean ====
section
/-! DEFINITION. The local port (chapter 11): taking a command frame, the reply buffer, the commands and the requests. -/

namespace Sys2Proof.Machine

/-! ## Answers (R186, R187, R189) -/

/-- What a command's rules give: the reply code, the payload, and the state it leaves. -/
structure Answer where
  code : ReplyCode
  payload : List Byte
  state : State

/-- A refusal changes nothing and carries no payload (R189). -/
def refuse (c : ReplyCode) (s : State) : Answer := { code := c, payload := [], state := s }

/-- OK without a payload. -/
def accept (s : State) : Answer := { code := .ok, payload := [], state := s }

/-- OK with what a read returns; nothing changes (R194). -/
def returning (p : List Byte) (s : State) : Answer := { code := .ok, payload := p, state := s }

/-- A taken command's reply in the buffer: the counter adds 1, and the status reads NOT_READY (R186, R187). -/
def placeReply (p : Port) (command : Nat) (code : ReplyCode) (payload : List Byte) : Port :=
  { p with
      reply :=
        { ready := false, command := command, counter := (p.reply.counter + 1) % 256, code := code, payload := payload }
      taken := p.taken + 1 }

/-- A command frame is judged: discarded while the buffer reads NOT_READY, otherwise taken and acted on (R187). -/
def takeCommand (command : Nat) (act : State → Answer) (s : State) : State :=
  if s.awake && s.port.reply.ready then
    let a := act s
    { a.state with port := placeReply a.state.port command a.code a.payload }
  else s

/-- A command of one length in bytes (R187, row 2). -/
def ofLength (n : Nat) (params : List Byte) (act : State → Answer) (s : State) : Answer :=
  if params.length = n then act s else refuse .range s

/-- A command refused in UNCONFIGURED (R187, row 3). -/
def inRun (act : State → Answer) (s : State) : Answer := if s.station = .run then act s else refuse .state s

/-- A command refused in RUN (R187, row 3). -/
def beforeRun (act : State → Answer) (s : State) : Answer := if s.station = .run then refuse .state s else act s

/-- A command of one role (R187, row 3). -/
def forRole (r : Role) (act : State → Answer) (s : State) : Answer :=
  if s.image.role = some r then act s else refuse .role s

/-! ## WRITE_CONFIG (R190) -/

/-- A value within a range. -/
def inRange (lo hi v : Nat) : Option Nat := if lo ≤ v ∧ v ≤ hi then some v else none

/-- A value among those listed. -/
def among (l : List Nat) (v : Nat) : Option Nat := if l.contains v then some v else none

/-- PREFERENCE: three distinct positions in the three lowest bytes (section 11.3). Section 11.3 does not name the highest byte
of the value: another value than 0 in it is outside the range (DESIGN CHOICE, log 55). -/
def preferenceOf (v : Nat) : Option (List Nat) :=
  let l := [v / 65536, v / 256 % 256, v % 256]
  if l.all (fun p => decide (1 ≤ p ∧ p ≤ 3)) ∧ l.Nodup then some l else none

/-- A plain item of the table of section 11.3 takes a value: absent where the item is not a plain one or the value is
outside its range. -/
def writePlain (i : Image) (item v : Nat) : Option Image :=
  match item with
  | 1 => (inRange 1 30 v).map (fun x => { i with station := some x })
  | 2 => (roleOf v).map (fun x => { i with role := some x })
  | 3 => (inRange 0 2 v).map (fun x => { i with lineRate := x })
  | 4 => (inRange 1 5 v).map (fun x => { i with statusInterval := some x })
  | 5 => (inRange 100 20000 v).map (fun x => { i with rated := some x })
  | 6 => (inRange 0 30 v).map (fun x => { i with margin := some x })
  | 7 => (inRange 20 180 v).map (fun x => { i with startTimeout := some x })
  | 8 => (inRange 0 600 v).map (fun x => { i with warmup := some x })
  | 9 => (inRange 0 600 v).map (fun x => { i with cooldown := some x })
  | 10 => (inRange 60 3600 v).map (fun x => { i with idleStop := some x })
  | 11 => (inRange 60 1800 v).map (fun x => { i with unloadLimit := some x })
  | 12 => (inRange 5 60 v).map (fun x => { i with resHold := some x })
  | 13 => (among [300, 600, 900, 1800, 3600] v).map (fun x => { i with period := some x })
  | 14 => (inRange 10 60 v).map (fun x => { i with claimWindow := some x })
  | 15 => (inRange 10 10000 v).map (fun x => { i with kBurn := some x })
  | 16 => (inRange 10 10000 v).map (fun x => { i with kInlet := some x })
  | 17 => (inRange 3600 20500 v).map (fun x => { i with calEmpty := some x })
  | 18 => (inRange 3600 20500 v).map (fun x => { i with calFull := some x })
  | 19 => (inRange 100 5000 v).map (fun x => { i with span := some x })
  | 20 => (among [1, 4, 16, 64] v).map (fun x => { i with levelFilter := some x })
  | 21 => (inRange 2 16 v).map (fun x => { i with strapCount := some x })
  | 23 => some { i with reserve := some v }
  | 24 => (inRange 10 240 v).map (fun x => { i with dryWarn := some x })
  | 25 => (inRange 5 100 v).map (fun x => { i with captureBand := some x })
  | 26 => (inRange 0 2 v).map (fun x => { i with reactTankEmpty := some x })
  | 27 => (inRange 0 1 v).map (fun x => { i with reactLevelLoop := some x })
  | 28 => (inRange 0 1 v).map (fun x => { i with reactBurnSilent := some x })
  | 29 => (inRange 0 1 v).map (fun x => { i with reactMeterLost := some x })
  | 30 => (inRange 0 2 v).map (fun x => { i with reactOverload := some x })
  | 31 => (inRange 0 2 v).map (fun x => { i with defaultMode := some x })
  | 33 => (preferenceOf v).map (fun x => { i with preference := some x })
  | 34 => (inRange 2 20 v).map (fun x => { i with deadTime := some x })
  | 35 => (inRange 1 12 v).map (fun x => { i with accounts := some x })
  | 36 => (inRange 0 1 v).map (fun x => { i with followDry := some x })
  | 37 => (inRange 0 1 v).map (fun x => { i with autoRestore := some x })
  | 38 => (inRange 10 300 v).map (fun x => { i with retryInterval := some x })
  | 39 => (inRange 0 65535 v).map (fun x => { i with stageLoadDefault := some x })
  | 40 => (inRange 10 10000 v).map (fun x => { i with kDispense := some x })
  | _ => none

/-- POS_SET takes a station at an index 1..3 (section 11.3). -/
def writePosSet (i : Image) (index v : Nat) : Option Image :=
  if 1 ≤ index ∧ index ≤ 3 ∧ v ≤ 30 then some { i with posSet := i.posSet.set (index - 1) (some v) } else none

/-- STRAP takes a point at an index 1..16 (section 11.3). -/
def writeStrap (i : Image) (index level volume : Nat) : Option Image :=
  if 1 ≤ index ∧ index ≤ 16 ∧ level ≤ 5000 then
    some { i with strap := i.strap.set (index - 1) (some { level := level, volume := volume }) }
  else none

/-- The item codes of STATION, LINE_RATE, STRAP and POS_SET. -/
abbrev itemStation : Nat := 1
abbrev itemLineRate : Nat := 3
abbrev itemStrap : Nat := 22
abbrev itemPosSet : Nat := 32

/-- The image that a write leaves; absent where it is answered RANGE (R190). -/
def writeItem (i : Image) (params : List Byte) : Option Image :=
  match params with
  | [item, index, a, b, c, d] =>
    if item.toNat = itemPosSet then writePosSet i index.toNat (rd4 a b c d)
    else if index = 0#8 then writePlain i item.toNat (rd4 a b c d)
    else none
  | [item, index, l1, l0, a, b, c, d] =>
    if item.toNat = itemStrap then writeStrap i index.toNat (rd2 l1 l0) (rd4 a b c d) else none
  | _ => none

/-- The item code that a write names, 0 where it names none. -/
def itemOf (params : List Byte) : Nat := (params.head?.map BitVec.toNat).getD 0

/-- What a write of STATION or LINE_RATE does at once (R1, R24, R190). -/
def actOnWrite (s : State) (item : Nat) : State :=
  if item = itemStation then
    { s with peers := s.peers.filter (fun p => s.image.station != some p.station) }
  else if item = itemLineRate then setPhase s .waiting
  else s

/-- WRITE_CONFIG in UNCONFIGURED (R190). -/
def writeAct (params : List Byte) (s : State) : Answer :=
  match writeItem s.image params with
  | some i => accept (actOnWrite { s with image := i } (itemOf params))
  | none => refuse .range s

/-- The length of a WRITE_CONFIG by its item (R190). -/
def writeLength (params : List Byte) : Nat := if itemOf params = itemStrap then 8 else 6

/-- WRITE_CONFIG (R190). -/
def writeConfigAct (params : List Byte) (s : State) : Answer :=
  ofLength (writeLength params) params (beforeRun (writeAct params)) s

/-! ## START and WARM_RESTART (R191, R192) -/

/-- START in UNCONFIGURED (R191). -/
def startUp (s : State) : Answer :=
  match firstFailure s.image with
  | some item =>
    { code := .range, payload := be1 item, state := { s with port := { s.port with startRefusal := some item } } }
  | none => accept (enterRun s)

/-- START (R191). -/
def startAct (params : List Byte) (s : State) : Answer := ofLength 0 params (beforeRun startUp) s

/-- WARM_RESTART (R192). -/
def warmRestartAct (params : List Byte) (s : State) : Answer :=
  ofLength 0 params (inRun (fun t => accept (warmRestart t))) s

/-! ## Reads and the removal of a record (R31, R178, R179, R194) -/

def readStatusAct (params : List Byte) (s : State) : Answer :=
  ofLength 0 params (fun t => returning (statusPayload t) t) s

def readTotalsAct (params : List Byte) (s : State) : Answer :=
  ofLength 0 params (fun t => returning (totalsPayload t) t) s

/-- READ_PEER of a station number (R31). -/
def readPeerOf (n : Nat) (s : State) : Answer :=
  if n = 0 ∨ 30 < n then refuse .range s
  else if s.image.station = none ∨ s.image.station = some n then refuse .none s
  else
    match s.peer n with
    | some p => returning (peerPayload p) s
    | none => refuse .none s

def readPeerAct (params : List Byte) (s : State) : Answer :=
  match params with
  | [n] => readPeerOf n.toNat s
  | _ => refuse .range s

/-- READ_RECORD (R178). -/
def readHead (s : State) : Answer :=
  match s.records.queue with
  | r :: _ => returning (recordBytes r) s
  | [] => refuse .none s

def readRecordAct (params : List Byte) (s : State) : Answer := ofLength 0 params readHead s

/-- REMOVE_RECORD of a sequence number (R179). -/
def removeHead (seq : Nat) (s : State) : Answer :=
  match s.records.queue with
  | r :: rest =>
    if r.seq = seq then accept { s with records := { s.records with queue := rest } } else refuse .sequence s
  | [] => refuse .none s

def removeRecordAct (params : List Byte) (s : State) : Answer :=
  match params with
  | [a, b] => removeHead (rd2 a b) s
  | _ => refuse .range s

/-! ## Requests (R57, R58, R96, R111, R142 to R144) -/

/-- A REQUEST with its argument, of one role, in RUN (R187, section 11.7). -/
def request (r : Role) (arg : List Byte) (act : Nat → State → Answer) (s : State) : Answer :=
  match argOf arg with
  | some v => inRun (forRole r (act v)) s
  | none => refuse .range s

/-- MODE (R57). -/
def modeAct (v : Nat) (s : State) : Answer :=
  match runModeOf v with
  | some m => accept (dutyEvent s (fun t => actMode { t with duty := { t.duty with mode := m, idle := 0 } }))
  | none => refuse .range s

/-- STOP_FORCE (R58). -/
def stopForceAct (s : State) : Answer :=
  if s.duty.state = .unloading then accept (dutyEvent s (fun t => enterCooling t .stopping)) else refuse .state s

/-- CHANGEOVER (R96). -/
def changeoverAct (pos : Nat) (s : State) : Answer :=
  if pos = 0 ∨ 3 < pos ∨ s.image.setAt pos = 0 then refuse .range s
  else if s.chg.state ≠ .idle then refuse .state s
  else if s.closedPos = pos then refuse .none s
  else accept (beginAttempt s .planned [pos])

/-- An attempt in SEEKING or WAITING is aborted (R111). -/
def abortAttempt (s : State) : State :=
  match s.chg.attempt with
  | some a => endAttempt (releaseTarget s a) { a with owed := false } .aborted
  | none => s

/-- ABORT (R111). -/
def abortAct (s : State) : Answer :=
  match s.chg.state with
  | .seeking | .waiting => accept (abortAttempt s)
  | .breaking | .dead | .making | .committing => refuse .committed s
  | .idle | .locked => refuse .none s

/-- DELIVERY_BEGIN (R143). -/
def deliveryBeginAct (target : Nat) (s : State) : Answer :=
  if target = 0 ∨ 30 < target ∨ s.image.station = some target then refuse .range s
  else if s.tanker.state ≠ .idle then refuse .state s
  else accept (beginDelivery s target)

/-- DELIVERY_END (R144). -/
def deliveryEndAct (s : State) : Answer :=
  if s.tanker.state = .dispensing then accept (closeDelivery s) else refuse .state s

/-- LOAD (R142). -/
def loadAct (figure : Nat) (s : State) : Answer :=
  accept { s with tanker := { s.tanker with loadFigure := figure, loadAnchor := s.dispenseCl } }

/-! A request whose argument is not used is taken whatever its four bytes are: section 11.7 has them sent as 0 and gives no
answer for another value (DESIGN CHOICE, log 56). -/

def modeRequest (arg : List Byte) (s : State) : Answer := request .set arg modeAct s
/-- STOP_FORCE, its argument not looked at (log 56). -/
def stopForceRequest (arg : List Byte) (s : State) : Answer := request .set arg (fun _ => stopForceAct) s
def changeoverRequest (arg : List Byte) (s : State) : Answer := request .board arg changeoverAct s
/-- ABORT, its argument not looked at (log 56). -/
def abortRequest (arg : List Byte) (s : State) : Answer := request .board arg (fun _ => abortAct) s
def deliveryBeginRequest (arg : List Byte) (s : State) : Answer := request .tanker arg deliveryBeginAct s
/-- DELIVERY_END, its argument not looked at (log 56). -/
def deliveryEndRequest (arg : List Byte) (s : State) : Answer := request .tanker arg (fun _ => deliveryEndAct) s
def loadRequest (arg : List Byte) (s : State) : Answer := request .tanker arg loadAct s

/-- A REQUEST by its request code; a code outside 1..7 is answered RANGE (section 11.7). -/
def requestAct (params : List Byte) (s : State) : Answer :=
  match params with
  | [code, a, b, c, d] =>
    match code.toNat with
    | 1 => modeRequest [a, b, c, d] s
    | 2 => stopForceRequest [a, b, c, d] s
    | 3 => changeoverRequest [a, b, c, d] s
    | 4 => abortRequest [a, b, c, d] s
    | 5 => deliveryBeginRequest [a, b, c, d] s
    | 6 => deliveryEndRequest [a, b, c, d] s
    | 7 => loadRequest [a, b, c, d] s
    | _ => inRun (refuse .range) s
  | _ => refuse .range s

/-! ## Faults acknowledged and cleared (R65, R66, R95) -/

/-- Entries acknowledged, and those that are GONE leave (R65). -/
def acknowledge (s : State) (which : FaultEntry → Bool) : State :=
  dropSettled { s with
    duty := { s.duty with faults := s.duty.faults.map (fun e => if which e then { e with acked := true } else e) } }

/-- "ALL" in ACK_FAULT (section 11.7). -/
abbrev ackAll : Nat := 255

/-- ACK_FAULT of a SET in RUN (R65). -/
def ackOf (n : Nat) (s : State) : Answer :=
  if n = ackAll then
    if s.duty.faults = [] then refuse .none s else accept (dutyEvent s (fun t => acknowledge t (fun _ => true)))
  else
    match faultOf n with
    | some c =>
      if s.listed c then accept (dutyEvent s (fun t => acknowledge t (fun e => e.cls == c))) else refuse .none s
    | none => refuse .range s

def ackFaultAct (params : List Byte) (s : State) : Answer :=
  match params with
  | [n] => inRun (forRole .set (ackOf n.toNat)) s
  | _ => refuse .range s

/-- CLEAR_FAULT of a SET (R66). -/
def clearDuty (s : State) : Answer :=
  if s.duty.state = .fault then
    if s.tripPresent then refuse .state s else accept (dutyEvent s enterOff)
  else refuse .none s

/-- The board leaves LOCKED (R95). -/
def unlock (s : State) : State :=
  idleTests (enterChg
    (addEvent { s with chg := { s.chg with fault := none, retry := none, dwell := none } } .switchFaultCleared) .idle)

/-- CLEAR_FAULT of a BOARD (R95). -/
def clearSwitch (s : State) : Answer :=
  if s.chg.state = .locked then
    if 2 ≤ s.closedList.length then refuse .state s else accept (unlock s)
  else refuse .none s

/-- CLEAR_FAULT by role (R66, R95). -/
def clearFault (s : State) : Answer :=
  match s.image.role with
  | some .set => clearDuty s
  | some .board => clearSwitch s
  | some .tanker => refuse .role s
  | none => refuse .role s

def clearFaultAct (params : List Byte) (s : State) : Answer := ofLength 0 params (inRun clearFault) s

/-! ## Command frames (R186, R187) -/

/-- The rules of a command by its code (section 11.7). -/
def commandAct (code : Nat) (params : List Byte) (s : State) : Answer :=
  match code with
  | 1 => writeConfigAct params s
  | 2 => startAct params s
  | 3 => readStatusAct params s
  | 4 => readPeerAct params s
  | 5 => readTotalsAct params s
  | 6 => readRecordAct params s
  | 7 => removeRecordAct params s
  | 8 => requestAct params s
  | 9 => ackFaultAct params s
  | 10 => clearFaultAct params s
  | 11 => warmRestartAct params s
  | _ => refuse .unknown s

/-- A command frame with its parameters: NOP takes nothing (R187). -/
def hostCommand (code : Nat) (params : List Byte) (s : State) : State :=
  if code = 0 then s else takeCommand code (commandAct code params) s

/-- The bytes of a command frame as SEL rises: a short frame is discarded (R187). -/
def frameIn (bytes : List Byte) (s : State) : State :=
  match bytes with
  | code :: len :: rest => if rest.length < len.toNat then s else hostCommand code.toNat (rest.take len.toNat) s
  | _ => s

/-- The reply completes (R186). -/
def replyDone (s : State) : State :=
  { s with port := { s.port with reply := { s.port.reply with ready := true } } }

/-! ## The meanings of the rows -/

/-- NOP (R187). -/
def execNop (bytes : List Byte) (s : State) : Host.Outcome State Fault Refusal := .next (frameIn bytes s)

/-- COMMAND_FRAME_DISCARDED (R187). -/
def execCommandFrameDiscarded (bytes : List Byte) (s : State) : Host.Outcome State Fault Refusal :=
  .next (frameIn bytes s)

/-- UNKNOWN_COMMAND (R187). -/
def execUnknownCommand (code : Byte) (params : List Byte) (s : State) : Host.Outcome State Fault Refusal :=
  .next (hostCommand code.toNat params s)

/-- REPLY_READY (R186). -/
def execReplyReady (s : State) : Host.Outcome State Fault Refusal := .next (whenAwake s replyDone)

/-- WRITE_CONFIG (R190). -/
def execWriteConfig (params : List Byte) (s : State) : Host.Outcome State Fault Refusal :=
  .next (takeCommand 1 (writeConfigAct params) s)

/-- START (R191). -/
def execStart (params : List Byte) (s : State) : Host.Outcome State Fault Refusal :=
  .next (takeCommand 2 (startAct params) s)

/-- READ_STATUS (R194). -/
def execReadStatus (params : List Byte) (s : State) : Host.Outcome State Fault Refusal :=
  .next (takeCommand 3 (readStatusAct params) s)

/-- READ_PEER (R31). -/
def execReadPeer (params : List Byte) (s : State) : Host.Outcome State Fault Refusal :=
  .next (takeCommand 4 (readPeerAct params) s)

/-- READ_TOTALS (R194). -/
def execReadTotals (params : List Byte) (s : State) : Host.Outcome State Fault Refusal :=
  .next (takeCommand 5 (readTotalsAct params) s)

/-- READ_RECORD (R178). -/
def execReadRecord (params : List Byte) (s : State) : Host.Outcome State Fault Refusal :=
  .next (takeCommand 6 (readRecordAct params) s)

/-- REMOVE_RECORD (R179). -/
def execRemoveRecord (params : List Byte) (s : State) : Host.Outcome State Fault Refusal :=
  .next (takeCommand 7 (removeRecordAct params) s)

/-- MODE (R57). -/
def execMode (arg : List Byte) (s : State) : Host.Outcome State Fault Refusal :=
  .next (takeCommand 8 (modeRequest arg) s)

/-- STOP_FORCE (R58). -/
def execStopForce (arg : List Byte) (s : State) : Host.Outcome State Fault Refusal :=
  .next (takeCommand 8 (stopForceRequest arg) s)

/-- CHANGEOVER (R96). -/
def execChangeover (arg : List Byte) (s : State) : Host.Outcome State Fault Refusal :=
  .next (takeCommand 8 (changeoverRequest arg) s)

/-- ABORT (R111). -/
def execAbort (arg : List Byte) (s : State) : Host.Outcome State Fault Refusal :=
  .next (takeCommand 8 (abortRequest arg) s)

/-- DELIVERY_BEGIN (R143). -/
def execDeliveryBegin (arg : List Byte) (s : State) : Host.Outcome State Fault Refusal :=
  .next (takeCommand 8 (deliveryBeginRequest arg) s)

/-- DELIVERY_END (R144). -/
def execDeliveryEnd (arg : List Byte) (s : State) : Host.Outcome State Fault Refusal :=
  .next (takeCommand 8 (deliveryEndRequest arg) s)

/-- LOAD (R142). -/
def execLoad (arg : List Byte) (s : State) : Host.Outcome State Fault Refusal :=
  .next (takeCommand 8 (loadRequest arg) s)

/-- ACK_FAULT (R65). -/
def execAckFault (params : List Byte) (s : State) : Host.Outcome State Fault Refusal :=
  .next (takeCommand 9 (ackFaultAct params) s)

/-- CLEAR_FAULT (R66, R95). -/
def execClearFault (params : List Byte) (s : State) : Host.Outcome State Fault Refusal :=
  .next (takeCommand 10 (clearFaultAct params) s)

/-- WARM_RESTART (R192). -/
def execWarmRestart (params : List Byte) (s : State) : Host.Outcome State Fault Refusal :=
  .next (takeCommand 11 (warmRestartAct params) s)

/-- REQUEST_CODE_OUT_OF_RANGE (R187, section 11.7). -/
def execRequestCodeOutOfRange (params : List Byte) (s : State) : Host.Outcome State Fault Refusal :=
  .next (takeCommand 8 (requestAct params) s)

end Sys2Proof.Machine
end

