-- ==== Sys2Proof/Machine/Outputs.lean ====
section
/-! DEFINITION. What the outside sees of the state: the field outputs, the bits driven on the line, and the bytes clocked
out on MISO. ATTN stands in Flags.lean. None of these is stored. -/

namespace Sys2Proof.Machine

/-- The coil that is driven as FO1..FO4 in a SET (R49, R198). -/
def coilDriven (p : Pulses) (n : Nat) : Bool :=
  match n with
  | 1 => p.engine == some .runOn
  | 2 => p.engine == some .runOff
  | 3 => p.breaker == some .brkClose
  | 4 => p.breaker == some .brkOpen
  | _ => false

/-- The switch command that is driven as FO1..FO4 in a BOARD (R93, R198). -/
def commandDriven (c : Option SwitchCmd) (n : Nat) : Bool :=
  match n, c with
  | 1, some .openAll => true
  | n + 2, some (.closeTo p) => decide (p = n + 1 ∧ n < 3)
  | _, _ => false

/-- Whether FO`n` is driven: only in RUN, for the pulses and commands of the role's blocks (R188, R198, R199). -/
def State.fieldOut (s : State) (n : Nat) : Bool :=
  match s.awake, s.station, s.image.role with
  | true, .run, some .set => coilDriven s.pulses n
  | true, .run, some .board => commandDriven s.chg.cmd n
  | _, _, _ => false

/-- An abort burst: ten dominant bits (R7, R18). -/
def burstBits : List Bool := List.replicate 10 false

/-- The frame on the line: the older STATUS where one is being sent, else the queue's frame on the line (R12). -/
def LineCtl.current (l : LineCtl) : Option TxFrame :=
  match l.older with
  | some f => some f
  | none => onLineFrame l.queue

/-- The bits the station drives from the start of its present sending, as the phase has it; dominant is `false`
(R2, R3, R7, R199). -/
def State.lineBits (s : State) : List Bool :=
  if s.awake then
    match s.line.phase with
    | .sending => ((s.line.current).map (TxFrame.bits (s.image.station.getD 0))).getD []
    | .burst => burstBits
    | .waiting | .free | .receiving => []
  else []

/-- The reply buffer's bytes once the reply is complete (R186). -/
def readyBytes (r : ReplyBuffer) : List Byte :=
  be1 1 ++ be1 r.command ++ be1 r.counter ++ be1 (replyCodeOf r.code) ++ be2 r.payload.length ++ r.payload

/-- The byte clocked out on MISO at a place of a transaction (R186, R199): 0 while RESET is held, 0 past the end of the
buffer; while NOT_READY the bytes after the first are undefined (log 12). -/
def State.misoByte (s : State) (place : Nat) : Byte :=
  if s.awake then
    if s.port.reply.ready then (readyBytes s.port.reply).getD place 0#8
    else if place = 0 then 0#8
    else Config.undefinedReplyByte s.port.taken place
  else 0#8

end Sys2Proof.Machine
end

