-- ==== Sys2Proof/Machine/Second.lean ====
section
/-! DEFINITION. The local second (R184): the expiries still to be taken, then every count of the station and each block's
one-second work. -/

namespace Sys2Proof.Machine

/-! ## Expiries that an earlier second left due (log 2) -/

/-- The stations of the peer table. -/
def State.peerStations (s : State) : List Nat := s.peers.map Peer.station

/-- Due in the peer table, then in the own STATUS (R23, R25). -/
def takeDuePeers (s : State) : State :=
  let s1 := s.peerStations.foldl peerStaleStep s
  statusStep (s1.peerStations.foldl peerLostStep s1)

/-- Due in the metering unit (R41, R42). -/
def takeDueChannels (s : State) : State := allChannels.foldl channelLostStep (allChannels.foldl channelStalledStep s)

/-- Due in the duty controller and the headroom arbiter (R51 to R56, R62, R85). -/
def takeDueDuty (s : State) : State :=
  let s1 := burnSilenceStep (overloadStep (disagreementStep (unloadLimitStep (cooldownStep (idleStopStep
    (warmupStep (startTimeoutStep s)))))))
  (s1.reservations.map Reservation.board).foldl holdStep s1

/-- Due in the changeover controller (R93, R97, R99, R102, R104, R106). -/
def takeDueStage (s : State) : State :=
  dwellStep (retryStep (deadTimeStep (waitingTimeoutStep (takeResendStep (switchTimeoutStep s)))))

/-- Due in the tank monitor and the delivery units (chapters 7 and 8). -/
def takeDueFuel (s : State) : State :=
  let s1 := minuteStep (matchingStep (loopQualifiedStep s))
  let s2 := settleTimerStep (quietCountStep (inletWatchStep s1))
  unbookedRunStep (resultMissingStep (docketRepeatStep (openingStep s2)))

/-- The waits and ages that have run out, at most one for each place of the table (R163, R164). -/
def takeDueEntries (test : Entry → Bool) (act : State → Nat → State) : Nat → State → State
  | 0, s => s
  | m + 1, s =>
    match s.boardBill.table.findIdx? test with
    | some n => takeDueEntries test act m (act s n)
    | none => s

/-- Due in the settlement units (R149, R152, R163, R164). -/
def takeDueBill (s : State) : State :=
  takeDueEntries ageOver lapseStep tableCap (takeDueEntries waitOver claimWaitStep tableCap (windowEndStep
    (periodEndStep s)))

/-- The reply that a second at the latest completes (R186). -/
def takeDueReply (s : State) : State := if s.awake then replyDone s else s

/-- Every expiry still due is taken, block by block (DESIGN CHOICE, log 2). -/
def takeDue (s : State) : State :=
  takeDueBill (takeDueFuel (takeDueStage (takeDueDuty (takeDueChannels (takeDuePeers (takeDueReply s))))))

/-! ## The second's own work -/

/-- Station-seconds advance (R184) and the backup monitor measures (R181). -/
def clockSecond (backupGood : Bool) (s : State) : State :=
  { s with stationSeconds := incTo top32 s.stationSeconds, backupGood := backupGood }

/-- The live senses FI4..FI6 as they stand (R92, R198). -/
def senseSecond (i : SecondInputs) (s : State) : State :=
  { s with inputs := s.inputs.take 3 ++ [i.live1, i.live2, i.live3] }

/-- The one-second work of a SET's blocks (chapters 4, 5, 7, 8, 9). The duty timer counts before the tank monitor reports, so
that UNLOADING or COOLING entered by TANK_EMPTY in a second keeps its timer at 0 in it (R55, R56; log 15). -/
def setSecond (s : State) : State := deliverySecond (setBillSecond (tankSecond (holdSecond (dutySecond s))))

/-- The one-second work of a BOARD's blocks (chapters 6, 9). -/
def boardSecond (s : State) : State := boardBillSecond (chgSecond s)

/-- The one-second work of the role's blocks, in RUN. -/
def roleSecond (s : State) : State :=
  match s.station, s.image.role with
  | .unconfigured, _ => s
  | .run, some .set => setSecond s
  | .run, some .board => boardSecond s
  | .run, some .tanker => tankerSecond s
  | .run, none => s

/-- The work of a second once nothing is left due: clock, senses, loop, peer table, STATUS interval, metering, role
(DESIGN CHOICE of the order, log 15). -/
def secondWork (i : SecondInputs) (s : State) : State :=
  roleSecond (meterTick (statusSecond (peersSecond (measureLoop i.loop (senseSecond i (clockSecond i.backupGood s))))))

/-- A local second (R184). Without main supply there is none (R180); with RESET held only the clock runs (log 6). -/
def localSecond (i : SecondInputs) (s : State) : State :=
  if s.mainOn then
    if s.resetHeld then clockSecond i.backupGood s else secondWork i (takeDue s)
  else s

/-! ## The meaning of the row -/

/-- LOCAL_SECOND (R184). -/
def execLocalSecond (inputs : SecondInputs) (s : State) : Host.Outcome State Fault Refusal :=
  .next (localSecond inputs s)

end Sys2Proof.Machine
end

