-- ==== Sys2Proof/Machine/Dispatch.lean ====
section
/-! DEFINITION. One arm for each command: a direct call of its meaning. -/

namespace Sys2Proof.Machine

def exec (i : Instr) (s : State) : Host.Outcome State Fault Refusal :=
  match i with
  | .powerUp latchKept => Sys2Proof.Machine.execPowerUp latchKept s
  | .resetPin => Sys2Proof.Machine.execResetPin s
  | .mainSupplyLoss => Sys2Proof.Machine.execMainSupplyLoss s
  | .backupBelowThreshold => Sys2Proof.Machine.execBackupBelowThreshold s
  | .localSecond inputs => Sys2Proof.Machine.execLocalSecond inputs s
  | .busFree => Sys2Proof.Machine.execBusFree s
  | .arbitrationLoss => Sys2Proof.Machine.execArbitrationLoss s
  | .bitError => Sys2Proof.Machine.execBitError s
  | .frameSent => Sys2Proof.Machine.execFrameSent s
  | .frameSpoilt bits => Sys2Proof.Machine.execFrameSpoilt bits s
  | .goodFrame kind frame => Sys2Proof.Machine.execGoodFrame kind frame s
  | .dry frame => Sys2Proof.Machine.execDry frame s
  | .take frame => Sys2Proof.Machine.execTake frame s
  | .takeReply frame => Sys2Proof.Machine.execTakeReply frame s
  | .commit frame => Sys2Proof.Machine.execCommit frame s
  | .left frame => Sys2Proof.Machine.execLeft frame s
  | .release frame => Sys2Proof.Machine.execRelease frame s
  | .close frame => Sys2Proof.Machine.execClose frame s
  | .claim frame => Sys2Proof.Machine.execClaim frame s
  | .allot frame => Sys2Proof.Machine.execAllot frame s
  | .deliverOpen frame => Sys2Proof.Machine.execDeliverOpen frame s
  | .deliverAck frame => Sys2Proof.Machine.execDeliverAck frame s
  | .docket frame => Sys2Proof.Machine.execDocket frame s
  | .deliverResult frame => Sys2Proof.Machine.execDeliverResult frame s
  | .status frame => Sys2Proof.Machine.execStatus frame s
  | .peerStale station => Sys2Proof.Machine.execPeerStale station s
  | .peerLost station => Sys2Proof.Machine.execPeerLost station s
  | .statusIntervalExpiry => Sys2Proof.Machine.execStatusIntervalExpiry s
  | .meterReading chars => Sys2Proof.Machine.execMeterReading chars s
  | .meterReadingTimeout => Sys2Proof.Machine.execMeterReadingTimeout s
  | .channelStalled channel => Sys2Proof.Machine.execChannelStalled channel s
  | .channelLost channel => Sys2Proof.Machine.execChannelLost channel s
  | .engineReadyChange level => Sys2Proof.Machine.execEngineReadyChange level s
  | .breakerFeedbackChange level => Sys2Proof.Machine.execBreakerFeedbackChange level s
  | .engineFaultInputChange level => Sys2Proof.Machine.execEngineFaultInputChange level s
  | .relayPulseEnd coil => Sys2Proof.Machine.execRelayPulseEnd coil s
  | .startTimeoutExpiry => Sys2Proof.Machine.execStartTimeoutExpiry s
  | .warmupExpiry => Sys2Proof.Machine.execWarmupExpiry s
  | .idleStopExpiry => Sys2Proof.Machine.execIdleStopExpiry s
  | .cooldownExpiry => Sys2Proof.Machine.execCooldownExpiry s
  | .unloadLimitExpiry => Sys2Proof.Machine.execUnloadLimitExpiry s
  | .disagreementCountExpiry => Sys2Proof.Machine.execDisagreementCountExpiry s
  | .overloadCountExpiry => Sys2Proof.Machine.execOverloadCountExpiry s
  | .burnSilenceExpiry => Sys2Proof.Machine.execBurnSilenceExpiry s
  | .resHoldExpiry board => Sys2Proof.Machine.execResHoldExpiry board s
  | .closedFeedbackChange pos level => Sys2Proof.Machine.execClosedFeedbackChange pos level s
  | .liveStateChange pos level => Sys2Proof.Machine.execLiveStateChange pos level s
  | .switchCommandTimeout => Sys2Proof.Machine.execSwitchCommandTimeout s
  | .takeResend => Sys2Proof.Machine.execTakeResend s
  | .waitingTimeout => Sys2Proof.Machine.execWaitingTimeout s
  | .deadTimeExpiry => Sys2Proof.Machine.execDeadTimeExpiry s
  | .retryTimerExpiry => Sys2Proof.Machine.execRetryTimerExpiry s
  | .dwellTimerExpiry => Sys2Proof.Machine.execDwellTimerExpiry s
  | .burnPulse => Sys2Proof.Machine.execBurnPulse s
  | .inletPulse => Sys2Proof.Machine.execInletPulse s
  | .dispensePulse => Sys2Proof.Machine.execDispensePulse s
  | .loopQualified => Sys2Proof.Machine.execLoopQualified s
  | .matchingExpiry => Sys2Proof.Machine.execMatchingExpiry s
  | .minuteEnd => Sys2Proof.Machine.execMinuteEnd s
  | .inletWatchExpiry => Sys2Proof.Machine.execInletWatchExpiry s
  | .quietCountExpiry => Sys2Proof.Machine.execQuietCountExpiry s
  | .settleTimerExpiry => Sys2Proof.Machine.execSettleTimerExpiry s
  | .openingTimeout => Sys2Proof.Machine.execOpeningTimeout s
  | .docketRepeat => Sys2Proof.Machine.execDocketRepeat s
  | .resultMissing => Sys2Proof.Machine.execResultMissing s
  | .unbookedRunEnd => Sys2Proof.Machine.execUnbookedRunEnd s
  | .periodEnd => Sys2Proof.Machine.execPeriodEnd s
  | .claimWindowEnd => Sys2Proof.Machine.execClaimWindowEnd s
  | .claimWaitExpiry place => Sys2Proof.Machine.execClaimWaitExpiry place s
  | .waitingCloseLapse place => Sys2Proof.Machine.execWaitingCloseLapse place s
  | .nop bytes => Sys2Proof.Machine.execNop bytes s
  | .commandFrameDiscarded bytes => Sys2Proof.Machine.execCommandFrameDiscarded bytes s
  | .unknownCommand code params => Sys2Proof.Machine.execUnknownCommand code params s
  | .replyReady => Sys2Proof.Machine.execReplyReady s
  | .writeConfig params => Sys2Proof.Machine.execWriteConfig params s
  | .start params => Sys2Proof.Machine.execStart params s
  | .readStatus params => Sys2Proof.Machine.execReadStatus params s
  | .readPeer params => Sys2Proof.Machine.execReadPeer params s
  | .readTotals params => Sys2Proof.Machine.execReadTotals params s
  | .readRecord params => Sys2Proof.Machine.execReadRecord params s
  | .removeRecord params => Sys2Proof.Machine.execRemoveRecord params s
  | .mode arg => Sys2Proof.Machine.execMode arg s
  | .stopForce arg => Sys2Proof.Machine.execStopForce arg s
  | .changeover arg => Sys2Proof.Machine.execChangeover arg s
  | .abort arg => Sys2Proof.Machine.execAbort arg s
  | .deliveryBegin arg => Sys2Proof.Machine.execDeliveryBegin arg s
  | .deliveryEnd arg => Sys2Proof.Machine.execDeliveryEnd arg s
  | .load arg => Sys2Proof.Machine.execLoad arg s
  | .ackFault params => Sys2Proof.Machine.execAckFault params s
  | .clearFault params => Sys2Proof.Machine.execClearFault params s
  | .warmRestart params => Sys2Proof.Machine.execWarmRestart params s
  | .resetHeldLow => Sys2Proof.Machine.execResetHeldLow s
  | .requestCodeOutOfRange params => Sys2Proof.Machine.execRequestCodeOutOfRange params s

end Sys2Proof.Machine
end

