-- ==== Sys2Proof/Safety.lean ====
section
/-! DEFINITION. What a safe station is, in the terms the statements use: lists within their capacities, fields within
their widths, and the interlock of the changeover switch. -/

namespace Sys2Proof.Machine

/-- The transmit queue holds at most eight frames in order of class, at most one of them a STATUS (R11, R12), and the
record queue at most 160 records (R170). -/
structure State.QueuesFit (s : State) : Prop where
  frames : s.line.queue.length ≤ txCap
  ordered : s.line.queue.Pairwise (fun f g => f.cls ≤ g.cls)
  oneStatus : (s.line.queue.filter TxFrame.isStatus).length ≤ 1
  records : s.records.queue.length ≤ queueCap

/-- The interlock of the changeover switch (R93): a command is held only by a BOARD in RUN with an attempt under way, OPEN
only in BREAKING, CLOSE only in MAKING, and while CLOSE is held no closed feedback is present. -/
structure State.Interlocked (s : State) : Prop where
  sixInputs : s.inputs.length = 6
  inBoard : s.chg.cmd ≠ none → s.runs .board = true
  attempting : s.chg.cmd ≠ none → s.chg.attempt ≠ none
  opening : s.chg.cmd = some .openAll → s.chg.state = .breaking
  closing : ∀ pos, s.chg.cmd = some (.closeTo pos) → s.chg.state = .making ∧ s.closedList = []

/-- The lists of a SET hold no more than their capacity, each board at most once; no board is promised and fed at once;
the promises stay within the usable capacity; outside RUN there is none (R68, R76, R89, R148). -/
structure State.PromisesKept (s : State) : Prop where
  feed : s.duty.feed.length ≤ feedCap
  reservations : s.reservations.length ≤ reservationCap
  claims : s.setBill.claims.length ≤ claimCap
  feedOnce : (s.duty.feed.map FeedEntry.board).Nodup
  reservedOnce : (s.reservations.map Reservation.board).Nodup
  claimedOnce : (s.setBill.claims.map Claim.board).Nodup
  apart : ∀ r ∈ s.reservations, ∀ e ∈ s.duty.feed, r.board ≠ e.board
  promised : s.reservedSum ≤ s.image.usable
  noneBeforeRun : s.station = .unconfigured → s.reservations = []

/-- The settlement table of a BOARD holds at most eight entries, at most one of them CURRENT, and at most one for each set
and period, an unbound period apart; in RUN the CURRENT entry stands on a closed position, and one exists while a closed
feedback is present; every entry names a position 1..3 (R156). -/
structure State.TableFollows (s : State) : Prop where
  sixInputs : s.inputs.length = 6
  size : s.boardBill.table.length ≤ tableCap
  current : (s.boardBill.table.filter (fun e => e.state == .current)).length ≤ 1
  once : ((s.boardBill.table.filter (fun e => e.period != 0)).map (fun e => (e.set, e.period))).Nodup
  positions : ∀ e ∈ s.boardBill.table, 1 ≤ e.pos ∧ e.pos ≤ 3
  onClosed : s.runs .board = true → ∀ e ∈ s.boardBill.table, e.state = .current → e.pos ∈ s.closedList
  whileClosed : s.runs .board = true → s.closedList ≠ [] → hasCurrent s.boardBill.table = true

/-! ## Conditions under which the statements speak of a command's own effect -/

/-- No condition of the duty controller has gone without having been cleared (R61). -/
structure State.Settled (s : State) : Prop where
  engine : s.present .engineFault = true → s.input 3 = true ∨ s.duty.runOn = true
  breaker : s.present .breaker = true → s.input 2 ≠ s.duty.brkClosed
  burn : s.present .burnSilent = true → s.duty.state = .ready

/-- The lists that stand for numbered things have their lengths: six field inputs, thirteen channels, three positions; the
conditions of a SET in RUN are settled, and no other station has any (R32, R61, R92). -/
structure State.KeptInOrder (s : State) : Prop where
  sixInputs : s.inputs.length = 6
  channels : s.meter.channels.length = 13
  positions : s.chg.live.length = 3
  settled : s.runs .set = true → s.Settled
  noneElsewhere : s.runs .set = false → s.duty.conditions = []

/-- A frame of another station that a station in RUN takes: followed from its start, good, and addressed to it
(R5, R9, R10). -/
structure State.Takes (s : State) (f : RxFrame) : Prop where
  awake : s.awake = true
  follows : s.follows = true
  run : s.station = .run
  sound : frameSound f = true
  other : s.image.station ≠ some f.sender
  ours : s.addressed f.dest = true

/-- The station once a good frame has been received and shown to the peer table (R5, R21). -/
def State.heard (s : State) (f : RxFrame) : State := showPeer (endReception s) f.sender none

/-- The port takes a command: it is awake and its buffer reads READY (R187). -/
def State.listens (s : State) : Prop := s.awake = true ∧ s.port.reply.ready = true

/-- The reply to a command taken stands in the buffer (R186, R187). -/
def State.replied (s : State) (command : Nat) (code : ReplyCode) (payload : List Byte) : State :=
  { s with port := placeReply s.port command code payload }

/-- The retained items of `t` are those of `s`, the power-up count apart (R180). -/
structure State.RetainedAs (s t : State) : Prop where
  records : t.records = s.records
  stationSeconds : t.stationSeconds = s.stationSeconds
  energy : t.meter.channels.map (fun c => (c.ws, c.wh)) = s.meter.channels.map (fun c => (c.ws, c.wh))
  pulses : t.tank.burnPulses = s.tank.burnPulses ∧ t.tank.inletPulses = s.tank.inletPulses ∧
    t.tanker.pulses = s.tanker.pulses
  duty : t.duty.starts = s.duty.starts ∧ t.duty.runSeconds = s.duty.runSeconds
  periods : t.setBill.opened = s.setBill.opened ∧ t.setBill.closed = s.setBill.closed
  table : t.boardBill = s.boardBill
  ticket : t.chg.ticket = s.chg.ticket
  tanker : t.tanker.nextDocket = s.tanker.nextDocket ∧ t.tanker.loadFigure = s.tanker.loadFigure ∧
    t.tanker.loadAnchor = s.tanker.loadAnchor

/-! ## What START asks of the image (R191) -/

/-- The points 1..STRAP_COUNT have all been written, with levels strictly ascending and volumes never falling (R191). -/
def Image.Strapped (i : Image) : Prop :=
  (∀ k, k < i.strapPoints → ∃ p, i.strap[k]? = some (some p)) ∧
  ∀ k p q, k + 1 < i.strapPoints → i.strap[k]? = some (some p) → i.strap[k + 1]? = some (some q) →
    p.level < q.level ∧ p.volume ≤ q.volume

/-- No position names a set, two positions name the same one, or one names the station's own number (R191). -/
def Image.Misplaced (i : Image) (own : Nat) : Prop :=
  (i.setAt 1 = 0 ∧ i.setAt 2 = 0 ∧ i.setAt 3 = 0) ∨
  (∃ m n, 1 ≤ m ∧ m < n ∧ n ≤ 3 ∧ i.setAt m ≠ 0 ∧ i.setAt m = i.setAt n) ∨
  ∃ n, 1 ≤ n ∧ n ≤ 3 ∧ i.setAt n = own

/-! ## What a SET's refusals leave, said one by one -/

/-- The entries given are taken from the reservation list one after the other, each board answered REFUSE with a reason, the
headroom after its own removal and a hold of 0 (R67, R83, R84). -/
def State.refusing (reason : Nat) : List Reservation → State → State
  | [], w => w
  | r :: rest, w =>
    let u := { w with reservations := w.reservations.filter (fun q => q.board != r.board) }
    State.refusing reason rest (post u r.board (.takeReply r.ticket 2 reason u.headroomSent 0))

/-! ## What an attempt of a BOARD leaves, said field by field -/

/-- The candidate at a place of the list is asked: a new ticket, sends 1, step timer 0, and the TAKE (R102). -/
def State.asking (w : State) (a : Attempt) (n : Nat) : State :=
  let pos := a.candidates.getD n 0
  let ticket := nextNumber 255 w.chg.ticket
  post
    { w with
        chg := { w.chg with
          ticket := ticket
          attempt := some
            { a with cursor := n, ticket := ticket, sends := 1, timer := 0, owed := false, asked := pos } } }
    (w.image.setAt pos) (.take ticket a.estimate (reasonCode a.reason))

/-- The candidate now tried draws a RELEASE with the attempt's ticket (R102, R104, R106). -/
def State.released (w : State) (a : Attempt) : State :=
  { post w (w.image.setAt a.target) (.release a.ticket) with
      chg := { w.chg with attempt := some { a with owed := false } } }

/-- An attempt of the board ended with an outcome: its CHANGEOVER record (R112). -/
def State.recordOf (w : State) (a : Attempt) (o : ChgOutcome) : State :=
  addRecord w (.changeover
    { ticket := a.ticket, reason := a.reason, fromPos := a.fromPos, fromSet := w.image.setAt a.fromPos, toPos := a.asked,
      toSet := w.image.setAt a.asked, outcome := o, unfed := a.unfed })

/-- An attempt ended in IDLE with its record, the retry and dwell timers as given, the quiet reason none where a TAKE was
posted, and a STATUS (R101, R112). -/
def State.ended (w : State) (a : Attempt) (o : ChgOutcome) (retry : Option (Nat × Reason)) (dwell : Option Nat) : State :=
  postStatus
    { w.recordOf a o with
        chg := { w.chg with
          state := .idle, attempt := none, retry := retry, dwell := dwell
          quiet := if a.asked = 0 then w.chg.quiet else none } }

/-- A switch fault taken: the command released, FAULT_RAISED with the feedbacks present, where an attempt is under way the
RELEASE that is owed and its record, LOCKED and a STATUS (R94). -/
def State.lockedBy (w : State) (cause : SwitchFault) : State :=
  let chg := { w.chg with cmd := none, held := 0, fault := some cause }
  let raised := addEvent { w with chg := chg } (.switchFaultRaised cause [w.input 1, w.input 2, w.input 3])
  match w.chg.attempt with
  | none => postStatus { raised with chg := { chg with state := .locked } }
  | some a =>
    let freed := if a.owed then post raised (w.image.setAt a.target) (.release a.ticket) else raised
    postStatus
      { freed.recordOf a .switchFault with
          chg := { chg with
            state := .locked, attempt := none, quiet := if a.asked = 0 then w.chg.quiet else none } }

/-- Nothing begins an attempt in IDLE while the retry and dwell timers stand as given: where the condition of a row of R98
holds, the retry timer runs with that row's reason (R98, R99); a dry note waits for the dwell timer, or, its set feeding
and showing DRY still, for a DRY retry (R97, R99). -/
structure State.Calm (s : State) (retry : Option (Nat × Reason)) (dwell : Option Nat) : Prop where
  dead : s.closedPos ≠ 0 → s.liveAt s.closedPos = .notLive → retry.map Prod.snd = some .dead
  restore : s.closedList = [] → s.image.restores = true → retry.map Prod.snd = some .restore
  unload : ∀ b, s.closedPos ≠ 0 → s.setStatusOf s.feedingSet = some b → b.duty = dutyCode .unloading →
    retry.map Prod.snd = some .unload
  note : ∀ n, s.chg.dryNote = some n → dwell ≠ none ∨
    (n = s.feedingSet ∧ s.feedingStatus.any SetStatus.dryFlag = true ∧ retry.map Prod.snd = some .dry)

/-- The set of a position is heard FRESH, with its last STATUS (R20, R30). -/
def State.Hears (s : State) (pos : Nat) (b : SetStatus) : Prop :=
  ∃ q, s.peer (s.image.setAt pos) = some q ∧ q.fresh = .fresh ∧ q.body = some (.set b)

/-- A position that the list of R101 keeps: not the closed one, its POS_SET not 0, its set's FRESH status without DRY and
FAULT and with the estimate in its headroom, and either READY with the position live or OFF in AUTO. -/
def State.Candidate (s : State) (estimate pos : Nat) : Prop :=
  pos ≠ s.closedPos ∧ s.image.setAt pos ≠ 0 ∧
  ∃ b, s.Hears pos b ∧ b.dryFlag = false ∧ b.faultFlag = false ∧ estimate ≤ b.headroom ∧
    ((b.duty = dutyCode .ready ∧ s.liveAt pos = .live) ∨ (b.duty = dutyCode .off ∧ b.mode = modeCode .auto))

/-! ## What the settlement table of a BOARD becomes, said entry by entry -/

/-- What a BOARD's settlement unit holds once it has been handed whole Wh of a channel, with the largest of the 1-s values
and the unmetered seconds that come with them (R37, R39, R44, R157): the CURRENT entry takes them, channel 0 as its incomer
Wh, another as that account's Wh and peak; without one the Wh of channel 0 are unattributed and nothing else is placed. The
Wh stop at the top (R156). -/
def BoardSettlement.handed (b : BoardSettlement) (n wh peak missed : Nat) : BoardSettlement :=
  { b with
      table := b.table.map (fun e =>
        if e.state = .current then
          { e with
              incomer := if n = 0 then min 4294967295 (e.incomer + wh) else e.incomer
              wh := if n = 0 then e.wh else e.wh.set (n - 1) (min 4294967295 (e.wh.getD (n - 1) 0 + wh))
              peaks := if n = 0 then e.peaks else e.peaks.set (n - 1) (max (e.peaks.getD (n - 1) 0) peak)
              unmetered := e.unmetered + missed }
        else e)
      unattributed :=
        if n = 0 ∧ ∀ e ∈ b.table, e.state ≠ .current then min 4294967295 (b.unattributed + wh) else b.unattributed }

/-- A SET STATUS of a period makes no entry of its set claim: each is CLAIMED or unbound, or the period shown is its own or
the one before (R164). -/
def State.ClosesNone (s : State) (set period : Nat) : Prop :=
  ∀ e ∈ s.boardBill.table, e.set = set → e.period ≠ 0 → e.state ≠ .claimed →
    period = e.period ∨ period = if e.period = 1 then 65535 else e.period - 1

/-- The entry that opens for a set at a position, every figure 0 (R158, step 3). -/
def State.blankEntry (s : State) (set pos period : Nat) : Entry where
  set := set
  pos := pos
  period := period
  state := .current
  incomer := 0
  wh := List.replicate 12 0
  peaks := List.replicate 12 0
  incomerLost := (s.channel 0).state == .lost
  unmetered := 0
  openedAt := s.stationSeconds
  age := 0
  claim := none
  attempt := none
  wait := 0
  waitLength := 0

/-- The settlement record of an entry that a full table gives up (R160, R167). -/
def State.evictedRecord (s : State) (x : Entry) : SettleBoardRec where
  set := x.set
  period := x.period
  outcome := .evicted
  claim := x.claim.getD (claimValue s.image x)
  allotted := none
  unmetered := x.unmetered
  unattributed := s.boardBill.unattributed
  lines := accountLines s.image x none

/-- `u` is `s` with an entry made CURRENT for the set of a position, whatever entry was CURRENT having ended as WAITING_CLOSE
(R158, R159). The period is that of the set's FRESH status, the one after it where it equals the last closed heard, and 0
without such a status. An entry of the set that waits for the CLOSE of that period is CURRENT again at the position;
without one a new entry stands at the end of the table, unbound where another entry holds the period (log 45), a full
table giving up its oldest WAITING_CLOSE entry, or else its oldest CLAIMED one, as a record where it has energy (R160). A
reopened entry is marked incomer-lost while channel 0 is LOST (log 17). -/
def State.Opened (s : State) (pos : Nat) (u : State) : Prop :=
  let set := s.image.setAt pos
  let ended := s.boardBill.table.map (fun e =>
    if e.state = .current then { e with state := .waitingClose, age := 0 } else e)
  ∃ period,
    (set = 0 ∨ s.freshSet set = none → period = 0) ∧
    (∀ b, set ≠ 0 → s.freshSet set = some b →
      period = if b.period ≠ 0 ∧ b.period = s.lastClosedOf set then nextNumber 65535 b.period else b.period) ∧
    let waits := fun (e : Entry) => e.state = .waitingClose ∧ e.set = set ∧ e.period = period ∧ period ≠ 0
    let opened := fun (t : List Entry) => t ++
      [s.blankEntry set pos (if t.any (fun e => e.set == set && e.period == period) then 0 else period)]
    ((∃ before e after, ended = before ++ e :: after ∧ waits e ∧ (∀ x ∈ before, ¬ waits x) ∧
        u = { s with
          boardBill := { s.boardBill with
            table := before ++ { e with
              state := .current, pos := pos, age := 0
              incomerLost := e.incomerLost || (s.channel 0).state == .lost } :: after } }) ∨
      ((∀ x ∈ ended, ¬ waits x) ∧ ended.length < tableCap ∧
        u = { s with boardBill := { s.boardBill with table := opened ended } }) ∨
      (∃ m x, (∀ y ∈ ended, ¬ waits y) ∧ tableCap ≤ ended.length ∧ ended[m]? = some x ∧
        ((x.state = .waitingClose ∧ ∀ y ∈ ended.take m, y.state ≠ .waitingClose) ∨
          (x.state = .claimed ∧ (∀ y ∈ ended, y.state ≠ .waitingClose) ∧ ∀ y ∈ ended.take m, y.state ≠ .claimed)) ∧
        u = { s with
          boardBill := { s.boardBill with
            table := opened (ended.eraseIdx m)
            unattributed := if hasEnergy s.image x = true then 0 else s.boardBill.unattributed }
          records :=
            if hasEnergy s.image x = true then
              appendTo s.records s.stationSeconds s.powerUps (.settleBoard (s.evictedRecord x))
            else s.records }))

/-! ## Fields within their widths -/

/-- The STATUS fields within the widths of section 1.8. -/
def StatusBody.inRange : StatusBody → Prop
  | .set b => b.duty < 256 ∧ b.mode < 256 ∧ b.rated < 65536 ∧ b.output < 65536 ∧ b.headroom < 65536 ∧
      b.period < 65536 ∧ b.content < 65536 ∧ b.tte < 65536 ∧ b.flags < 256
  | .board b => b.state < 256 ∧ b.closed < 256 ∧ b.feeding < 256 ∧ b.load < 65536 ∧ b.flags < 256
  | .tanker b => b.state < 256 ∧ b.target < 256 ∧ b.content < 65536

/-- The fields of a frame body within the widths of section 1.8. -/
def Body.inRange : Body → Prop
  | .dry tte content => tte < 65536 ∧ content < 65536
  | .take ticket load reason => ticket < 256 ∧ load < 65536 ∧ reason < 256
  | .takeReply ticket verdict reason headroom hold =>
      ticket < 256 ∧ verdict < 256 ∧ reason < 256 ∧ headroom < 65536 ∧ hold < 256
  | .commit ticket load => ticket < 256 ∧ load < 65536
  | .left ticket => ticket < 256
  | .release ticket => ticket < 256
  | .close period fuel energy window again =>
      period < 65536 ∧ fuel < two32 ∧ energy < two32 ∧ window < 256 ∧ again < 256
  | .claim period energy attempt => period < 65536 ∧ energy < two32 ∧ attempt < 256
  | .allot period fuel outcome => period < 65536 ∧ fuel < two32 ∧ outcome < 256
  | .deliverOpen number => number < 65536
  | .deliverAck number answer => number < 65536 ∧ answer < 256
  | .docket number dispensed => number < 65536 ∧ dispensed < two32
  | .deliverResult number meterCheck levelCheck inlet rise =>
      number < 65536 ∧ meterCheck < 256 ∧ levelCheck < 256 ∧ inlet < two32 ∧ -2147483648 ≤ rise ∧ rise < 2147483648
  | .status b => b.inRange

end Sys2Proof.Machine
end

