-- ==== Sys2Proof/Certificates/Slice0/Obligations.lean ====
section
/-! DEFINITION. The statements for the provers, in the order of OBLIGATIONS.json. -/

open Sys2Proof Sys2Proof.Machine

/-! ## The machine as a whole -/

/-- A step takes the command at the front of the queue and runs it on the rest; with no command waiting the station
idles (the model's choice, log 3). -/
def Obligations.StepTakesTheFrontCommand : Prop :=
  (∀ (c : Instr) (rest : List Instr) (s : State),
    step { s with pending := c :: rest } = exec c { s with pending := rest }) ∧
  ∀ s : State, s.pending = [] → step s = .next s

/-- Every step keeps the transmit queue within 8 frames in order of class with at most one STATUS, and the record queue
within 160 records (R11, R12, R170). -/
def Obligations.QueuesStayWithinCapacity : Prop :=
  ∀ s t : State, s.QueuesFit → step s = .next t → t.QueuesFit

/-- Every step keeps the interlock of the switch: a close command is never held while a closed feedback is present or
outside MAKING, an open command never outside BREAKING (R93). -/
def Obligations.SwitchInterlockIsKept : Prop :=
  ∀ s t : State, s.Interlocked → step s = .next t → t.Interlocked

/-- Every step keeps the bounds of a SET's lists: the promises sum to no more than the usable capacity, and no board is
both promised and fed (R68, R76, R148). -/
def Obligations.PromisesStayWithinCapacity : Prop :=
  ∀ s t : State, s.PromisesKept → step s = .next t → t.PromisesKept

/-- Every step keeps the settlement table of a BOARD: at most eight entries, each on a position 1..3, at most one for
each set and period once bound, at most one CURRENT, and in RUN a CURRENT entry exactly while a closed feedback is
present, on a closed position (R156). Choices of the model within it: log 45. -/
def Obligations.SettlementTableFollowsTheSwitch : Prop :=
  ∀ s t : State, s.TableFollows → step s = .next t → t.TableFollows

/-- Every step keeps the station in order: six field inputs, thirteen channels, three live states, and the conditions of a
SET in RUN settled, ENGINE_FAULT only with its input or RUN_ON, BREAKER only where feedback and command differ, BURN_SILENT
only in READY; no other station has a condition (R32, R61, R92). -/
def Obligations.ConditionsStaySettled : Prop :=
  ∀ s t : State, s.KeptInOrder → step s = .next t → t.KeptInOrder

/-- The state after reset meets the five invariants. -/
def Obligations.ResetMeetsTheInvariants : Prop :=
  State.reset.QueuesFit ∧ State.reset.Interlocked ∧ State.reset.PromisesKept ∧ State.reset.TableFollows ∧
  State.reset.KeptInOrder

/-- What a first power-up leaves (R17, R24, R46, R72, R89, R113, R147, R155, R168, R183, R186, R188): UNCONFIGURED with
the image unwritten, the queues empty but for RETAIN_LOST, every channel NO_DATA, the lists of a SET and the counters
that are retained cleared, no delivery, no attempt, no entry, the reply buffer READY with NONE (what the spec gives no
reset value for: logs 4, 5, 37). -/
def Obligations.ResetLeavesAnUnconfiguredStation : Prop :=
  let s := State.reset
  s.station = .unconfigured ∧ s.image = blankImage ∧ s.line.queue = [] ∧ s.line.listenOnly = false ∧ s.peers = [] ∧
  s.meter.channels = List.replicate 13 blankChannel ∧ s.meter.linkErrors = 0 ∧
  s.powerUps = 0 ∧ s.stationSeconds = 0 ∧ s.records = lostRecords .check ∧
  s.port.reply = { ready := true, command := 0, counter := 0, code := .none, payload := [] } ∧
  s.port.startRefusal = none ∧ s.chg.live = [.unsettled, .unsettled, .unsettled] ∧ s.tanker.nextDocket = 1 ∧
  s.setBill.opened = none ∧ s.boardBill.table = [] ∧ s.attn = true ∧
  s.duty.starts = 0 ∧ s.duty.runSeconds = 0 ∧ s.duty.feed = [] ∧ s.duty.faults = [] ∧ s.reservations = [] ∧
  s.tank.burnPulses = 0 ∧ s.tank.inletPulses = 0 ∧ s.delivery.session = none ∧ s.delivery.watch = none ∧
  s.delivery.last = none ∧ s.tanker.pulses = 0 ∧ s.tanker.loadFigure = 0 ∧ s.tanker.loadAnchor = 0 ∧
  s.tanker.delivery = none ∧ s.chg.ticket = 0 ∧ s.chg.attempt = none ∧ s.setBill.closed = none ∧
  s.setBill.claims = [] ∧ s.boardBill.unattributed = 0 ∧ s.boardBill.lastClosed = []

/-! ## Supplies, reset and the local second -/

/-- POWER_UP, the latch kept, judges retention by the doubt latch and the check value, clears the latch and enters
UNCONFIGURED; a RESET pin cold start judges nothing (R182). -/
def Obligations.ColdStartsJudgeRetention : Prop :=
  (∀ s : State, s.mainOn = false →
    ∃ t, exec (.powerUp true) s = .next t ∧ t.mainOn = true ∧ t.doubt = false ∧ t.station = .unconfigured ∧
      t.image = blankImage ∧
      (s.doubt = false → s.checkAgrees = true → s.RetainedAs t ∧ t.powerUps = min 65535 (s.powerUps + 1)) ∧
      (s.doubt = true → t.powerUps = 0 ∧ t.records = lostRecords .backup) ∧
      (s.doubt = false → s.checkAgrees = false → t.powerUps = 0 ∧ t.records = lostRecords .check)) ∧
  ∀ s : State, s.mainOn = true →
    ∃ t, exec .resetPin s = .next t ∧ t.station = .unconfigured ∧ t.image = blankImage ∧ t.resetHeld = false ∧
      s.RetainedAs t ∧ t.powerUps = s.powerUps ∧ t.doubt = s.doubt

/-- MAIN_SUPPLY_LOSS and RESET_HELD_LOW end pulses and commands and drive nothing, and the first ends the reading that
the meter link has begun (log 11); the doubt latch is set by a backup that is LOW as main supply falls and by
BACKUP_BELOW_THRESHOLD after it; POWER_UP after a fall too low to keep the latch finds it clear and the check failed,
and leaves the check in order (R49, R93, R181, R199). On a supplied station POWER_UP changes nothing. Choices of the
model within it: logs 6, 7, 11, 38. -/
def Obligations.SupplyLossAndResetReleaseTheOutputs : Prop :=
  (∀ s : State, s.mainOn = true →
    (∃ t, exec .mainSupplyLoss s = .next t ∧ t.mainOn = false ∧ s.RetainedAs t ∧ t.pulses = { engine := none, breaker := none } ∧
      t.chg = { s.chg with cmd := none, held := 0 } ∧ t.attn = false ∧ t.lineBits = [] ∧ (∀ n, t.fieldOut n = false) ∧
      t.checkAgrees = s.checkAgrees ∧ (t.doubt = true ↔ s.doubt = true ∨ s.backupGood = false) ∧
      t.meter = { s.meter with link := [], linkOld := false }) ∧
    (∃ t, exec .resetHeldLow s = .next t ∧ t.resetHeld = true ∧ s.RetainedAs t ∧ t.pulses = { engine := none, breaker := none } ∧
      t.chg = { s.chg with cmd := none, held := 0 } ∧ t.attn = false ∧ t.lineBits = [] ∧ (∀ n, t.fieldOut n = false) ∧
      (∀ n, t.misoByte n = 0#8) ∧ t.doubt = s.doubt ∧ t.checkAgrees = s.checkAgrees ∧ t.meter = s.meter)) ∧
  ∀ s : State,
    (s.mainOn = false → exec .backupBelowThreshold s = .next { s with doubt := true } ∧
      (∃ t, exec (.powerUp false) s = .next t ∧ t.mainOn = true ∧ t.doubt = false ∧ t.checkAgrees = true ∧
        t.station = .unconfigured ∧ t.powerUps = 0 ∧ t.records = lostRecords .check) ∧
      ∃ t, exec (.powerUp true) s = .next t ∧ t.checkAgrees = true) ∧
    (s.mainOn = true → exec .backupBelowThreshold s = .next s ∧ ∀ kept, exec (.powerUp kept) s = .next s)

/-- LOCAL_SECOND, nothing being left due by the second before (log 2): station-seconds, peer ages, the STATUS interval
and silence counts advance, the backup and the loop are measured (R23, R25, R41, R116, R181, R184). A channel that is LOST
gains one unmetered second, as does a BOARD's CURRENT entry for each such channel (R42, R44, R157). In RUN the counts of
the role's blocks advance: a BOARD's command, step, retry and dwell timers, its last live load, ages and waits (R92, R93,
R97, R99, R102, R104, R106, R159, R163); a TANKER's step timer and unbooked run (R143, R144, R145); a SET's session and
inlet watch (R136, R137, R139), and, where the second finds and leaves no condition present, its state timer, its counts,
holds, period and claim window (R51 to R56, R62, R72, R85, R149, R150, R152). Choices of the model within it: logs 2, 8,
15, 26, 28, 33, 36, 41. -/
def Obligations.LocalSecondAdvancesTheCounts : Prop :=
  ∀ (s : State) (i : SecondInputs), s.awake = true → takeDue s = s →
    ∃ t, exec (.localSecond i) s = .next t ∧
      t.stationSeconds = min 4294967295 (s.stationSeconds + 1) ∧ t.backupGood = i.backupGood ∧
      t.inputs = s.inputs.take 3 ++ [i.live1, i.live2, i.live3] ∧
      t.peers = s.peers.map (fun p => { p with since := min 65535 (p.since + 1) }) ∧
      (∀ n, n < s.meter.channels.length → n ≤ 12 → s.inUse n = true →
        (t.channel n).silence = min 65535 ((s.channel n).silence + 1) ∧
        ((s.channel n).unmetered + 1 < two32 →
          (t.channel n).unmetered = (s.channel n).unmetered + if (s.channel n).state = .lost then 1 else 0)) ∧
      (s.station = .unconfigured ∨ s.image.role = some .set →
        t.tank.loopValue = sumOf (i.loop.map (fun x => min 25000 x)) / 10) ∧
      t.station = s.station ∧ t.image = s.image ∧
      (t.line.statusTimer = s.line.statusTimer.map (fun n => min s.image.statusEvery (n + 1)) ∨
        (s.runs .set = true ∧ t.line.statusTimer = some 0)) ∧
      (s.runs .tanker = true → t.tanker = { s.tanker with
        delivery := s.tanker.delivery.map (fun o =>
          if s.tanker.state = .opening then { o with timer := min 2 (o.timer + 1) }
          else if s.tanker.state = .closing then { o with timer := min 180 (o.timer + 1) }
          else o)
        run := s.tanker.run.map (fun r => { r with quiet := min 120 (r.quiet + 1) }) }) ∧
      (s.runs .board = true → s.inputs.length = 6 →
        t.chg = { s.chg with
          held := if s.chg.cmd = none then s.chg.held else min 3 (s.chg.held + 1)
          lastLive := if t.stageLive = true ∧ t.input (3 + t.closedPos) = true then some t.output else s.chg.lastLive
          attempt := s.chg.attempt.map (fun a =>
            { a with
                timer :=
                  if s.chg.state = .seeking then min 2 (a.timer + 1)
                  else if s.chg.state = .waiting then min 180 (a.timer + 1)
                  else if s.chg.state = .dead then min s.image.deadSeconds (a.timer + 1)
                  else a.timer
                unfed := if s.closedList = [] then min 65535 (a.unfed + 1) else a.unfed })
          retry := s.chg.retry.map (fun x => (min s.image.retryTime (x.1 + 1), x.2))
          dwell := s.chg.dwell.map (fun n => min 60 (n + 1)) } ∧
        t.boardBill.table.map (fun e => (e.state, e.age, e.wait)) = s.boardBill.table.map (fun e =>
          (e.state, if e.state = .waitingClose then min 7200 (e.age + 1) else e.age,
            if e.state = .claimed then min e.waitLength (e.wait + 1) else e.wait)) ∧
        ((∀ e ∈ s.boardBill.table, e.state = .current → e.unmetered + 13 < two32) →
          let lost := (List.range 13).countP (fun n => s.inUse n && (s.channel n).state == .lost)
          t.boardBill.table.map Entry.unmetered = s.boardBill.table.map (fun e =>
            if e.state = .current then e.unmetered + lost else e.unmetered))) ∧
      (s.runs .set = true →
        let moved : Prop := ∃ a, s.delivery.now = some a ∧ a.inlet ≠ s.inletCl
        (∀ x, s.delivery.session = some x →
          (moved → t.delivery.session = some { x with
            quiet := 0, phase := if x.phase = .quiet then .opened else x.phase
            settle := if x.phase = .settling then min 60 (x.settle + 1) else x.settle }) ∧
          (¬ moved → t.delivery.session = some { x with
            quiet := min 1800 (x.quiet + 1)
            settle := if x.phase = .settling then min 60 (x.settle + 1) else x.settle })) ∧
        (s.delivery.session = none →
          (∀ w, s.delivery.watch = some w → 100 ≤ diff32 s.inletCl w.anchor.inlet → t.delivery.watch = none ∧
            t.delivery.session = some
              { tanker := none, docket := none, dispensed := none, anchor := w.anchor, phase := .opened, quiet := 0,
                settle := 0 }) ∧
          (∀ w, s.delivery.watch = some w → diff32 s.inletCl w.anchor.inlet < 100 → t.delivery.session = none ∧
            t.delivery.watch = some { w with age := min 60 (w.age + 1) }) ∧
          (s.delivery.watch = none → t.delivery.session = none ∧ (¬ moved → t.delivery.watch = none) ∧
            (moved → t.delivery.watch = s.delivery.now.map (fun a => { anchor := a, age := 0 }))))) ∧
      (s.runs .set = true → s.inputs.length = 6 → s.duty.conditions = [] → t.duty.conditions = [] →
        s.duty.runSeconds + 1 < two32 →
        let idling : Prop := s.duty.state = .ready ∧ s.output * 20 < s.image.ratedPower
        t.duty = { s.duty with
          timer := match s.duty.state with
            | .starting => min s.image.startLimit (s.duty.timer + 1)
            | .warming => min s.image.warmupTime (s.duty.timer + 1)
            | .unloading => min s.image.unloadTime (s.duty.timer + 1)
            | .cooling => min s.image.cooldownTime (s.duty.timer + 1)
            | .off | .ready | .fault => s.duty.timer
          idle :=
            if s.duty.mode ≠ .auto then 0
            else if s.duty.state ≠ .ready then s.duty.idle
            else if s.duty.feed = [] ∧ s.reservations = [] then min s.image.idleLimit (s.duty.idle + 1)
            else 0
          disagree := if s.input 2 = s.duty.brkClosed then 0 else min 2 (s.duty.disagree + 1)
          overload :=
            if (s.duty.state = .ready ∨ s.duty.state = .unloading) ∧ s.image.ratedPower < s.output then
              min 60 (s.duty.overload + 1)
            else 0
          burnSilence :=
            if s.duty.state ≠ .ready then 0
            else if s.duty.burnSilence = 120 then 120
            else if s.image.ratedPower < s.output * 10 then min 120 (s.duty.burnSilence + 1)
            else 0
          runSeconds := if s.duty.runOn = true ∧ s.input 1 = true then s.duty.runSeconds + 1 else s.duty.runSeconds } ∧
        t.reservations = s.reservations.map (fun r => { r with hold := r.hold.map (fun h => h - 1) }) ∧
        (idling → t.setBill.opened = s.setBill.opened.map (fun o =>
          { o with elapsed := min s.image.periodLength (o.elapsed + 1), idle := min 3600 (o.idle + 1) })) ∧
        (¬ idling → t.setBill.opened = s.setBill.opened.map (fun o =>
          { o with elapsed := min s.image.periodLength (o.elapsed + 1) })) ∧
        t.setBill.window = s.setBill.window.map (fun w => min s.image.windowLength (w + 1)))

/-! ## The site line -/

/-- BUS_FREE: a station with a frame begins the one at the head of its queue; without one, or silent, it drives
nothing (R5, R11, R15). Choices of the model within it: log 9. -/
def Obligations.BusFreeBeginsTheHeadFrame : Prop :=
  ∀ s : State, s.awake = true → s.line.phase ≠ .sending →
    (∀ f rest, s.posts = true → s.line.queue = f :: rest →
      ∃ t, exec .busFree s = .next t ∧
        t = { s with line := { s.line with queue := { f with onLine := true } :: rest, older := none, phase := .sending } } ∧
        t.lineBits = TxFrame.bits (s.image.station.getD 0) f) ∧
    (s.posts = false ∨ s.line.queue = [] →
      exec .busFree s = .next { s with line := { s.line with phase := .free } })

/-- ARBITRATION_LOSS leaves the own frame in its place with its attempts; FRAME_SENT takes it out of the queue;
BIT_ERROR is ten dominant bits and one attempt, and the third takes the frame out with a TX_DROPPED record; a
superseded STATUS on the line is gone without either and the newer one stays (R6, R7, R8, R12). Choices of the model
within it: log 9. -/
def Obligations.OwnFrameIsLostSentOrCounted : Prop :=
  ∀ s : State, s.awake = true → s.line.phase = .sending →
    exec .arbitrationLoss s = .next { s with
      line := { s.line with
        queue := s.line.queue.map (fun f => { f with onLine := false }), older := none, phase := .receiving } } ∧
    (s.line.older = none →
      exec .frameSent s = .next { s with
        line := { s.line with queue := s.line.queue.filter (fun f => !f.onLine), phase := .waiting } }) ∧
    (∀ f, s.line.older = some f →
      exec .frameSent s = .next { s with line := { s.line with older := none, phase := .waiting } } ∧
      exec .bitError s = .next { s with line := { s.line with older := none, phase := .burst } }) ∧
    ∀ a b f, s.line.older = none → s.line.queue = a ++ f :: b → f.onLine = true → (∀ g ∈ a ++ b, g.onLine = false) →
      (f.attempts < 2 → ∃ t, exec .bitError s = .next t ∧ t.lineBits = List.replicate 10 false ∧
        t = { s with
          line := { s.line with
            queue := a ++ { f with attempts := f.attempts + 1, onLine := false } :: b, phase := .burst } }) ∧
      (2 ≤ f.attempts → ∃ t, exec .bitError s = .next t ∧ t.lineBits = List.replicate 10 false ∧
        t = { s with
          line := { s.line with queue := a ++ b, phase := .burst }
          records := appendTo s.records s.stationSeconds s.powerUps
            (.event (.txDropped (kindCode f.body.kind) f.dest .attempts)) })

/-- A frame posted to a full transmit queue, by its kind and by whether a STATUS is queued: the five rows of R13. A
record appended to the record queue: with room it joins, an event with the event-lost count, a billing record with its
kind's carry; at 160 records the oldest event gives way to it, or, where there is none, an event is counted as lost and
a billing record is merged into its kind's carry (R171 to R177). Choices of the model within it: a STATUS queued behind
its own older body, which is on the line (R12), is evicted as one not on the line (log 49), and the ranks of the checks
that R176 does not list are left open (log 25). -/
def Obligations.FullQueueReplacesEvictsOrRefuses : Prop :=
  (∀ (s : State) (dest : Nat) (b : Body), s.posts = true → s.QueuesFit → s.line.queue.length = txCap →
    let f := newFrame dest b
    let t := post s dest b
    (b.kind = .status → (∃ g ∈ s.line.queue, g.isStatus = true) →
      t.records = s.records ∧ t.line.queue.filter TxFrame.isStatus = [f] ∧
      t.line.queue.filter (fun g => !g.isStatus) = s.line.queue.filter (fun g => !g.isStatus)) ∧
    (b.kind = .status → (∀ g ∈ s.line.queue, g.isStatus = false) → t = s) ∧
    (b.kind ≠ .status → (∃ g ∈ s.line.queue, g.isStatus = true ∧ g.onLine = false) →
      t.records = s.records ∧ t.line.queue.length = txCap ∧ f ∈ t.line.queue ∧
      (∀ g ∈ t.line.queue, g.isStatus = false) ∧ ∀ g ∈ s.line.queue, g.isStatus = false → g ∈ t.line.queue) ∧
    (b.kind ≠ .status → (∀ g ∈ s.line.queue, g.isStatus = true → g.onLine = true) →
      t = { s with
        records :=
          appendTo s.records s.stationSeconds s.powerUps (.event (.txDropped (kindCode b.kind) dest .queueFull)) })) ∧
  (∀ (q : RecordStore) (stamp ups : Nat) (b : RecordBody),
    let event := fun (x : RecordBody) => (∃ c, x = .changeover c) ∨ ∃ e, x = .event e
    let joined : RecordStore → Nat → Option Carry → RecordStore := fun w lost carry =>
      { w with
          queue := w.queue ++ [{ seq := w.seq, stamp := stamp, powerUps := ups, lost := lost, carry := carry, body := b }]
          seq := (w.seq + 1) % 65536 }
    let joins : RecordStore → RecordStore := fun w =>
      match b with
      | .settleSet _ => { joined w 0 (w.setCarry.map Carry.settleSet) with setCarry := none }
      | .settleBoard _ => { joined w 0 (w.boardCarry.map Carry.settleBoard) with boardCarry := none }
      | .delivery _ => { joined w 0 (w.deliveryCarry.map Carry.delivery) with deliveryCarry := none }
      | .docket _ => { joined w 0 (w.docketCarry.map Carry.docket) with docketCarry := none }
      | .changeover _ | .event _ => { joined w w.eventLost none with eventLost := 0 }
    let missed := fun (done : Bool) => if done then 0 else 1
    let worse := fun (rank : Nat → Nat) (held brought : Nat) => if rank held < rank brought then brought else held
    (q.queue.length < 160 → appendTo q stamp ups b = joins q) ∧
    (∀ before e after, 160 ≤ q.queue.length → q.queue = before ++ e :: after → event e.body →
      (∀ x ∈ before, ¬ event x.body) →
      appendTo q stamp ups b =
        joins { q with queue := before ++ after, eventLost := min 65535 (q.eventLost + (1 + e.lost)) }) ∧
    (160 ≤ q.queue.length → (∀ x ∈ q.queue, ¬ event x.body) →
      (event b → appendTo q stamp ups b = { q with eventLost := min 65535 (q.eventLost + 1) }) ∧
      (∀ r, b = .settleSet r → appendTo q stamp ups b = { q with
        setCarry := some (match q.setCarry with
          | none =>
            { merged := 1, first := r.period, last := r.period, fuel := r.fuel, energy := r.energy,
              allotted := r.allotted, retained := r.retained, run := r.run, idle := r.idle, late := r.late,
              interrupted := r.interrupted }
          | some c =>
            { merged := min 65535 (c.merged + 1), first := c.first, last := r.period, fuel := c.fuel + r.fuel,
              energy := c.energy + r.energy, allotted := c.allotted + r.allotted, retained := c.retained + r.retained,
              run := c.run + r.run, idle := c.idle + r.idle, late := c.late + r.late,
              interrupted := c.interrupted || r.interrupted }) }) ∧
      (∀ r, b = .settleBoard r → appendTo q stamp ups b = { q with
        boardCarry := some (match q.boardCarry with
          | none =>
            { merged := 1, set := r.set, first := r.period, last := r.period,
              notAllotted := missed (r.outcome = .allotted), claim := r.claim, allotted := r.allotted.getD 0,
              unmetered := r.unmetered, unattributed := r.unattributed,
              lines := r.lines.foldl (fun ls l => mergeLine l ls) [] }
          | some c =>
            { merged := min 65535 (c.merged + 1), set := if c.set = r.set then c.set else 255, first := c.first,
              last := r.period, notAllotted := c.notAllotted + missed (r.outcome = .allotted), claim := c.claim + r.claim,
              allotted := c.allotted + r.allotted.getD 0, unmetered := c.unmetered + r.unmetered,
              unattributed := c.unattributed + r.unattributed,
              lines := r.lines.foldl (fun ls l => mergeLine l ls) c.lines }) }) ∧
      (∀ r, b = .delivery r → appendTo q stamp ups b = { q with
        deliveryCarry := some (match q.deliveryCarry with
          | none =>
            { merged := 1, inlet := r.inlet, burned := r.burned, dispensed := r.dispensed.getD 0,
              worstMeter := r.meterCheck, worstLevel := r.levelCheck }
          | some c =>
            { merged := min 65535 (c.merged + 1), inlet := c.inlet + r.inlet, burned := c.burned + r.burned,
              dispensed := c.dispensed + r.dispensed.getD 0, worstMeter := worse meterRank c.worstMeter r.meterCheck,
              worstLevel := worse levelRank c.worstLevel r.levelCheck }) }) ∧
      ∀ r, b = .docket r → ∃ meter level,
        appendTo q stamp ups b = { q with
          docketCarry := some (match q.docketCarry with
            | none =>
              { merged := 1, inlet := r.inlet.getD 0, dispensed := r.dispensed, notDone := missed (r.outcome = .done),
                worstMeter := r.meterCheck, worstLevel := r.levelCheck }
            | some c =>
              { merged := min 65535 (c.merged + 1), inlet := c.inlet + r.inlet.getD 0,
                dispensed := c.dispensed + r.dispensed, notDone := c.notDone + missed (r.outcome = .done),
                worstMeter := meter, worstLevel := level }) } ∧
        ∀ c, q.docketCarry = some c →
          (r.meterCheck = none → meter = c.worstMeter) ∧ (c.worstMeter = none → meter = r.meterCheck) ∧
          (∀ m n, c.worstMeter = some m → r.meterCheck = some n → meter = some (worse meterRank m n)) ∧
          (r.levelCheck = none → level = c.worstLevel) ∧ (c.worstLevel = none → level = r.levelCheck) ∧
          (∀ m n, c.worstLevel = some m → r.levelCheck = some n → level = some (worse levelRank m n)))) ∧
  (meterRank meterOk < meterRank meterNoDocket ∧ meterRank meterNoDocket = meterRank meterUnknownDocket ∧
    meterRank meterNoDocket < meterRank meterMismatch ∧ levelRank levelOk < levelRank levelUnavailable ∧
    levelRank levelUnavailable < levelRank levelMismatch) ∧
  ∀ (l : AccountLine) (ls : List CarryLine),
    let inOrder := fun (m : List CarryLine) => m.Pairwise (fun x y => linePlace x.account < linePlace y.account) ∧
      ∀ x ∈ m, x.account ≤ 12
    let found := fun (m : List CarryLine) (k : Nat) => m.find? (fun x => x.account == k)
    l.account ≤ 12 → inOrder ls →
      inOrder (mergeLine l ls) ∧ (∀ k, k ≠ l.account → found (mergeLine l ls) k = found ls k) ∧
      (found ls l.account = none → found (mergeLine l ls) l.account =
        some { account := l.account, wh := l.wh, fuel := l.fuel.getD 0, peak := l.peak.getD 0 }) ∧
      ∀ c, found ls l.account = some c → found (mergeLine l ls) l.account =
        some { account := l.account, wh := c.wh + l.wh, fuel := c.fuel + l.fuel.getD 0, peak := max c.peak (l.peak.getD 0) }

/-- FRAME_SPOILT changes no block; GOOD_FRAME that is not taken is shown to the peer table alone: an unknown sender
joins it LOST, a known one stays as it was (R9, R10, R20, R21). A frame that the station does not follow, before bus-free,
in an abort burst or while it sends, has no effect, whatever its kind (R5, R17, R18). Choices of the model within it: logs
9, 10. -/
def Obligations.FrameNotTakenReachesThePeerTableAlone : Prop :=
  (∀ (s : State) (bits : List Bool), s.awake = true → s.line.phase = .free ∨ s.line.phase = .receiving →
    judge bits = .spoilt → exec (.frameSpoilt bits) s = .next { s with line := { s.line with phase := .waiting } }) ∧
  (∀ (s : State) (bits : List Bool) (kind : Byte) (f : RxFrame), s.line.phase ≠ .free → s.line.phase ≠ .receiving →
    ∀ i ∈ [Instr.frameSpoilt bits, .goodFrame kind f, .dry f, .take f, .takeReply f, .commit f, .left f, .release f,
      .close f, .claim f, .allot f, .deliverOpen f, .deliverAck f, .docket f, .deliverResult f, .status f],
      exec i s = .next s) ∧
  ∀ (s : State) (kind : Byte) (f : RxFrame) (own : Nat), s.awake = true →
    s.line.phase = .free ∨ s.line.phase = .receiving → frameSound f = true → s.image.station = some own →
    own ≠ f.sender → statusIn kind f.body = none →
    (s.station = .unconfigured ∨ s.addressed f.dest = false ∨ takenBody kind f.body = none) →
    ∃ t, exec (.goodFrame kind f) s = .next t ∧
      t = { s with peers := t.peers, line := { s.line with phase := .waiting } } ∧
      (∀ n, n ≠ f.sender → t.peer n = s.peer n) ∧
      (∀ p, s.peer f.sender = some p → t.peer f.sender = some p) ∧
      (s.peer f.sender = none → t.peer f.sender =
        some { station := f.sender, role := none, fresh := .lost, since := 65535, body := none })

/-- A good frame under the station's own number, not its own, makes a station in RUN listen-only: its queue is emptied
and DUPLICATE_STATION recorded, and it posts no more (R14, R15). A frame not addressed to it does no more; any other, of
whatever kind, is handed on and taken as by a station that is listen-only already (R10, R14). -/
def Obligations.DuplicateStationFallsSilent : Prop :=
  ∀ (s : State) (f : RxFrame), s.awake = true → s.station = .run → s.follows = true →
    s.line.listenOnly = false → frameSound f = true → s.image.station = some f.sender →
    let silent := { s with
      line := { s.line with queue := [], older := none, listenOnly := true }
      records := appendTo s.records s.stationSeconds s.powerUps (.event (.duplicateStation f.sender)) }
    let frames : List Instr :=
      [.dry f, .take f, .takeReply f, .commit f, .left f, .release f, .close f, .claim f, .allot f, .deliverOpen f,
        .deliverAck f, .docket f, .deliverResult f, .status f]
    (∀ kind, s.addressed f.dest = false →
      exec (.goodFrame kind f) s = .next { silent with line := { silent.line with phase := .waiting } }) ∧
    ∀ i, (i ∈ frames ∨ ∃ kind, i = .goodFrame kind f) →
      ∃ t, exec i s = .next t ∧ exec i silent = .next t ∧ t.posts = false ∧ t.line.listenOnly = true ∧ t.line.queue = []

/-- A frame as its sender drives it, stuff bits, order of fields and check included, is judged good by a receiver, with
its class, sender, destination, kind and body (R2, R3, R4, R9). -/
def Obligations.LineCodeIsReadBack : Prop :=
  ∀ (station : Nat) (f : TxFrame), 1 ≤ station → station ≤ 30 → f.dest < 256 →
    judge (f.bits station) =
      .good (kindByte f.body.kind) { cls := f.cls, sender := station, dest := f.dest, body := f.body.bytes }

/-- The fields of every kind's body are read back as they were written, whatever bytes follow, and a body below the
kind's minimum is not read (R10, R19). -/
def Obligations.FrameBodiesAreReadBack : Prop :=
  ∀ b : Body, b.inRange →
    (∀ extra : List Byte, parseBody b.kind (b.bytes ++ extra) = some b) ∧
    ∀ n, n < b.bytes.length → parseBody b.kind (b.bytes.take n) = none

/-! ## The headroom arbiter and the feed list of a SET -/

/-- A TAKE of a board that is neither fed nor reserved is answered by the first test that applies (R77 to R81), and draws
one TAKE_REPLY; a board that is fed leaves the feed list first, a repeat draws the earlier answer, and an entry of another
ticket is replaced, its TAKE judged without it (R79); a refusal for the set's own condition takes the entry away (R78). The
GRANT in COOLING and the answers of test 10 stand in TakeStartsOrReturnsTheSet. BUSY with more than 8 entries in the two
lists together is the model's choice: log 51. -/
def Obligations.TakeIsAnsweredByItsTests : Prop :=
  ∀ (s : State) (f : RxFrame) (t l1 l0 r : Byte) (rest : List Byte), s.Takes f → s.image.role = some .set → s.Settled →
    f.body = t :: l1 :: l0 :: r :: rest →
    let v := { s.heard f with duty := { s.duty with idle := 0 } }
    let load := rd2 l1 l0
    let refused := fun reason => Host.Outcome.next (replyTo v f.sender t.toNat verdictRefuse reason 0)
    let carrying : Prop := s.duty.state = .ready ∨ (s.duty.state = .cooling ∧ s.duty.origin = some .idle)
    let starting : Prop :=
      s.duty.state = .starting ∨ s.duty.state = .warming ∨ (s.duty.state = .off ∧ s.inhibit = false)
    let full : Prop := reservationCap ≤ s.reservations.length ∨ feedCap ≤ s.duty.feed.length + s.reservations.length
    let free := { s with reservations := s.reservations.filter (fun r => r.board != f.sender) }
    (t.toNat = 0 → exec (.take f) s = .next (s.heard f)) ∧
    (t.toNat ≠ 0 → s.feeds f.sender = false → s.entryOf f.sender = none →
      (s.tank.dry = true → exec (.take f) s = refused reasonDry) ∧
      (s.tank.dry = false → s.duty.mode = .stop → exec (.take f) s = refused reasonBlocked) ∧
      (s.tank.dry = false → s.duty.mode ≠ .stop → s.duty.state = .fault ∨ (s.duty.state = .off ∧ s.inhibit = true) →
        exec (.take f) s = refused reasonFault) ∧
      (s.tank.dry = false → s.duty.mode ≠ .stop →
        s.duty.state = .unloading ∨ (s.duty.state = .cooling ∧ s.duty.origin = some .stopping) →
        exec (.take f) s = refused reasonStopping) ∧
      (s.tank.dry = false → s.duty.mode ≠ .stop → starting → full → exec (.take f) s = refused reasonBusy) ∧
      (s.tank.dry = false → s.duty.mode ≠ .stop → carrying →
        ((s.channel 0).state = .noData → exec (.take f) s = refused reasonNotReady) ∧
        ((s.channel 0).state ≠ .noData →
          (full → exec (.take f) s = refused reasonBusy) ∧
          (¬ full →
            (s.headroom < load → exec (.take f) s = refused reasonHeadroom) ∧
            (s.duty.state = .ready → (load : Int) ≤ s.headroom →
              exec (.take f) s = .next (replyTo
                { v with
                    reservations := s.reservations ++
                      [{ board := f.sender, ticket := t.toNat, load := load, hold := some s.image.holdTime }] }
                f.sender t.toNat verdictGrant reasonNone s.image.holdTime)))))) ∧
    (t.toNat ≠ 0 → s.duty.state ≠ .unloading →
      exec (.take f) s =
        exec (.take f) { s with
          duty := { s.duty with feed := s.duty.feed.filter (fun e => e.board != f.sender) } }) ∧
    (∀ e, t.toNat ≠ 0 → s.feeds f.sender = false → s.entryOf f.sender = some e →
      (s.tank.dry = false → s.duty.mode ≠ .stop → carrying ∨ starting →
        (e.ticket ≠ t.toNat → exec (.take f) s = exec (.take f) free) ∧
        (e.ticket = t.toNat →
          (∀ h, e.hold = some h →
            exec (.take f) s = .next (replyTo v f.sender t.toNat verdictGrant reasonNone h)) ∧
          (e.hold = none → exec (.take f) s = .next (replyTo v f.sender t.toNat verdictPending reasonNone 0)))) ∧
      (s.tank.dry = true ∨ s.duty.mode = .stop ∨ s.duty.state = .fault ∨ (s.duty.state = .off ∧ s.inhibit = true) ∨
          (s.duty.state = .cooling ∧ s.duty.origin = some .stopping) → s.duty.state ≠ .unloading →
        exec (.take f) s = exec (.take f) free))

/-- A TAKE that a stopped set has room for starts it: PENDING, RUN_ON pulsed, one more start, a STATUS; one that it has no
room for is refused HEADROOM; while the set starts or warms the board waits with it (R82, R51). A set cooling down from
idleness takes a board again: BRK_CLOSE pulsed, READY, GRANT (R55, R81). The start is that of an engine not running: one
that finds ENGINE_READY present goes on to WARMING in the same event and is not stated here. Choices of the model within
it, the order of reply, reservation and STATUS: log 15. -/
def Obligations.TakeStartsOrReturnsTheSet : Prop :=
  (∀ (s : State) (f : RxFrame) (t l1 l0 r : Byte) (rest : List Byte), s.Takes f → s.image.role = some .set → s.Settled →
     f.body = t :: l1 :: l0 :: r :: rest → t.toNat ≠ 0 → s.tank.dry = false → s.duty.mode ≠ .stop →
     s.feeds f.sender = false → s.entryOf f.sender = none → s.reservations.length < reservationCap →
     s.duty.feed.length + s.reservations.length < feedCap →
     let v := { s.heard f with duty := { s.duty with idle := 0 } }
     let load := rd2 l1 l0
     let w := replyTo
       { v with
           reservations := s.reservations ++ [{ board := f.sender, ticket := t.toNat, load := load, hold := none }] }
       f.sender t.toNat verdictPending reasonNone 0
     (s.image.usable < load + s.reservedSum →
       s.duty.state = .starting ∨ s.duty.state = .warming ∨ (s.duty.state = .off ∧ s.inhibit = false) →
       exec (.take f) s = .next (replyTo v f.sender t.toNat verdictRefuse reasonHeadroom 0)) ∧
     (load + s.reservedSum ≤ s.image.usable →
       (s.duty.state = .starting ∨ s.duty.state = .warming → exec (.take f) s = .next w) ∧
       (s.duty.state = .off → s.inhibit = false → s.input 1 = false → s.duty.starts + 1 < two32 →
         exec (.take f) s = .next (postStatus
           { w with
               pulses := { s.pulses with engine := some .runOn }
               duty := { s.duty with
                 idle := 0, state := .starting, origin := none, timer := 0, overload := 0, burnSilence := 0, runOn := true
                 starts := s.duty.starts + 1 } })))) ∧
  (∀ (s : State) (f : RxFrame) (t l1 l0 r : Byte) (rest : List Byte), s.Takes f → s.image.role = some .set → s.Settled →
     f.body = t :: l1 :: l0 :: r :: rest → t.toNat ≠ 0 → s.tank.dry = false → s.duty.mode ≠ .stop →
     s.feeds f.sender = false → s.entryOf f.sender = none → s.reservations.length < reservationCap →
     s.duty.feed.length + s.reservations.length < feedCap → s.duty.state = .cooling → s.duty.origin = some .idle →
     (s.channel 0).state ≠ .noData → (rd2 l1 l0 : Int) ≤ s.headroom → s.duty.brkClosed = false →
     s.present .breaker = false →
     let w := postStatus
       { s.heard f with
           pulses := { s.pulses with breaker := some .brkClose }
           duty := { s.duty with idle := 0, state := .ready, origin := none, brkClosed := true, disagree := 0 } }
     exec (.take f) s = .next (replyTo
       { w with
           reservations := s.reservations ++
             [{ board := f.sender, ticket := t.toNat, load := rd2 l1 l0, hold := some s.image.holdTime }] }
       f.sender t.toNat verdictGrant reasonNone s.image.holdTime))

/-- A COMMIT removes the board's entry and places the board in the feed list; without a GRANTED entry of its ticket it is
late; a headroom that it leaves below 0 makes OVERCOMMIT (R86, R87, R68). That a COMMIT which a full feed list turns away
is tested for OVERCOMMIT too is the model's choice: log 46. -/
def Obligations.CommitFeedsTheBoard : Prop :=
  ∀ (s : State) (f : RxFrame) (t l1 l0 : Byte) (rest : List Byte), s.Takes f → s.image.role = some .set → s.Settled →
    f.body = t :: l1 :: l0 :: rest →
    let board := f.sender
    let load := rd2 l1 l0
    let matched : Prop := t.toNat ≠ 0 ∧ ∃ e ∈ s.reservations, e.board = board ∧ e.ticket = t.toNat ∧ e.hold ≠ none
    let withEvents := fun (w : State) (late : Bool) =>
      let w1 := if late then addEvent w (.lateCommit board t.toNat load s.duty.state) else w
      if w.headroom < 0 then addEvent w1 (.overcommit board t.toNat w.headroom) else w1
    let freed := { s.heard f with reservations := s.reservations.filter (fun e => e.board != board) }
    let joined := { freed with
      duty := { s.duty with
        feed := s.duty.feed ++ [{ board := board, load := load, confirmed := true, joined := s.stationSeconds }]
        overflow := s.duty.overflow.filter (fun b => b != board) } }
    let renewed := { freed with
      duty := { s.duty with
        feed := s.duty.feed.map (fun e => if e.board = board then { e with load := load, confirmed := true } else e) } }
    let turnedAway := if s.duty.overflow.contains board then freed else
      addEvent { freed with duty := { s.duty with overflow := s.duty.overflow ++ [board] } } (.feedFull board)
    (s.feeds board = false → s.duty.feed.length < feedCap →
      (matched → exec (.commit f) s = .next (withEvents joined false)) ∧
      (¬ matched → exec (.commit f) s = .next (withEvents joined true))) ∧
    (s.feeds board = true →
      (matched → exec (.commit f) s = .next (withEvents renewed false)) ∧
      (¬ matched → exec (.commit f) s = .next (withEvents renewed true))) ∧
    (s.feeds board = false → feedCap ≤ s.duty.feed.length →
      (matched → exec (.commit f) s = .next (withEvents turnedAway false)) ∧
      (¬ matched → exec (.commit f) s = .next (withEvents turnedAway true)))

/-- LEFT takes the board from the feed list, RELEASE its reservation of that ticket; in UNLOADING the last of both lists
to go opens the breaker and the set cools (R56, R71, R88). -/
def Obligations.LeftAndReleaseFreeTheBoard : Prop :=
  ∀ (s : State) (f : RxFrame) (t : Byte) (rest : List Byte), s.Takes f → s.image.role = some .set → s.Settled →
    f.body = t :: rest →
    let left := { s.heard f with
      duty := { s.duty with feed := s.duty.feed.filter (fun e => e.board != f.sender) } }
    let released := { s.heard f with reservations := s.reservations.filter (fun e => e.board != f.sender) }
    let cooled := fun (w : State) => postStatus
      { w with
          pulses := { s.pulses with breaker := some .brkOpen }
          duty := { w.duty with
            state := .cooling, origin := some .stopping, timer := 0, overload := 0, burnSilence := 0, brkClosed := false
            disagree := if s.duty.brkClosed then 0 else s.duty.disagree } }
    let holds : Prop := ∃ e ∈ s.reservations, e.board = f.sender ∧ e.ticket = t.toNat
    (s.duty.state ≠ .unloading → exec (.left f) s = .next left) ∧
    (s.duty.state ≠ .unloading → holds → exec (.release f) s = .next released) ∧
    (¬ holds → exec (.release f) s = .next (s.heard f)) ∧
    (s.duty.state = .unloading → s.present .breaker = false → s.image.cooldownTime ≠ 0 →
      (s.feeds f.sender = true → left.duty.feed = [] → s.reservations = [] →
        exec (.left f) s = .next (cooled left)) ∧
      (left.duty.feed ≠ [] ∨ s.reservations ≠ [] → exec (.left f) s = .next left) ∧
      (holds → s.duty.feed = [] → released.reservations = [] → exec (.release f) s = .next (cooled released)))

/-! ## Peers and STATUS -/

/-- A good STATUS whose fields can be read is stored with its role, FRESH, age 0, whatever its destination; in UNCONFIGURED
that is all it does; the entries of the other stations stand (R20, R22). -/
def Obligations.StatusIsStoredInThePeerTable : Prop :=
  ∀ (s : State) (f : RxFrame) (own : Nat) (b : StatusBody), s.awake = true → s.follows = true → frameSound f = true →
    s.image.station = some own → own ≠ f.sender → parseStatus f.body = some b →
    ∃ t, exec (.status f) s = .next t ∧
      t.peer f.sender =
        some { station := f.sender, role := some b.role, fresh := .fresh, since := 0, body := some b } ∧
      (∀ n, n ≠ f.sender → t.peer n = s.peer n) ∧
      (s.station = .unconfigured → t = { s with peers := t.peers, line := { s.line with phase := .waiting } })

/-- A BOARD STATUS at a SET in RUN: an unlisted board that shows IDLE or LOCKED and this set is discovered; a listed one
that has settled elsewhere leaves the list and the overflow set, the last of both lists to go in UNLOADING making the set
cool; any other refreshes the load (R56, R69, R70). At a full list FEED_FULL is recorded once, the board joining the
overflow set (R68, R69). -/
def Obligations.BoardStatusKeepsTheFeedList : Prop :=
  ∀ (s : State) (f : RxFrame) (own : Nat) (b : BoardStatus), s.awake = true → s.follows = true → frameSound f = true →
    s.station = .run → s.image.role = some .set → s.image.station = some own → own ≠ f.sender → s.Settled →
    parseStatus f.body = some (.board b) →
    let u := showPeer (endReception s) f.sender (some (.board b))
    let overflow := s.duty.overflow.filter (fun n => n != f.sender)
    let atRest : Prop := b.state = chgCode .idle ∨ b.state = chgCode .locked
    (s.feeds f.sender = false → b.feeding = own → atRest → (∀ r ∈ s.reservations, r.board ≠ f.sender) →
      s.duty.feed.length < feedCap →
      exec (.status f) s = .next (addEvent
        { u with
            duty := { s.duty with
              feed := s.duty.feed ++
                [{ board := f.sender, load := b.load, confirmed := true, joined := s.stationSeconds }]
              overflow := overflow } }
        (.feedDiscovered f.sender b.load))) ∧
    (s.feeds f.sender = false → b.feeding = own → atRest → (∀ r ∈ s.reservations, r.board ≠ f.sender) →
      feedCap ≤ s.duty.feed.length →
      (f.sender ∈ s.duty.overflow → exec (.status f) s = .next u) ∧
      (f.sender ∉ s.duty.overflow → exec (.status f) s = .next (addEvent
        { u with duty := { s.duty with overflow := s.duty.overflow ++ [f.sender] } } (.feedFull f.sender)))) ∧
    (s.feeds f.sender = false →
      b.feeding ≠ own ∨ ¬ atRest ∨ (∃ r ∈ s.reservations, r.board = f.sender) → exec (.status f) s = .next u) ∧
    (s.feeds f.sender = true → b.feeding ≠ own → atRest →
      let feed := s.duty.feed.filter (fun e => e.board != f.sender)
      let left := { u with duty := { s.duty with feed := feed, overflow := overflow } }
      (s.duty.state ≠ .unloading ∨ feed ≠ [] ∨ s.reservations ≠ [] → exec (.status f) s = .next left) ∧
      (s.duty.state = .unloading → feed = [] → s.reservations = [] → s.present .breaker = false →
        s.image.cooldownTime ≠ 0 →
        exec (.status f) s = .next (postStatus
          { left with
              pulses := { s.pulses with breaker := some .brkOpen }
              duty := { left.duty with
                state := .cooling, origin := some .stopping, timer := 0, overload := 0, burnSilence := 0
                brkClosed := false, disagree := if s.duty.brkClosed then 0 else s.duty.disagree } }))) ∧
    (s.feeds f.sender = true → b.feeding = own ∨ ¬ atRest →
      exec (.status f) s = .next
        { u with
            duty := { s.duty with
              feed := s.duty.feed.map (fun e =>
                if e.board = f.sender then { e with load := b.load, confirmed := true } else e) } })

/-- PEER_STALE, PEER_LOST and STATUS_INTERVAL_EXPIRY act where their count is reached, and not before: a FRESH entry
at 6 s grows STALE, a STALE one at 15 s LOST, and a LOST board's feed entry UNCONFIRMED; the STATUS goes to all with
the fields of the role (R23, R25 to R28, R70). Choices of the model within it: log 1. -/
def Obligations.AgesAndIntervalsRunOut : Prop :=
  ∀ (s : State) (n : Nat), s.awake = true →
    (∀ p, s.peer n = some p → (∀ q ∈ s.peers, q.station = n → q = p) →
      (p.fresh = .fresh → 6 ≤ p.since → ∃ t, exec (.peerStale n) s = .next t ∧ t = { s with peers := t.peers } ∧
        t.peer n = some { p with fresh := .stale } ∧ ∀ m, m ≠ n → t.peer m = s.peer m) ∧
      (p.fresh ≠ .fresh ∨ p.since < 6 → exec (.peerStale n) s = .next s) ∧
      (p.fresh = .stale → 15 ≤ p.since → s.Settled → ∃ t, exec (.peerLost n) s = .next t ∧
        t.peer n = some { p with fresh := .lost } ∧ (∀ m, m ≠ n → t.peer m = s.peer m) ∧
        t = { s with peers := t.peers, duty := t.duty } ∧
        (p.role ≠ some .board ∨ s.runs .set = false → t.duty = s.duty) ∧
        (p.role = some .board → s.runs .set = true → t.duty = { s.duty with
          feed := s.duty.feed.map (fun e => if e.board = n then { e with confirmed := false } else e) })) ∧
      (p.fresh ≠ .stale ∨ p.since < 15 → exec (.peerLost n) s = .next s)) ∧
    (∀ k b, s.line.statusTimer = some k → s.ownStatus = some b → s.station = .run →
      (s.image.statusEvery ≤ k →
        exec .statusIntervalExpiry s = .next { s with
          line := { (if s.line.listenOnly then s.line else acceptFrame s.line (newFrame 0 (.status b))) with
            statusTimer := some 0 } }) ∧
      (k < s.image.statusEvery → exec .statusIntervalExpiry s = .next s)) ∧
    (s.image.role = some .set → s.ownStatus = some (.set
      { duty := dutyCode s.duty.state, mode := modeCode s.duty.mode, rated := s.image.ratedPower, output := s.output,
        headroom := s.headroomSent, period := (s.setBill.opened.map OpenPeriod.period).getD 0,
        content := litres s.tank.reported, tte := s.tank.tte,
        flags := flagSet [s.tank.dry, !s.duty.faults.isEmpty, s.delivery.session.isSome] })) ∧
    (s.image.role = some .board → s.ownStatus = some (.board
      { state := chgCode s.chg.state, closed := s.closedPos, feeding := s.image.setAt s.closedPos, load := s.output,
        flags := flagSet [s.chg.fault.isSome, s.chg.state == .locked] })) ∧
    (s.image.role = some .tanker → s.ownStatus = some (.tanker
      { state := tankerCode s.tanker.state
        target := if s.tanker.state = .idle then 0 else (s.tanker.delivery.map OpenDelivery.target).getD 0
        content := litres s.tankerContent }))

/-! ## Settlement on the line -/

/-- A CLAIM taken by a SET is answered by the first of the six rows of R151, the late-claim count below its top (log
14). -/
def Obligations.ClaimIsAnsweredByTheFirstRow : Prop :=
  ∀ (s : State) (f : RxFrame) (p1 p0 e3 e2 e1 e0 a : Byte) (rest : List Byte), s.Takes f → s.image.role = some .set →
    f.body = p1 :: p0 :: e3 :: e2 :: e1 :: e0 :: a :: rest →
    let u := s.heard f
    let period := rd2 p1 p0
    let energy := rd4 e3 e2 e1 e0
    let inWindow : Prop := s.setBill.window ≠ none ∧ ∃ c, s.setBill.closed = some c ∧ c.period = period
    let listed : Prop := ∃ c ∈ s.setBill.claims, c.board = f.sender
    let answered := fun fuel outcome => post u f.sender (.allot period fuel outcome)
    let counted := fun (w : State) => { w with setBill := { s.setBill with late := s.setBill.late + 1 } }
    (inWindow →
      (listed → exec (.claim f) s = .next { u with
        setBill := { s.setBill with
          claims := s.setBill.claims.map (fun c => if c.board = f.sender then { c with energy := energy } else c) } }) ∧
      (¬ listed → s.setBill.claims.length < 16 → exec (.claim f) s = .next { u with
        setBill := { s.setBill with
          claims := s.setBill.claims ++ [{ board := f.sender, energy := energy }] } }) ∧
      (¬ listed → 16 ≤ s.setBill.claims.length → s.setBill.late < 65535 →
        exec (.claim f) s = .next (counted (answered 0 allotFull)))) ∧
    (¬ inWindow →
      (∀ l, s.setBill.last = some l → l.period = period →
        (∀ x, l.shares.find? (fun y => y.1 == f.sender) = some x →
          exec (.claim f) s = .next (answered x.2 allotAllotted)) ∧
        ((∀ x ∈ l.shares, x.1 ≠ f.sender) → s.setBill.late < 65535 →
          exec (.claim f) s = .next (counted (answered 0 allotLate)))) ∧
      ((∀ l, s.setBill.last = some l → l.period ≠ period) → exec (.claim f) s = .next (answered 0 allotStale)))

/-- CLOSE at a BOARD, for an entry of the sender and the period: WAITING_CLOSE and CURRENT claim with C, the wait the
window plus 15 s, and a CURRENT one is followed by a new CURRENT entry, for which a full table evicts its oldest
WAITING_CLOSE entry, or else its oldest CLAIMED one; an entry without energy leaves; a CLAIMED one posts again on a
repeat (R160, R161, R162). Without such an entry a CLOSE that is no repeat binds the one unbound entry of the sender to
the period, two of them merged into the older, and acts on it; otherwise only the period heard is noted (R161). A SET
STATUS whose period is neither the one entry's nor the one before makes it claim in the same way with a wait of 75 s, a
CURRENT one followed by an entry for the period shown (R164). Where the following period has an entry already, a
WAITING_CLOSE one becomes CURRENT again, and beside a CLAIMED one the new entry opens unbound. Choices of the model
within it, the reopened entry marked incomer-lost while channel 0 is LOST (log 17) and the ACCOUNTS in force summed for a
retained entry (log 42) among them: logs 14, 17, 22, 39, 42, 44, 45. -/
def Obligations.CloseMakesTheBoardClaim : Prop :=
  (∀ (s : State) (f : RxFrame) (p1 p0 f3 f2 f1 f0 e3 e2 e1 e0 w a : Byte) (rest : List Byte), s.Takes f →
    s.image.role = some .board →
    f.body = p1 :: p0 :: f3 :: f2 :: f1 :: f0 :: e3 :: e2 :: e1 :: e0 :: w :: a :: rest → rd2 p1 p0 ≠ 0 →
    let period := rd2 p1 p0
    let u := s.heard f
    let named : Prop := f.sender ≠ 0 ∧ (s.image.setAt 1 = f.sender ∨ s.image.setAt 2 = f.sender ∨ s.image.setAt 3 = f.sender)
    let bill := fun (t : List Entry) (b : BoardSettlement) => b.table = t ∧ b.unattributed = s.boardBill.unattributed ∧
      (named → (b.lastClosed.find? (fun x => x.1 == f.sender)) = some (f.sender, period)) ∧
      (¬ named → b.lastClosed = s.boardBill.lastClosed)
    let unbound := fun (x : Entry) => x.set = f.sender ∧ x.period = 0 ∧ x.state ≠ .claimed
    (∀ n e, placeOf s.boardBill.table f.sender period = some n → s.boardBill.table[n]? = some e →
      let c := if e.incomerLost then max e.incomer (sumOf (e.wh.take s.image.accountCount)) else e.incomer
      let claimed := { e with
        state := .claimed, claim := some c, attempt := some 1, wait := 0, waitLength := w.toNat + 15 }
      (e.state = .waitingClose →
        (hasEnergy s.image e = true → ∃ b, bill (s.boardBill.table.set n claimed) b ∧
          exec (.close f) s = .next (post { u with boardBill := b } e.set (.claim e.period c 1))) ∧
        (hasEnergy s.image e = false → ∃ b, bill (s.boardBill.table.eraseIdx n) b ∧
          exec (.close f) s = .next { u with boardBill := b })) ∧
      (e.state = .current →
        let next : Entry :=
          { set := e.set, pos := e.pos, period := nextNumber 65535 period, state := .current, incomer := 0,
            wh := List.replicate 12 0, peaks := List.replicate 12 0, incomerLost := (s.channel 0).state == .lost,
            unmetered := 0, openedAt := s.stationSeconds, age := 0, claim := none, attempt := none, wait := 0,
            waitLength := 0 }
        let full := s.boardBill.table.set n claimed
        let v := post u e.set (.claim e.period c 1)
        let fresh : Prop := ∀ y ∈ s.boardBill.table, y.set = e.set → y.period ≠ next.period
        (fresh → hasEnergy s.image e = true → s.boardBill.table.length < tableCap →
          ∃ b, bill (full ++ [next]) b ∧ exec (.close f) s = .next { v with boardBill := b }) ∧
        (fresh → hasEnergy s.image e = false → s.boardBill.table.length ≤ tableCap →
          ∃ b, bill (s.boardBill.table.eraseIdx n ++ [next]) b ∧ exec (.close f) s = .next { u with boardBill := b }) ∧
        (∀ m y, hasEnergy s.image e = true → full[m]? = some y → y.set = e.set → y.period = next.period →
          (∀ k z, k ≠ m → full[k]? = some z → z.set ≠ e.set ∨ z.period ≠ next.period) →
          (y.state = .waitingClose →
            ∃ b, bill (full.set m { y with
                state := .current, pos := e.pos, age := 0
                incomerLost := y.incomerLost || (s.channel 0).state == .lost }) b ∧
              exec (.close f) s = .next { v with boardBill := b }) ∧
          (y.state = .claimed → s.boardBill.table.length < tableCap →
            ∃ b, bill (full ++ [{ next with period := 0 }]) b ∧ exec (.close f) s = .next { v with boardBill := b })) ∧
        (∀ m x, fresh → hasEnergy s.image e = true → tableCap ≤ s.boardBill.table.length → full[m]? = some x →
          (x.state = .waitingClose ∧ ∀ y ∈ full.take m, y.state ≠ .waitingClose) ∨
            (x.state = .claimed ∧ (∀ y ∈ full, y.state ≠ .waitingClose) ∧ ∀ y ∈ full.take m, y.state ≠ .claimed) →
          ∃ b, bill (full.eraseIdx m ++ [next]) b ∧
            (hasEnergy s.image x = false → exec (.close f) s = .next { v with boardBill := b }) ∧
            (hasEnergy s.image x = true → exec (.close f) s = .next { v with
              boardBill := { b with unattributed := 0 }
              records := appendTo v.records s.stationSeconds s.powerUps (.settleBoard
                { set := x.set, period := x.period, outcome := .evicted, claim := x.claim.getD (claimValue s.image x),
                  allotted := none, unmetered := x.unmetered, unattributed := s.boardBill.unattributed,
                  lines := accountLines s.image x none }) }))) ∧
      (e.state = .claimed →
        (a.toNat = 1 → ∃ b,
          bill (s.boardBill.table.set n { e with attempt := some 1, wait := 0, waitLength := w.toNat + 15 }) b ∧
          exec (.close f) s = .next (post { u with boardBill := b } e.set (.claim e.period (e.claim.getD 0) 1))) ∧
        (a.toNat ≠ 1 → ∃ b, bill s.boardBill.table b ∧ exec (.close f) s = .next { u with boardBill := b }))) ∧
    ((∀ e ∈ s.boardBill.table, e.set = f.sender → e.period ≠ period ∧ e.period ≠ 0) →
      ∃ b free, bill s.boardBill.table b ∧ exec (.close f) s = .next { u with boardBill := b, free := free }) ∧
    ((∀ e ∈ s.boardBill.table, e.set = f.sender → e.period ≠ period) →
      let bound := fun (t : List Entry) =>
        exec (.close f) { s with boardBill := { s.boardBill with table := t }, free := s.free + 1 }
      (a.toNat ≠ 0 → ∃ b, bill s.boardBill.table b ∧ exec (.close f) s = .next { u with boardBill := b }) ∧
      (∀ before e after, a.toNat = 0 → s.boardBill.table = before ++ e :: after → unbound e →
        (∀ x ∈ before ++ after, ¬ unbound x) →
        exec (.close f) s = bound (before ++ { e with period := period } :: after)) ∧
      (∀ before o between y after, a.toNat = 0 → s.boardBill.table = before ++ o :: (between ++ y :: after) →
        unbound o → unbound y → (∀ x ∈ before ++ between ++ after, ¬ unbound x) → o.unmetered + y.unmetered < two32 →
        exec (.close f) s = bound (before ++
          { o with
              period := period
              incomer := min 4294967295 (o.incomer + y.incomer)
              wh := List.zipWith (fun m n => min 4294967295 (m + n)) o.wh y.wh
              peaks := List.zipWith max o.peaks y.peaks
              unmetered := o.unmetered + y.unmetered
              incomerLost := o.incomerLost || y.incomerLost
              state := if y.state = .current then .current else o.state
              pos := if y.state = .current then y.pos else o.pos } :: (between ++ after))))) ∧
  ∀ (s : State) (f : RxFrame) (own : Nat) (x : SetStatus), s.awake = true → s.follows = true → frameSound f = true →
    s.runs .board = true → s.image.station = some own → own ≠ f.sender → parseStatus f.body = some (.set x) →
    s.chg.state ≠ .waiting → (s.chg.state = .idle → x.duty ≠ dutyCode .unloading ∧ s.chg.dryNote = none) →
    let u := showPeer (endReception s) f.sender (some (.set x))
    let billed := fun (w : State) (t : List Entry) => { w with boardBill := { s.boardBill with table := t } }
    let closed := fun (e : Entry) => e.set = f.sender ∧ e.period ≠ 0 ∧ e.state ≠ .claimed ∧ x.period ≠ e.period ∧
      x.period ≠ (if e.period = 1 then 65535 else e.period - 1)
    ((∀ e ∈ s.boardBill.table, ¬ closed e) → exec (.status f) s = .next u) ∧
    ∀ n e, s.boardBill.table[n]? = some e → closed e →
      (∀ m y, m ≠ n → s.boardBill.table[m]? = some y → ¬ closed y ∧ (y.set ≠ e.set ∨ y.period ≠ e.period)) →
      let c := if e.incomerLost then max e.incomer (sumOf (e.wh.take s.image.accountCount)) else e.incomer
      let full := s.boardBill.table.set n
        { e with state := .claimed, claim := some c, attempt := some 1, wait := 0, waitLength := 75 }
      let v := post u e.set (.claim e.period c 1)
      (e.state = .waitingClose → hasEnergy s.image e = true → exec (.status f) s = .next (billed v full)) ∧
      (e.state = .waitingClose → hasEnergy s.image e = false →
        exec (.status f) s = .next (billed u (s.boardBill.table.eraseIdx n))) ∧
      (e.state = .current → hasEnergy s.image e = true → s.boardBill.table.length < tableCap →
        (∀ y ∈ s.boardBill.table, y.set = e.set → y.period ≠ x.period) →
        exec (.status f) s = .next (billed v (full ++
          [{ set := e.set, pos := e.pos, period := x.period, state := .current, incomer := 0,
             wh := List.replicate 12 0, peaks := List.replicate 12 0, incomerLost := (s.channel 0).state == .lost,
             unmetered := 0, openedAt := s.stationSeconds, age := 0, claim := none, attempt := none, wait := 0,
             waitLength := 0 }])))

/-- A CLAIMED entry ends: ALLOT ALLOTTED with its fuel, LATE, STALE or FULL without, each in a SETTLE_BOARD record, and
any other ALLOT is ignored; its wait running out posts attempt 2, and after that it lapses; so does an entry that waits
7,200 s for its CLOSE; an expiry before its time changes nothing (R163, R164, R165, R167). Choices of the model within it,
the accounts of a retained entry (log 42) among them: logs 1, 42. -/
def Obligations.ClaimedEntriesEndInARecord : Prop :=
  ∀ s : State,
    (∀ (f : RxFrame) (p1 p0 f3 f2 f1 f0 o : Byte) (rest : List Byte), s.Takes f → s.image.role = some .board →
      f.body = p1 :: p0 :: f3 :: f2 :: f1 :: f0 :: o :: rest →
      (∀ x ∈ s.boardBill.table, x.set = f.sender → x.period = rd2 p1 p0 → x.state ≠ .claimed) →
      exec (.allot f) s = .next (s.heard f)) ∧
    ∀ (n : Nat) (e : Entry), s.boardBill.table[n]? = some e →
      let left := fun (u : State) (o : SettleOutcome) (fuel : Option Nat) =>
        let bill := { s.boardBill with table := s.boardBill.table.eraseIdx n }
        if hasEnergy s.image e then
          { u with
              boardBill := { bill with unattributed := 0 }
              records := appendTo s.records s.stationSeconds s.powerUps (.settleBoard
                { set := e.set, period := e.period, outcome := o, claim := e.claim.getD (claimValue s.image e),
                  allotted := fuel, unmetered := e.unmetered, unattributed := s.boardBill.unattributed,
                  lines := accountLines s.image e fuel }) }
        else { u with boardBill := bill }
      (∀ (f : RxFrame) (p1 p0 f3 f2 f1 f0 o : Byte) (rest : List Byte), s.Takes f → s.image.role = some .board →
        f.body = p1 :: p0 :: f3 :: f2 :: f1 :: f0 :: o :: rest →
        claimedPlace s.boardBill.table f.sender (rd2 p1 p0) = some n →
        (o.toNat = allotAllotted → exec (.allot f) s = .next (left (s.heard f) .allotted (some (rd4 f3 f2 f1 f0)))) ∧
        (o.toNat = allotLate → exec (.allot f) s = .next (left (s.heard f) .late none)) ∧
        (o.toNat = allotStale → exec (.allot f) s = .next (left (s.heard f) .stale none)) ∧
        (o.toNat = allotFull → exec (.allot f) s = .next (left (s.heard f) .full none)) ∧
        (3 < o.toNat → exec (.allot f) s = .next (s.heard f))) ∧
      (s.awake = true → s.runs .board = true →
        (e.state = .claimed → e.waitLength ≤ e.wait →
          (e.attempt = some 1 → exec (.claimWaitExpiry n) s = .next (post
            { s with
                boardBill := { s.boardBill with
                  table := s.boardBill.table.set n { e with attempt := some 2, wait := 0, waitLength := 15 } } }
            e.set (.claim e.period (e.claim.getD 0) 2))) ∧
          (e.attempt = some 2 → exec (.claimWaitExpiry n) s = .next (left s .lapsed none))) ∧
        (e.state ≠ .claimed ∨ e.wait < e.waitLength → exec (.claimWaitExpiry n) s = .next s) ∧
        (e.state = .waitingClose → 7200 ≤ e.age → exec (.waitingCloseLapse n) s = .next (left s .lapsed none)) ∧
        (e.state ≠ .waitingClose ∨ e.age < 7200 → exec (.waitingCloseLapse n) s = .next s))

/-- In a SETTLE_BOARD record with fuel A the account shares, house included, sum to A; the house's energy is C less the
accounts'; with any energy each share is A times its energy over their sum, rounded down, the largest, and of equal ones
the lowest, taking the remainder; with none the house takes all (R166). Which accounts a retained entry has is the model's
choice: the ACCOUNTS in force (log 42). -/
def Obligations.AccountSharesSumToTheAllotment : Prop :=
  (∀ (s : State) (e : Entry) (a : Nat),
    let accounts := e.wh.take s.image.accountCount
    let base := (e.claim.getD (claimValue s.image e) - sumOf accounts) :: accounts
    let lines := (settleBoardOf s e .allotted (some a)).lines
    sumOf (lines.map (fun l => l.fuel.getD 0)) = a ∧
    ∀ l ∈ lines, l.wh = base.getD l.account 0 ∧ l.fuel = some ((splitShares a base).getD l.account 0)) ∧
  ∀ (a : Nat) (whs : List Nat),
    (splitShares a whs).length = whs.length ∧
    (0 < sumOf whs → sumOf (splitShares a whs) = a ∧ ∃ k, k < whs.length ∧
      (∀ j, j < whs.length → whs.getD j 0 ≤ whs.getD k 0 ∧ (j < k → whs.getD j 0 < whs.getD k 0)) ∧
      ∀ j, j < whs.length → j ≠ k → (splitShares a whs).getD j 0 = a * whs.getD j 0 / sumOf whs) ∧
    (∀ house rest, whs = house :: rest → sumOf whs = 0 → splitShares a whs = a :: rest.map (fun _ => 0))

/-! ## The changeover of a BOARD -/

/-- DRY at a BOARD from the set that feeds its stage, FOLLOW_DRY yes: in IDLE a trigger, unless the dwell timer runs or
a DRY retry, and then, as in SEEKING and WAITING, the dry note; from the target of a moving switch the note too; from
any other set nothing. In SEEKING and WAITING a candidate's own DRY abandons it: RELEASE, and the next candidate or the
end ALL_REFUSED, the note set before where it is the feeding set's too (R102, R103, R104). The trigger fixes the load
estimate and asks the first candidate; with none it ends ALL_REFUSED (R96, R97, R100, R101, R102). The candidate list, of
this trigger and of every other but PLANNED, holds the positions of PREFERENCE that pass the tests of R101, those whose set
shows READY first, each group in PREFERENCE order; the next place is the first one past the cursor whose position passes
these tests as they then stand (R101, R103). Choices of the model within it: logs 27, 40. -/
def Obligations.DryFrameTriggersOrIsNoted : Prop :=
  (∀ (u : State) (estimate : Nat) (kept ready : Nat → Bool),
    (∀ pos, kept pos = true ↔ u.Candidate estimate pos) →
    (∀ pos, ready pos = true ↔ ∃ b, u.Hears pos b ∧ b.duty = dutyCode .ready) →
    candidateList u estimate = u.image.preferenceOrder.filter (fun pos => kept pos && ready pos) ++
      u.image.preferenceOrder.filter (fun pos => kept pos && !ready pos)) ∧
  (∀ (u : State) (a : Attempt),
    let passes := fun (n : Nat) =>
      a.cursor < n ∧ n < a.candidates.length ∧ u.Candidate a.estimate (a.candidates.getD n 0)
    (∀ n, nextPlace u a = some n ↔ passes n ∧ ∀ m, m < n → ¬ passes m) ∧
    (nextPlace u a = none ↔ ∀ n, ¬ passes n)) ∧
  ∀ (s : State) (f : RxFrame) (t1 t0 c1 c0 : Byte) (rest : List Byte), s.Takes f → s.image.role = some .board →
    f.body = t1 :: t0 :: c1 :: c0 :: rest →
    let u := s.heard f
    let feeding : Prop := s.closedPos ≠ 0 ∧ s.image.setAt s.closedPos = f.sender ∧ s.image.followsDry = true
    let held : Prop := s.chg.dwell ≠ none ∨ ∃ k, s.chg.retry = some (k, .dry)
    let noted := { u with chg := { s.chg with dryNote := some f.sender } }
    let taken := { s.chg with retry := none, dryNote := none }
    let estimate := if s.stageLive then s.output else s.chg.lastLive.getD s.image.stageLoad
    let ticket := nextNumber 255 s.chg.ticket
    (s.chg.state = .idle → ¬ feeding → exec (.dry f) s = .next u) ∧
    (s.chg.state = .idle → feeding → held → exec (.dry f) s = .next noted) ∧
    (s.chg.state = .idle → feeding → ¬ held →
      (∀ c more, candidateList u estimate = c :: more →
        exec (.dry f) s = .next (post
          { postStatus { u with chg := { taken with state := .seeking } } with
              chg := { taken with
                state := .seeking
                ticket := ticket
                attempt := some
                  { reason := .dry, fromPos := s.closedPos, oldPos := 0, estimate := estimate, candidates := c :: more,
                    cursor := 0, ticket := ticket, sends := 1, timer := 0, unfed := 0, owed := false, asked := c,
                    returning := false } } }
          (s.image.setAt c) (.take ticket estimate (reasonCode .dry)))) ∧
      (candidateList u estimate = [] → s.chg.quiet = some .dry →
        exec (.dry f) s = .next { u with chg := { taken with retry := some (0, .dry) } }) ∧
      (candidateList u estimate = [] → s.chg.quiet ≠ some .dry →
        exec (.dry f) s = .next
          { addRecord u (.changeover
              { ticket := 0, reason := .dry, fromPos := s.closedPos, fromSet := s.image.setAt s.closedPos, toPos := 0,
                toSet := 0, outcome := .allRefused, unfed := 0 }) with
            chg := { taken with retry := some (0, .dry), quiet := some .dry } })) ∧
    ∀ a, s.chg.attempt = some a →
      (s.chg.state = .seeking ∨ s.chg.state = .waiting → ∀ m, (feeding → m = noted) → (¬ feeding → m = u) →
        let retry := if a.reason = .planned then s.chg.retry else some (0, a.reason)
        (s.image.setAt a.target ≠ f.sender → exec (.dry f) s = .next m) ∧
        (s.image.setAt a.target = f.sender →
          let w := m.released a
          let v := if s.chg.state = .waiting then postStatus { w with chg := { w.chg with state := .seeking } } else w
          (∀ n, nextPlace u a = some n → exec (.dry f) s = .next (v.asking a n)) ∧
          (nextPlace u a = none → m.Calm retry s.chg.dwell →
            exec (.dry f) s = .next (w.ended { a with owed := false } .allRefused retry s.chg.dwell)))) ∧
      (s.chg.state = .breaking ∨ s.chg.state = .dead ∨ s.chg.state = .making →
        (s.image.setAt a.target = f.sender → s.image.followsDry = true → exec (.dry f) s = .next noted) ∧
        (s.image.setAt a.target ≠ f.sender ∨ s.image.followsDry = false → exec (.dry f) s = .next u))

/-- TAKE_REPLY at a BOARD acts only from the candidate's set with the attempt's ticket: GRANT opens the switch, or enters
DEAD where no position is closed, or where the candidate's own position is closed commits at once and ends DONE; PENDING
waits, REFUSE asks the next candidate, and after the last the attempt ends ALL_REFUSED; in any other state it is ignored
(R102, R103, R104, R105, R109, R110). The ends are those after which no test of R98 fires. -/
def Obligations.TakeReplyMovesTheAttempt : Prop :=
  ∀ (s : State) (f : RxFrame) (t v r h1 h0 hd : Byte) (rest : List Byte), s.Takes f → s.image.role = some .board →
    f.body = t :: v :: r :: h1 :: h0 :: hd :: rest →
    let u := s.heard f
    (s.chg.attempt = none → exec (.takeReply f) s = .next u) ∧
    ∀ a, s.chg.attempt = some a →
      let asking : Prop := s.chg.state = .seeking ∨ s.chg.state = .waiting
      let retry := if a.reason = .planned then s.chg.retry else some (0, a.reason)
      (f.sender ≠ s.image.setAt a.target ∨ t.toNat ≠ a.ticket ∨ ¬ asking → exec (.takeReply f) s = .next u) ∧
      (f.sender = s.image.setAt a.target → t.toNat = a.ticket →
        (asking → v.toNat = verdictGrant → s.closedPos ≠ 0 → s.closedPos ≠ a.target →
          exec (.takeReply f) s = .next (postStatus { u with
            chg := { s.chg with
              state := .breaking, cmd := some .openAll, held := 0
              attempt := some { a with owed := true, oldPos := s.closedPos } } })) ∧
        (asking → v.toNat = verdictGrant → s.closedPos = 0 →
          exec (.takeReply f) s = .next (postStatus { u with
            chg := { s.chg with
              state := .dead, attempt := some { a with owed := true, oldPos := 0, timer := 0 } } })) ∧
        (s.chg.state = .seeking → v.toNat = verdictPending →
          exec (.takeReply f) s = .next (postStatus { u with
            chg := { s.chg with state := .waiting, attempt := some { a with owed := true, timer := 0 } } })) ∧
        (s.chg.state = .waiting → v.toNat = verdictPending → exec (.takeReply f) s = .next u) ∧
        (asking → 2 < v.toNat → exec (.takeReply f) s = .next u) ∧
        (asking → v.toNat = verdictGrant → s.closedPos ≠ 0 → s.closedPos = a.target → u.Calm s.chg.retry (some 0) →
          let b := { a with owed := true, oldPos := 0 }
          let c := postStatus { u with chg := { s.chg with state := .committing, attempt := some b } }
          exec (.takeReply f) s = .next ((post c f.sender
            (.commit a.ticket (s.chg.lastLive.getD a.estimate))).ended b .done s.chg.retry (some 0))) ∧
        (∀ n, asking → v.toNat = verdictRefuse → nextPlace u a = some n →
          let w := if s.chg.state = .waiting then postStatus { u with chg := { s.chg with state := .seeking } } else u
          exec (.takeReply f) s = .next (w.asking a n)) ∧
        (asking → v.toNat = verdictRefuse → nextPlace u a = none → u.Calm retry s.chg.dwell →
          exec (.takeReply f) s = .next (u.ended { a with owed := false } .allRefused retry s.chg.dwell)))

/-- TAKE_RESEND at 2 s posts the TAKE again, once; at the second 2 s, and at WAITING_TIMEOUT after 180 s, the
candidate draws a RELEASE and the next one a TAKE of a new ticket; after the last candidate the attempt ends ALL_REFUSED in
IDLE, with its record and, unless it was PLANNED, the retry timer from 0 (R99, R102, R103, R104, R112). In WAITING a STATUS
of the candidate's set that shows FAULT does the same, and any other SET STATUS leaves the attempt as it is; the
settlement unit takes the STATUS after the controller (R29, R104). The ends are those after which no test of R98 fires.
Choices of the model within it: logs 1, 39. -/
def Obligations.CandidatesAreAskedInTurn : Prop :=
  ∀ (s : State) (a : Attempt), s.awake = true → s.runs .board = true → s.chg.attempt = some a →
    let released := s.released a
    let retry := if a.reason = .planned then s.chg.retry else some (0, a.reason)
    let refused := released.ended { a with owed := false } .allRefused retry s.chg.dwell
    (s.chg.state = .seeking → 2 ≤ a.timer → a.sends = 1 →
      exec .takeResend s = .next (post
        { s with chg := { s.chg with attempt := some { a with sends := 2, timer := 0 } } }
        (s.image.setAt a.target) (.take a.ticket a.estimate (reasonCode a.reason)))) ∧
    (∀ n, s.chg.state = .seeking → 2 ≤ a.timer → a.sends = 2 → nextPlace s a = some n →
      exec .takeResend s = .next (released.asking a n)) ∧
    (s.chg.state = .seeking → 2 ≤ a.timer → a.sends = 2 → nextPlace s a = none → s.Calm retry s.chg.dwell →
      exec .takeResend s = .next refused) ∧
    (s.chg.state ≠ .seeking ∨ a.timer < 2 → exec .takeResend s = .next s) ∧
    (∀ n, s.chg.state = .waiting → 180 ≤ a.timer → nextPlace s a = some n →
      exec .waitingTimeout s =
        .next ((postStatus { released with chg := { released.chg with state := .seeking } }).asking a n)) ∧
    (s.chg.state = .waiting → 180 ≤ a.timer → nextPlace s a = none → s.Calm retry s.chg.dwell →
      exec .waitingTimeout s = .next refused) ∧
    (s.chg.state ≠ .waiting ∨ a.timer < 180 → exec .waitingTimeout s = .next s) ∧
    ∀ (f : RxFrame) (own : Nat) (x : SetStatus), s.follows = true → frameSound f = true →
      s.image.station = some own → own ≠ f.sender → parseStatus f.body = some (.set x) → s.chg.state = .waiting →
      let u := showPeer (endReception s) f.sender (some (.set x))
      let freed := u.released a
      let answers := fun (v : State) =>
        exec (.status f) s = .next (billStatus v f.sender x.period) ∧
          (s.ClosesNone f.sender x.period → exec (.status f) s = .next v)
      (s.image.setAt a.target ≠ f.sender ∨ x.faultFlag = false → answers u) ∧
      (s.image.setAt a.target = f.sender → x.faultFlag = true →
        (∀ n, nextPlace u a = some n →
          answers ((postStatus { freed with chg := { freed.chg with state := .seeking } }).asking a n)) ∧
        (nextPlace u a = none → u.Calm retry s.chg.dwell →
          answers (freed.ended { a with owed := false } .allRefused retry s.chg.dwell)))

/-- The switch moves in its order: the old feedback gone, OPEN is released and DEAD entered; DEAD_TIME over on a live
target, CLOSE is issued with no feedback present; the target's feedback seen, COMMIT and LEFT are posted and the attempt
ends DONE (R93, R105, R106, R108, R109, R112, R159). A target that has not come up is released, and the old position, live
and its set READY, is closed again, the attempt ending RETURNED at its feedback without COMMIT or LEFT; otherwise it ends
TARGET_DEAD with the retry timer on RESTORE (R107). DEAD_TIME_EXPIRY before its time changes nothing. Choices of the model
within it: log 1. -/
def Obligations.SwitchMovesInItsOrder : Prop :=
  ∀ (s : State) (a : Attempt), s.awake = true → s.runs .board = true → s.inputs.length = 6 → s.chg.attempt = some a →
    (∀ pos, s.chg.state = .breaking → s.closedList = [pos] →
      exec (.closedFeedbackChange pos false) s = .next (postStatus { s with
        inputs := s.inputs.set (pos - 1) false
        boardBill := { s.boardBill with
          table :=
            if s.boardBill.table.any (fun e => e.state == .current && e.pos == pos) then
              s.boardBill.table.map (fun e => if e.state = .current then { e with state := .waitingClose, age := 0 } else e)
            else s.boardBill.table }
        chg := { s.chg with cmd := none, held := 0, state := .dead, attempt := some { a with timer := 0 } } })) ∧
    (s.chg.state = .dead → s.image.deadSeconds ≤ a.timer → s.liveAt a.target = .live → s.closedList = [] →
      s.chg.cmd = none →
      exec .deadTimeExpiry s = .next
        { postStatus { s with
            chg := { s.chg with state := .making, attempt := some { a with returning := false } } } with
          chg := { s.chg with
            state := .making, attempt := some { a with returning := false }, cmd := some (.closeTo a.target)
            held := 0 } }) ∧
    (s.chg.state ≠ .dead ∨ a.timer < s.image.deadSeconds → exec .deadTimeExpiry s = .next s) ∧
    (s.chg.state = .dead → s.image.deadSeconds ≤ a.timer → s.liveAt a.target ≠ .live → s.closedList = [] →
      let w := s.released a
      let returns : Prop := a.oldPos ≠ 0 ∧ s.liveAt a.oldPos = .live ∧
        ∃ b, s.freshSet (s.image.setAt a.oldPos) = some b ∧ b.duty = dutyCode .ready
      (returns → s.chg.cmd = none →
        let making := { s.chg with state := .making, attempt := some { a with owed := false, returning := true } }
        exec .deadTimeExpiry s = .next
          { postStatus { w with chg := making } with
              chg := { making with cmd := some (.closeTo a.oldPos), held := 0 } }) ∧
      (¬ returns → s.chg.dryNote = none →
        exec .deadTimeExpiry s =
          .next (w.ended { a with owed := false } .targetDead (some (0, .restore)) s.chg.dwell))) ∧
    (s.chg.state = .making → s.chg.cmd = some (.closeTo a.oldPos) → s.closedList = [] → a.returning = true →
      a.oldPos = 1 ∨ a.oldPos = 2 ∨ a.oldPos = 3 → s.liveAt a.oldPos = .live → s.chg.dryNote = none →
      (∀ b, s.setStatusOf (s.image.setAt a.oldPos) = some b → b.duty ≠ dutyCode .unloading) →
      s.boardBill.table.length < tableCap →
      ∃ t, exec (.closedFeedbackChange a.oldPos true) s = .next t ∧ t.closedList = [a.oldPos] ∧
        t.chg = { s.chg with
          state := .idle, cmd := none, held := 0, attempt := none, dwell := some 0
          quiet := if a.asked = 0 then s.chg.quiet else none } ∧
        (∀ g ∈ t.line.queue, g ∈ s.line.queue ∨ g.isStatus = true) ∧ hasCurrent t.boardBill.table = true ∧
        t.records = (s.recordOf a .returned).records) ∧
    (∀ b, s.chg.state = .making → s.chg.cmd = some (.closeTo a.target) → s.closedList = [] → a.returning = false →
      a.target = 1 ∨ a.target = 2 ∨ a.target = 3 → s.liveAt a.target = .live → s.chg.dryNote = none →
      s.setStatusOf (s.image.setAt a.target) = some b → b.duty ≠ dutyCode .unloading → s.line.queue.length ≤ 4 →
      s.boardBill.table.length < tableCap → s.posts = true →
      ∃ t, exec (.closedFeedbackChange a.target true) s = .next t ∧ t.closedList = [a.target] ∧
        t.chg = { s.chg with
          state := .idle, cmd := none, held := 0, attempt := none, dwell := some 0
          quiet := if a.asked = 0 then s.chg.quiet else none } ∧
        newFrame (s.image.setAt a.target) (.commit a.ticket (s.chg.lastLive.getD a.estimate)) ∈ t.line.queue ∧
        (a.oldPos ≠ 0 → s.image.setAt a.oldPos ≠ 0 →
          newFrame (s.image.setAt a.oldPos) (.left a.ticket) ∈ t.line.queue) ∧
        hasCurrent t.boardBill.table = true ∧
        t.records = appendTo s.records s.stationSeconds s.powerUps (.changeover
          { ticket := a.ticket, reason := a.reason, fromPos := a.fromPos, fromSet := s.image.setAt a.fromPos,
            toPos := a.asked, toSet := s.image.setAt a.asked, outcome := .done, unfed := a.unfed }))

/-- SWITCH_COMMAND_TIMEOUT: a command held 3 s without its movement is released; OPEN in BREAKING takes the switch fault
NO_OPEN, CLOSE in MAKING NO_CLOSE, with a RELEASE where one is owed, both records, and LOCKED. A second feedback takes
TWO_CLOSED outside LOCKED, with an attempt or without; a feedback other than the one being closed WRONG_POSITION in
MAKING; one that appears in DEAD, or in MAKING with no command held, UNCOMMANDED (R93, R94). Choices of the model within
it: log 1. -/
def Obligations.FailedMovementLocksTheBoard : Prop :=
  ∀ s : State, s.awake = true → s.runs .board = true →
    (s.chg.cmd = none ∨ s.chg.held < 3 → exec .switchCommandTimeout s = .next s) ∧
    (∀ cause : SwitchFault, s.chg.attempt ≠ none → 3 ≤ s.chg.held →
      (s.chg.cmd = some .openAll ∧ s.chg.state = .breaking ∧ cause = .noOpen) ∨
        ((∃ pos, s.chg.cmd = some (.closeTo pos)) ∧ s.chg.state = .making ∧ cause = .noClose) →
      exec .switchCommandTimeout s = .next (s.lockedBy cause)) ∧
    ∀ (pos : Nat) (cause : SwitchFault), 1 ≤ pos → pos ≤ 3 → s.inputs.length = 6 →
      s.boardBill.table.length < tableCap →
      (s.chg.state ≠ .locked ∧ (∃ q, q ≠ pos ∧ s.closedList = [q]) ∧ cause = .twoClosed) ∨
        (s.closedList = [] ∧ s.chg.attempt ≠ none ∧
          ((s.chg.state = .making ∧ (∃ n, n ≠ pos ∧ s.chg.cmd = some (.closeTo n)) ∧ cause = .wrongPosition) ∨
            ((s.chg.state = .dead ∨ (s.chg.state = .making ∧ s.chg.cmd = none)) ∧ cause = .uncommanded))) →
      ∃ bill, exec (.closedFeedbackChange pos true) s =
          .next ({ s with inputs := s.inputs.set (pos - 1) true, boardBill := bill }.lockedBy cause) ∧
        hasCurrent bill.table = true ∧ bill.unattributed = s.boardBill.unattributed ∧
        bill.lastClosed = s.boardBill.lastClosed

/-- LIVE_STATE_CHANGE sets the live state; a closed position turned NOT_LIVE in IDLE takes the DEAD trigger where no
DEAD retry runs. DWELL_TIMER_EXPIRY tests the dry note, RETRY_TIMER_EXPIRY the triggers, each stopping its timer (R92,
R97, R98, R99). While a DRY retry runs a note that still holds stands, and at its end the feeding set's DRY flag is the
trigger; a dwell expiry outside IDLE, LOCKED included, leaves the note untested (log 54); a dwell or retry expiry before
its time changes nothing. CLOSED_FEEDBACK_CHANGE in IDLE, SEEKING, WAITING and LOCKED is followed (R91): a feedback that
appears, in LOCKED beside others too, makes an entry CURRENT for its set; one that goes ends the entry CURRENT at its
position, and in LOCKED the lowest one that stays takes an entry over; at any other position no entry changes (R158,
R159). In IDLE the last feedback gone takes the RESTORE trigger where AUTO_RESTORE is yes and no RESTORE retry runs, and
otherwise tests the dry note, while one that appears tests nothing. In UNCONFIGURED the level alone changes. A SET
STATUS from the feeding set in IDLE takes the UNLOAD trigger where it shows UNLOADING and no UNLOAD retry runs, and
otherwise tests the dry note; from another set, or outside IDLE and WAITING, it changes nothing in the controller (R98).
The settlement unit takes the STATUS after it (R29). Choices of the model within it: logs 1, 17, 23, 27, 39, 42, 45, 53,
54. -/
def Obligations.LiveStatesAndTimersTrigger : Prop :=
  ∀ s : State, s.awake = true →
    (∀ pos level, 1 ≤ pos → pos ≤ 3 →
      let turned : LiveState := if level then .live else .notLive
      let t := { s with
        inputs := s.inputs.set (pos + 2) level, chg := { s.chg with live := s.chg.live.set (pos - 1) turned } }
      (level = true ∨ s.runs .board = false ∨ s.closedPos ≠ pos ∨ s.chg.state ≠ .idle →
        exec (.liveStateChange pos level) s = .next t) ∧
      (level = false → s.runs .board = true → s.closedPos = pos → s.chg.state = .idle → s.liveAt pos ≠ .notLive →
        s.chg.live.length = 3 → s.inputs.length = 6 → (∀ k, s.chg.retry ≠ some (k, .dead)) →
        exec (.liveStateChange pos level) s = .next (beginAttempt t .dead (candidateList t (loadEstimate t))))) ∧
    (∀ n, s.runs .board = true → s.chg.dwell = some n →
      let t := { s with chg := { s.chg with dwell := none } }
      (n < 60 → exec .dwellTimerExpiry s = .next s) ∧
      (60 ≤ n → s.chg.state ≠ .idle ∨ s.chg.dryNote = none → exec .dwellTimerExpiry s = .next t) ∧
      (∀ set, 60 ≤ n → s.chg.state = .idle → s.chg.dryNote = some set → (∀ k, s.chg.retry ≠ some (k, .dry)) →
        set = s.feedingSet → s.feedingStatus.any SetStatus.dryFlag = true →
        exec .dwellTimerExpiry s = .next (beginAttempt t .dry (candidateList t (loadEstimate t)))) ∧
      (∀ set, 60 ≤ n → s.chg.state = .idle → s.chg.dryNote = some set →
        (set = s.feedingSet → s.feedingStatus.any SetStatus.dryFlag = true → (∃ k, s.chg.retry = some (k, .dry)) →
          exec .dwellTimerExpiry s = .next t) ∧
        (set ≠ s.feedingSet ∨ s.feedingStatus.any SetStatus.dryFlag = false →
          exec .dwellTimerExpiry s = .next { t with chg := { t.chg with dryNote := none } }))) ∧
    (∀ n r, s.runs .board = true → s.chg.retry = some (n, r) →
      let t := { s with chg := { s.chg with retry := none } }
      (n < s.image.retryTime → exec .retryTimerExpiry s = .next s) ∧
      (s.image.retryTime ≤ n → s.chg.state ≠ .idle → exec .retryTimerExpiry s = .next t) ∧
      (s.image.retryTime ≤ n → s.chg.state = .idle →
        (deadTest s = true → exec .retryTimerExpiry s = .next (beginAttempt t .dead (candidateList t (loadEstimate t)))) ∧
        (s.closedList = [] → s.image.restores = true →
          exec .retryTimerExpiry s = .next (beginAttempt t .restore (candidateList t (loadEstimate t)))) ∧
        (deadTest s = false → s.closedList ≠ [] → unloadingTest s = true →
          exec .retryTimerExpiry s = .next (beginAttempt t .unload (candidateList t (loadEstimate t)))) ∧
        (deadTest s = false → restoreTest s = false → unloadingTest s = false → r = .dry →
          s.feedingStatus.any SetStatus.dryFlag = true →
          exec .retryTimerExpiry s = .next (beginAttempt t .dry (candidateList t (loadEstimate t)))) ∧
        (deadTest s = false → restoreTest s = false → unloadingTest s = false → s.chg.dryNote = none →
          r ≠ .dry ∨ s.feedingStatus.any SetStatus.dryFlag = false → exec .retryTimerExpiry s = .next t))) ∧
    (∀ pos, 1 ≤ pos → pos ≤ 3 → s.inputs.length = 6 →
      let changed := fun (u : State) (level : Bool) => { u with inputs := s.inputs.set (pos - 1) level }
      let asks : Prop := s.chg.state = .seeking ∨ s.chg.state = .waiting
      let atPos : Prop := ∃ e ∈ s.boardBill.table, e.state = .current ∧ e.pos = pos
      let left := fun (e : Entry) => if e.state = .current then { e with state := .waitingClose, age := 0 } else e
      (∀ level, s.station = .unconfigured → s.input pos ≠ level →
        exec (.closedFeedbackChange pos level) s = .next (changed s level)) ∧
      (∀ u, s.runs .board = true → s.input pos = false →
        s.chg.state = .locked ∨ ((s.chg.state = .idle ∨ asks) ∧ s.closedList = []) → s.Opened pos u →
        exec (.closedFeedbackChange pos true) s = .next (changed u true)) ∧
      (∀ w, s.runs .board = true → s.closedList = [pos] →
        (atPos ∧ w = changed { s with boardBill := { s.boardBill with table := s.boardBill.table.map left } } false) ∨
          (¬ atPos ∧ w = changed s false) →
        (asks ∨ s.chg.state = .locked → exec (.closedFeedbackChange pos false) s = .next w) ∧
        (s.chg.state = .idle →
          let held : Prop := ∃ k, s.chg.retry = some (k, .restore)
          (s.image.restores = true → ¬ held → exec (.closedFeedbackChange pos false) s =
            .next (beginAttempt w .restore (candidateList w (loadEstimate w)))) ∧
          (s.image.restores = false ∨ held →
            (s.chg.dryNote = none ∨ s.chg.dwell ≠ none → exec (.closedFeedbackChange pos false) s = .next w) ∧
            (s.chg.dryNote ≠ none → s.chg.dwell = none → exec (.closedFeedbackChange pos false) s =
              .next { w with chg := { s.chg with dryNote := none } })))) ∧
      (∀ n others, s.runs .board = true → s.chg.state = .locked → s.input pos = true →
        s.closedList.filter (fun q => q != pos) = n :: others →
        (∀ u, atPos → s.Opened n u → exec (.closedFeedbackChange pos false) s = .next (changed u false)) ∧
        (¬ atPos → exec (.closedFeedbackChange pos false) s = .next (changed s false)))) ∧
    ∀ (f : RxFrame) (own : Nat) (x : SetStatus), s.runs .board = true → s.follows = true → frameSound f = true →
      s.image.station = some own → own ≠ f.sender → parseStatus f.body = some (.set x) →
      let u := showPeer (endReception s) f.sender (some (.set x))
      let answers := fun (v : State) =>
        exec (.status f) s = .next (billStatus v f.sender x.period) ∧
          (s.ClosesNone f.sender x.period → exec (.status f) s = .next v)
      let feeding : Prop := s.closedPos ≠ 0 ∧ s.image.setAt s.closedPos = f.sender
      let unloads : Prop := x.duty = dutyCode .unloading ∧ ∀ k, s.chg.retry ≠ some (k, .unload)
      let begun := fun (r : Reason) => beginAttempt u r (candidateList u (loadEstimate u))
      (s.chg.state ≠ .idle → s.chg.state ≠ .waiting → answers u) ∧
      (s.chg.state = .idle → ¬ feeding → answers u) ∧
      (s.chg.state = .idle → feeding → unloads → answers (begun .unload)) ∧
      (s.chg.state = .idle → feeding → ¬ unloads →
        (s.chg.dryNote = none ∨ s.chg.dwell ≠ none → answers u) ∧
        (∀ n, s.chg.dryNote = some n → s.chg.dwell = none →
          (n = f.sender → x.dryFlag = true →
            ((∃ k, s.chg.retry = some (k, .dry)) → answers u) ∧
            ((∀ k, s.chg.retry ≠ some (k, .dry)) → answers (begun .dry))) ∧
          (n ≠ f.sender ∨ x.dryFlag = false →
            answers { u with chg := { s.chg with dryNote := none } })))

/-! ## Metering -/

/-- A reading for a channel in use (R36, R38, R40, R43): one stamp on, its second is metered; k on, at most five missing
seconds are filled with the last power and the rest unmetered, no watt-second lost; the same stamp again, nothing; from
NO_DATA the window fills with the reading. From LOST it does so too, no gap filled, and the loss is over: a BOARD records
FAULT_CLEARED, in a SET METER_LOST goes. A BOARD's CURRENT entry takes the whole Wh as its incomer's or as the account's,
the account's peak, and the seconds left unmetered; without a CURRENT entry the incomer's Wh are unattributed (R37, R39,
R44, R157). It speaks of readings that begin while the meter link waits. -/
def Obligations.ReadingsAreMeteredInStampOrder : Prop :=
  ∀ (s : State) (n : Nat) (ch stamp p3 p2 p1 p0 check : Byte), s.awake = true → s.inUse n = true → n ≤ 12 →
    n < s.meter.channels.length → s.meter.link = [] → s.meter.linkOld = false → ch.toNat = n →
    ch + stamp + p3 + p2 + p1 + p0 + check = 0#8 →
    let p := min 2000000 (signed32 (rd4 p3 p2 p1 p0)).toNat
    let reading := Instr.meterReading [165#8, ch, stamp, p3, p2, p1, p0, check]
    let c := s.channel n
    let handed := fun (t : State) => (s.runs .board = false → t.boardBill = s.boardBill) ∧
      (s.runs .board = true → t.boardBill = s.boardBill.handed n ((c.ws + p) / 3600) p 0)
    (∀ last, (c.state = .active ∨ c.state = .stalled) → c.stamp = some last →
      (stamp.toNat = last → exec reading s = .next s) ∧
      (stamp.toNat = (last + 1) % 256 → last < 256 →
        ∃ t, exec reading s = .next t ∧ t = { s with meter := t.meter, boardBill := t.boardBill } ∧ handed t ∧
          t.channel n = { c with
            state := .active, stamp := some stamp.toNat, power := some p, silence := 0, ws := (c.ws + p) % 3600
            wh := (c.wh + (c.ws + p) / 3600) % two32, window := c.window.drop 1 ++ [p], peak := max c.peak p } ∧
          (∀ m, m ≠ n → t.channel m = s.channel m) ∧ t.meter.linkErrors = s.meter.linkErrors) ∧
      (∀ k v, k = (stamp.toNat + 256 - last) % 256 → 1 ≤ k → c.power = some v → c.unmetered + k < two32 →
        let metered := min 5 (k - 1) * v + p
        ∃ t, exec reading s = .next t ∧
          (t.channel n).ws = (c.ws + metered) % 3600 ∧
          (t.channel n).wh = (c.wh + (c.ws + metered) / 3600) % two32 ∧
          (t.channel n).unmetered = c.unmetered + (k - 1 - 5) ∧ (t.channel n).state = .active ∧
          (t.channel n).stamp = some stamp.toNat ∧ (t.channel n).power = some p ∧
          (s.runs .board = false → t.boardBill = s.boardBill) ∧
          (s.runs .board = true → (∀ e ∈ s.boardBill.table, e.state = .current → e.unmetered + k < two32) →
            t.boardBill = s.boardBill.handed n ((c.ws + metered) / 3600) (if k = 1 then p else max v p) (k - 1 - 5)))) ∧
    let resumed := { c with
      state := .active, stamp := some stamp.toNat, power := some p, silence := 0, ws := (c.ws + p) % 3600
      wh := (c.wh + (c.ws + p) / 3600) % two32, window := List.replicate 10 p, peak := max c.peak p }
    (c.state = .noData →
      ∃ t, exec reading s = .next t ∧ t = { s with meter := t.meter, boardBill := t.boardBill } ∧ handed t ∧
        t.channel n = resumed ∧ ∀ m, m ≠ n → t.channel m = s.channel m) ∧
    (c.state = .lost →
      ∃ t, exec reading s = .next t ∧ handed t ∧ t.channel n = resumed ∧ (∀ m, m ≠ n → t.channel m = s.channel m) ∧
        (s.runs .board = true → t = { s with
          meter := t.meter, boardBill := t.boardBill
          records := appendTo s.records s.stationSeconds s.powerUps (.event (.meterLostCleared n)) }) ∧
        (s.runs .set = true → t.present .meterLost = false) ∧
        (s.station = .unconfigured → t = { s with meter := t.meter }))

/-- The meter link: while it waits, a character that is not sync is skipped uncounted and a sync begins a reading; a
reading begun stands until its eighth character, whichever events bring its characters. A failed check and a channel
above 12 each count one link error, a reading of a channel not in use changes nothing; METER_READING_TIMEOUT counts a
reading begun as a link error, and the character that ended it is judged afresh as a sync (R32, R33, R197). A reading
into which a restart has fallen, or that arrives with RESET held low, is not taken, and counts a link error only where
its check fails (R46). A channel in use that hears nothing: at 3 s ACTIVE becomes STALLED, at 10 s STALLED or NO_DATA
becomes LOST with ten unmetered seconds; a BOARD records it, and its CURRENT entry takes the ten seconds and is marked
incomer-lost for channel 0, a SET raises METER_LOST (R41, R42, R44, R61, R157); an expiry before its time changes
nothing. Choices of the model within it: logs 1, 6, 11; that a reading is passed over while RESET is held low is its own
reading of R46 and R199 (log 6). -/
def Obligations.BadReadingsAndSilenceAreCounted : Prop :=
  (∀ (s : State) (ch stamp p3 p2 p1 p0 check : Byte), s.awake = true →
     let counted := { s with meter := { s.meter with linkErrors := min 65535 (s.meter.linkErrors + 1) } }
     let reading := Instr.meterReading [165#8, ch, stamp, p3, p2, p1, p0, check]
     let linked := fun (w : State) (l : List Byte) => { w with meter := { w.meter with link := l, linkOld := false } }
     (s.meter.link = [] → s.meter.linkOld = false →
       (ch + stamp + p3 + p2 + p1 + p0 + check ≠ 0#8 → exec reading s = .next counted) ∧
       (ch + stamp + p3 + p2 + p1 + p0 + check = 0#8 → 12 < ch.toNat → exec reading s = .next counted) ∧
       (ch + stamp + p3 + p2 + p1 + p0 + check = 0#8 → ch.toNat ≤ 12 → s.inUse ch.toNat = false →
         exec reading s = .next s) ∧
       (∀ rest : List Byte, rest.length < 7 →
         exec (.meterReading (165#8 :: rest)) s = .next (linked s (165#8 :: rest))) ∧
       (∀ (first : Byte) (rest : List Byte), first ≠ 165#8 →
         exec (.meterReading (first :: rest)) s = exec (.meterReading rest) s) ∧
       exec .meterReadingTimeout s = .next s) ∧
     (∀ begun more : List Byte, begun.length ≤ 6 → s.meter.link = 165#8 :: begun →
       (s.meter.linkOld = false →
         exec (.meterReading more) s = exec (.meterReading (165#8 :: begun ++ more)) (linked s [])) ∧
       (begun.length + more.length ≤ 6 → exec (.meterReading more) s = .next { s with
         meter := { s.meter with link := 165#8 :: begun ++ more } })) ∧
     (s.meter.link = [165#8, ch, stamp, p3, p2, p1, p0] → s.meter.linkOld = true →
       (ch + stamp + p3 + p2 + p1 + p0 + check = 0#8 → exec (.meterReading [check]) s = .next (linked s [])) ∧
       (ch + stamp + p3 + p2 + p1 + p0 + check ≠ 0#8 → exec (.meterReading [check]) s = .next (linked counted []))) ∧
     (s.meter.link ≠ [] →
       exec .meterReadingTimeout s = .next (linked counted []) ∧
       exec (.meterReading [165#8]) (linked counted []) = .next (linked counted [165#8]) ∧
       ∀ c, c ≠ 165#8 → exec (.meterReading [c]) (linked counted []) = .next (linked counted []))) ∧
  (∀ (s : State) (ch stamp p3 p2 p1 p0 check : Byte), s.mainOn = true → s.resetHeld = true → s.meter.link = [] →
     s.meter.linkOld = false → ch + stamp + p3 + p2 + p1 + p0 + check = 0#8 →
     exec (.meterReading [165#8, ch, stamp, p3, p2, p1, p0, check]) s = .next s) ∧
  (∀ (s : State) (n : Nat), s.awake = true → s.inUse n = true → n < s.meter.channels.length →
     let c := s.channel n
     (c.state = .active → 3 ≤ c.silence →
       exec (.channelStalled n) s = .next { s with
         meter := { s.meter with channels := s.meter.channels.set n { c with state := .stalled } } }) ∧
     (c.state ≠ .active ∨ c.silence < 3 → exec (.channelStalled n) s = .next s) ∧
     (c.state = .stalled ∨ c.state = .noData → 10 ≤ c.silence → c.unmetered + 10 < two32 →
       ∃ t, exec (.channelLost n) s = .next t ∧
         t.meter = { s.meter with
           channels := s.meter.channels.set n { c with state := .lost, unmetered := c.unmetered + 10 } } ∧
         (s.runs .board = true → t.records =
           appendTo s.records s.stationSeconds s.powerUps (.event (.meterLostRaised n)) ∧
           (n = 0 → ∀ e ∈ t.boardBill.table, e.state = .current → e.incomerLost = true) ∧
           ((∀ e ∈ s.boardBill.table, e.state = .current → e.unmetered + 10 < two32) →
             t.boardBill = { s.boardBill with
               table := s.boardBill.table.map (fun e =>
                 if e.state = .current then
                   { e with unmetered := e.unmetered + 10, incomerLost := if n = 0 then true else e.incomerLost }
                 else e) })) ∧
         (s.runs .set = true → n = 0 → t.present .meterLost = true) ∧
         (s.station = .unconfigured → t = { s with meter := t.meter })) ∧
     ((c.state ≠ .stalled ∧ c.state ≠ .noData) ∨ c.silence < 10 → exec (.channelLost n) s = .next s))

/-! ## The duty of a SET -/

/-- ENGINE_READY appears in STARTING: WARMING; it goes in COOLING: RUN_OFF and OFF; the breaker feedback that agrees again
ends the disagreement count; RELAY_PULSE_END ends the pulse on its coil; a level already held changes nothing (R49, R51,
R55, R62). The engine fault input going absent ends ENGINE_FAULT where the run command is OFF: its entry GONE, or gone
from the list where acknowledged, with a STATUS, and FAULT_CLEARED; else only the level changes (R61, R64). Choices of the
model within it: logs 1, 8, 17. -/
def Obligations.EngineAndBreakerInputsAreFollowed : Prop :=
  ∀ s : State, s.awake = true →
    (∀ coil, exec (.relayPulseEnd coil) s = .next { s with
      pulses := {
        engine := if s.pulses.engine = some coil then none else s.pulses.engine
        breaker := if s.pulses.breaker = some coil then none else s.pulses.breaker } }) ∧
    (∀ level, s.input 1 = level → exec (.engineReadyChange level) s = .next s) ∧
    (∀ level, s.input 3 = level → exec (.engineFaultInputChange level) s = .next s) ∧
    (s.runs .set = true → s.inputs.length = 6 → s.Settled → s.input 3 = true →
      let inputs := s.inputs.set 2 false
      let gone := s.duty.faults.map (fun e => if e.cls = .engineFault then { e with present := false } else e)
      let cleared := addEvent
        { s with
            inputs := inputs
            duty := { s.duty with
              conditions := s.duty.conditions.filter (fun c => c != .engineFault)
              faults := gone.filter (fun e => e.present || !e.acked) } }
        (.faultCleared .engineFault)
      (s.duty.runOn = true ∨ s.present .engineFault = false →
        exec (.engineFaultInputChange false) s = .next { s with inputs := inputs }) ∧
      (s.duty.runOn = false → s.present .engineFault = true → s.duty.state ≠ .off ∨ s.duty.mode ≠ .prime →
        ((∀ e ∈ gone, e.present = true ∨ e.acked = false) → exec (.engineFaultInputChange false) s = .next cleared) ∧
        ((∃ e ∈ gone, e.present = false ∧ e.acked = true) →
          exec (.engineFaultInputChange false) s = .next (postStatus cleared)))) ∧
    (s.runs .set = true → s.inputs.length = 6 → s.duty.conditions = [] →
      (s.input 1 = false → s.duty.state = .starting → s.image.warmupTime ≠ 0 →
        exec (.engineReadyChange true) s = .next (postStatus { s with
          inputs := s.inputs.set 0 true
          duty := { s.duty with state := .warming, origin := none, timer := 0, overload := 0, burnSilence := 0 } })) ∧
      (s.input 1 = true → s.duty.state = .cooling → s.duty.mode ≠ .prime →
        exec (.engineReadyChange false) s = .next (postStatus { s with
          inputs := s.inputs.set 0 false
          pulses := { s.pulses with engine := some .runOff }
          duty := { s.duty with state := .off, origin := none, overload := 0, burnSilence := 0, runOn := false } })) ∧
      (∀ level, s.input 2 ≠ level →
        exec (.breakerFeedbackChange level) s = .next { s with
          inputs := s.inputs.set 1 level
          duty := { s.duty with
            disagree := if level = s.duty.brkClosed ∧ s.duty.disagree = 2 then 0 else s.duty.disagree } }))

/-- The engine fault input and a breaker that disagrees for 2 s trip the set: BRK_OPEN and RUN_OFF pulsed; a start that
times out pulses RUN_OFF alone. Each enters FAULT with the fault listed and recorded; a breaker that failed to close
agrees with the command of the trip, and its condition goes in the same event; the two expiries before their time change
nothing (R51, R60, R61, R62, R63, R64). Where reservations are listed, entry to FAULT takes every one, in list order,
its board answered REFUSE FAULT (R67, R84). ENGINE_READY going absent in WARMING, READY or UNLOADING trips the set in
the same way, and ENGINE_FAULT goes in the same event, its entry GONE, with FAULT_CLEARED (R52, R53, R61). It speaks of
a set with no other condition present. Choices of the model within it: logs 1, 15, 34. -/
def Obligations.FaultsTripTheSet : Prop :=
  (∀ s : State, s.awake = true → s.runs .set = true → s.inputs.length = 6 → s.duty.conditions = [] →
    let fault := fun (c : FaultClass) (present : Bool) =>
      ({ cls := c, raisedAt := s.stationSeconds, present := present, acked := false } : FaultEntry)
    let faulty := fun (w : State) => postStatus (State.refusing reasonFault s.reservations { w with
      duty := { w.duty with state := .fault, origin := none, overload := 0, burnSilence := 0, runOn := false } })
    (s.input 3 = false → s.duty.state ≠ .fault → s.listed .engineFault = false →
      let raised := postStatus (addEvent
        { s with
            inputs := s.inputs.set 2 true
            duty := { s.duty with
              conditions := [.engineFault], faults := s.duty.faults ++ [fault .engineFault true] } }
        (.faultRaised .engineFault s.duty.state))
      exec (.engineFaultInputChange true) s = .next (faulty { raised with
        pulses := { engine := some .runOff, breaker := some .brkOpen }
        duty := { raised.duty with
          brkClosed := false, disagree := if s.duty.brkClosed then 0 else s.duty.disagree } })) ∧
    (s.input 1 = true → s.input 3 = false →
      s.duty.state = .warming ∨ s.duty.state = .ready ∨ s.duty.state = .unloading → s.listed .engineFault = false →
      (∀ e ∈ s.duty.faults, e.present = true ∨ e.acked = false) →
      let raised := postStatus (addEvent
        { s with
            inputs := s.inputs.set 0 false
            duty := { s.duty with
              conditions := [.engineFault], faults := s.duty.faults ++ [fault .engineFault true] } }
        (.faultRaised .engineFault s.duty.state))
      let w := faulty { raised with
        pulses := { engine := some .runOff, breaker := some .brkOpen }
        duty := { raised.duty with
          brkClosed := false, disagree := if s.duty.brkClosed then 0 else s.duty.disagree } }
      exec (.engineReadyChange false) s = .next (addEvent
        { w with
            duty := { w.duty with conditions := [], faults := s.duty.faults ++ [fault .engineFault false] } }
        (.faultCleared .engineFault))) ∧
    (s.duty.state = .starting → s.image.startLimit ≤ s.duty.timer → s.listed .startFail = false →
      exec .startTimeoutExpiry s = .next (faulty (postStatus (addEvent
        { s with
            pulses := { s.pulses with engine := some .runOff }
            duty := { s.duty with runOn := false, faults := s.duty.faults ++ [fault .startFail false] } }
        .startFail)))) ∧
    (2 ≤ s.duty.disagree → s.duty.state ≠ .fault → s.listed .breaker = false →
      let raised := postStatus (addEvent
        { s with
            duty := { s.duty with conditions := [.breaker], faults := s.duty.faults ++ [fault .breaker true] } }
        (.faultRaised .breaker s.duty.state))
      let w := faulty { raised with
        pulses := { engine := some .runOff, breaker := some .brkOpen }
        duty := { raised.duty with
          brkClosed := false, disagree := if s.duty.brkClosed then 0 else s.duty.disagree } }
      (s.input 2 = true → s.duty.brkClosed = false → exec .disagreementCountExpiry s = .next w) ∧
      (s.input 2 = false → s.duty.brkClosed = true → (∀ e ∈ s.duty.faults, e.present = true ∨ e.acked = false) →
        exec .disagreementCountExpiry s = .next (addEvent
          { w with
              duty := { w.duty with conditions := [], faults := s.duty.faults ++ [fault .breaker false] } }
          (.faultCleared .breaker))))) ∧
  ∀ s : State, s.awake = true → s.runs .set = true → s.inputs.length = 6 → s.duty.conditions = [] →
    s.reservations = [] →
    let tripped := fun (t : State) (c : List FaultClass) (faults : List FaultEntry) =>
      t.pulses = { engine := some .runOff, breaker := some .brkOpen } ∧
      t.duty = { s.duty with
        state := .fault, origin := none, overload := 0, burnSilence := 0, runOn := false, brkClosed := false
        disagree := if s.duty.brkClosed then 0 else s.duty.disagree, conditions := c, faults := faults }
    (s.input 3 = false → s.duty.state ≠ .fault →
      ∃ t, exec (.engineFaultInputChange true) s = .next t ∧
        tripped t [.engineFault] (raisedList s.duty.faults .engineFault s.stationSeconds true) ∧
        t = { s with inputs := s.inputs.set 2 true, duty := t.duty, pulses := t.pulses, line := t.line,
                     records := appendTo s.records s.stationSeconds s.powerUps (.event (.faultRaised .engineFault s.duty.state)) }) ∧
    (s.duty.state = .starting → s.image.startLimit ≤ s.duty.timer →
      ∃ t, exec .startTimeoutExpiry s = .next t ∧
        t.duty = { s.duty with
          state := .fault, origin := none, overload := 0, burnSilence := 0, runOn := false
          faults := raisedList s.duty.faults .startFail s.stationSeconds false } ∧
        t = { s with duty := t.duty, pulses := { s.pulses with engine := some .runOff }, line := t.line,
                     records := appendTo s.records s.stationSeconds s.powerUps (.event .startFail) }) ∧
    (s.duty.state ≠ .starting ∨ s.duty.timer < s.image.startLimit → exec .startTimeoutExpiry s = .next s) ∧
    (2 ≤ s.duty.disagree → s.input 2 = true → s.duty.brkClosed = false → s.duty.state ≠ .fault →
      ∃ t, exec .disagreementCountExpiry s = .next t ∧
        tripped t [.breaker] (raisedList s.duty.faults .breaker s.stationSeconds true) ∧
        t = { s with duty := t.duty, pulses := t.pulses, line := t.line,
                     records := appendTo s.records s.stationSeconds s.powerUps (.event (.faultRaised .breaker s.duty.state)) }) ∧
    (2 ≤ s.duty.disagree → s.input 2 = false → s.duty.brkClosed = true → s.duty.state ≠ .fault →
      s.listed .breaker = false →
      ∃ t, exec .disagreementCountExpiry s = .next t ∧
        tripped t [] ((s.duty.faults ++
          [({ cls := .breaker, raisedAt := s.stationSeconds, present := false, acked := false } : FaultEntry)]).filter
            (fun e => e.present || !e.acked)) ∧
        t = { s with
          duty := t.duty, pulses := t.pulses, line := t.line
          records := appendTo
            (appendTo s.records s.stationSeconds s.powerUps (.event (.faultRaised .breaker s.duty.state)))
            s.stationSeconds s.powerUps (.event (.faultCleared .breaker)) }) ∧
    (s.duty.disagree < 2 → exec .disagreementCountExpiry s = .next s)

/-- WARMUP_EXPIRY closes the breaker and grants the boards that waited, IDLE_STOP_EXPIRY opens it and cools the set,
COOLDOWN_EXPIRY stops the engine; before its time each does nothing (R53, R54, R55, R84). It speaks of no waiting board
or one that still fits, and of a COOLDOWN above 0. Choices of the model within it, the GRANT before the STATUS (log 15)
and the idle stop that waits while either list holds an entry (log 17) among them: logs 1, 15, 17. -/
def Obligations.TimersMoveTheSet : Prop :=
  ∀ s : State, s.awake = true → s.runs .set = true → s.duty.conditions = [] →
    let closed := { s with
      pulses := { s.pulses with breaker := some .brkClose }
      duty := { s.duty with
        state := .ready, origin := none, idle := 0, brkClosed := true
        disagree := if s.duty.brkClosed then s.duty.disagree else 0 } }
    (s.duty.state = .warming → s.image.warmupTime ≤ s.duty.timer →
      (s.reservations = [] → exec .warmupExpiry s = .next (postStatus closed)) ∧
      (∀ r, s.reservations = [r] → r.hold = none → r.load + max s.output s.feedSum ≤ s.image.usable →
        exec .warmupExpiry s = .next (postStatus (replyTo
          { closed with reservations := [{ r with hold := some s.image.holdTime }] }
          r.board r.ticket verdictGrant reasonNone s.image.holdTime)))) ∧
    (s.duty.state ≠ .warming ∨ s.duty.timer < s.image.warmupTime → exec .warmupExpiry s = .next s) ∧
    (s.duty.state = .ready → s.duty.mode = .auto → s.image.idleLimit ≤ s.duty.idle → s.duty.feed = [] →
      s.reservations = [] → s.image.cooldownTime ≠ 0 →
      exec .idleStopExpiry s = .next (postStatus { s with
        pulses := { s.pulses with breaker := some .brkOpen }
        duty := { s.duty with
          state := .cooling, origin := some .idle, timer := 0, overload := 0, burnSilence := 0, brkClosed := false
          disagree := if s.duty.brkClosed then 0 else s.duty.disagree } })) ∧
    (s.duty.state ≠ .ready ∨ s.duty.mode ≠ .auto ∨ s.duty.idle < s.image.idleLimit ∨ s.duty.feed ≠ [] ∨
      s.reservations ≠ [] → exec .idleStopExpiry s = .next s) ∧
    (s.duty.state = .cooling → s.image.cooldownTime ≤ s.duty.timer → s.duty.mode ≠ .prime →
      exec .cooldownExpiry s = .next (postStatus { s with
        pulses := { s.pulses with engine := some .runOff }
        duty := { s.duty with state := .off, origin := none, overload := 0, burnSilence := 0, runOn := false } })) ∧
    (s.duty.state ≠ .cooling ∨ s.duty.timer < s.image.cooldownTime → exec .cooldownExpiry s = .next s)

/-- An overload of 60 s and a burn silence of 120 s raise their conditions; with reaction ALARM the set runs on, the
entry joins the fault list, FAULT_RAISED is recorded and a STATUS posted (R60, R62, R63, R64). UNLOAD_LIMIT_EXPIRY notes
the stall once, with its record, and the set goes on unloading; RES_HOLD_EXPIRY takes the board's entry whose hold has
run out (R56, R85). An expiry before its time, and an overload count in another state than READY and UNLOADING, change
nothing. With reaction UNLOAD a set in READY goes to UNLOADING, every reservation taken with REFUSE STOPPING; so it does
by TANK_EMPTY in MINUTE_END, which takes STARTING to OFF and WARMING to COOLING with the same refusals, gives COOLING
the origin STOPPING, and leaves OFF, UNLOADING and FAULT as they are (R60, R63, R67, R84, R128). With reaction TRIP
either of them pulses BRK_OPEN and RUN_OFF and enters FAULT, every reservation taken with REFUSE FAULT, and leaves FAULT
as it is. BURN_SILENT with IGNORE comes, and goes at the next burn pulse, without entry, record or STATUS (R60, R61). It
speaks of a set whose feed list holds a board where it unloads, with a COOLDOWN above 0, and of a hold that runs out
outside UNLOADING. Choices of the model within it: logs 1, 15, 16, 34. -/
def Obligations.CountsAndHoldsRunOut : Prop :=
  (∀ s : State, s.awake = true → s.runs .set = true → s.duty.conditions = [] →
     let alarmed := fun (w : State) (c : FaultClass) => postStatus (addEvent
       { w with
           duty := { s.duty with
             conditions := [c]
             faults := s.duty.faults ++ [{ cls := c, raisedAt := s.stationSeconds, present := true, acked := false }] } }
       (.faultRaised c s.duty.state))
     (s.duty.state = .ready ∨ s.duty.state = .unloading → 60 ≤ s.duty.overload → s.image.reactOverload.getD 0 = 0 →
       s.listed .overload = false → exec .overloadCountExpiry s = .next (alarmed s .overload)) ∧
     ((s.duty.state ≠ .ready ∧ s.duty.state ≠ .unloading) ∨ s.duty.overload < 60 →
       exec .overloadCountExpiry s = .next s) ∧
     let unloading := fun (w : State) => postStatus (State.refusing reasonStopping s.reservations { w with
       duty := { w.duty with state := .unloading, origin := none, timer := 0, burnSilence := 0, stallNoted := false } })
     (s.duty.state = .ready → 60 ≤ s.duty.overload → s.image.reactOverload.getD 0 = 1 → s.listed .overload = false →
       s.duty.feed ≠ [] → exec .overloadCountExpiry s = .next (unloading (alarmed s .overload))) ∧
     let tripped := fun (w : State) => postStatus (State.refusing reasonFault s.reservations { w with
       pulses := { engine := some .runOff, breaker := some .brkOpen }
       duty := { w.duty with
         state := .fault, origin := none, overload := 0, burnSilence := 0, runOn := false, brkClosed := false
         disagree := if s.duty.brkClosed then 0 else s.duty.disagree } })
     (s.duty.state = .ready ∨ s.duty.state = .unloading → 60 ≤ s.duty.overload → s.image.reactOverload.getD 0 = 2 →
       s.listed .overload = false → exec .overloadCountExpiry s = .next (tripped (alarmed s .overload))) ∧
     (s.tank.stage = some .minute → s.tank.mode ≠ .unknown → s.tank.reported ≤ s.image.reserveCl →
       s.tank.empty = false → s.tank.dry = true → s.listed .tankEmpty = false →
       ∃ tank : Tank, tank.empty = true ∧ tank.tte = 0 ∧ tank.stage = none ∧
         let w := alarmed { s with tank := tank } .tankEmpty
         (s.image.reactTankEmpty.getD 1 = 2 →
           (s.duty.state ≠ .fault → exec .minuteEnd s = .next (tripped w)) ∧
           (s.duty.state = .fault → exec .minuteEnd s = .next w)) ∧
         (s.image.reactTankEmpty.getD 1 = 1 → s.image.cooldownTime ≠ 0 →
         let cooling := { w.duty with state := .cooling, origin := some .stopping, overload := 0, burnSilence := 0 }
         (s.duty.state = .ready → s.duty.feed ≠ [] → exec .minuteEnd s = .next (unloading w)) ∧
         (s.duty.state = .starting → exec .minuteEnd s = .next (postStatus (State.refusing reasonStopping s.reservations
           { w with
               pulses := { s.pulses with engine := some .runOff }
               duty := { w.duty with state := .off, origin := none, overload := 0, burnSilence := 0, runOn := false } }))) ∧
         (s.duty.state = .warming → exec .minuteEnd s = .next (postStatus
           { State.refusing reasonStopping s.reservations { w with duty := cooling } with
               pulses := { s.pulses with breaker := some .brkOpen }
               duty := { cooling with
                 timer := 0, brkClosed := false, disagree := if s.duty.brkClosed then 0 else s.duty.disagree } })) ∧
         (s.duty.state = .cooling → exec .minuteEnd s = .next { w with duty := cooling }) ∧
         (s.duty.state = .off ∨ s.duty.state = .unloading ∨ s.duty.state = .fault → exec .minuteEnd s = .next w))) ∧
     (s.duty.state = .ready → 120 ≤ s.duty.burnSilence → s.image.reactBurnSilent.getD 1 = 1 →
       s.listed .burnSilent = false → exec .burnSilenceExpiry s = .next (alarmed s .burnSilent)) ∧
     (s.duty.state = .ready → 120 ≤ s.duty.burnSilence → s.image.reactBurnSilent.getD 1 = 0 →
       exec .burnSilenceExpiry s = .next { s with duty := { s.duty with conditions := [.burnSilent] } }) ∧
     (s.duty.state ≠ .ready ∨ s.duty.burnSilence < 120 → exec .burnSilenceExpiry s = .next s)) ∧
  (∀ s : State, s.awake = true → s.runs .set = true → s.duty.state = .ready → s.duty.conditions = [.burnSilent] →
     s.image.reactBurnSilent.getD 1 = 0 →
     exec .burnPulse s = .next { s with
       tank := { s.tank with burnPulses := min 281474976710655 (s.tank.burnPulses + 1) }
       duty := { s.duty with burnSilence := 0, conditions := [] } }) ∧
  (∀ s : State, s.awake = true → s.runs .set = true → s.Settled →
     (s.duty.state = .unloading → s.image.unloadTime ≤ s.duty.timer → s.duty.feed ≠ [] → s.duty.stallNoted = false →
       exec .unloadLimitExpiry s = .next (addEvent { s with duty := { s.duty with stallNoted := true } }
         (.unloadStalled (s.duty.feed.map FeedEntry.board)))) ∧
     (s.duty.state ≠ .unloading ∨ s.duty.timer < s.image.unloadTime ∨ s.duty.feed = [] ∨ s.duty.stallNoted = true →
       exec .unloadLimitExpiry s = .next s) ∧
     ∀ board,
       (s.duty.state ≠ .unloading → (∃ r ∈ s.reservations, r.board = board ∧ r.hold = some 0) →
         exec (.resHoldExpiry board) s =
           .next { s with reservations := s.reservations.filter (fun r => r.board != board) }) ∧
       ((∀ r ∈ s.reservations, r.board = board → r.hold ≠ some 0) → exec (.resHoldExpiry board) s = .next s))

/-! ## Fuel -/

/-- A pulse adds 1 to the lifetime pulses of its meter while main supply is on, in UNCONFIGURED and in RUN of the role
that has the meter, stopping at 2^48 - 1, and does nothing otherwise; in a SET in RUN BURN ends the burn silence; in a
TANKER that has no delivery to count for, a change of the dispense cl begins an unbooked run (R62, R121, R142, R145).
Choices of the model within it: logs 6, 8. -/
def Obligations.PulsesAreCounted : Prop :=
  ∀ s : State,
    let burned := { s with tank := { s.tank with burnPulses := min 281474976710655 (s.tank.burnPulses + 1) } }
    let filled := { s with tank := { s.tank with inletPulses := min 281474976710655 (s.tank.inletPulses + 1) } }
    let drawn := { s with tanker := { s.tanker with pulses := min 281474976710655 (s.tanker.pulses + 1) } }
    (s.mainOn = true → s.station = .unconfigured →
      exec .burnPulse s = .next burned ∧ exec .inletPulse s = .next filled ∧ exec .dispensePulse s = .next drawn) ∧
    (s.mainOn = true → s.runs .set = true →
      exec .inletPulse s = .next filled ∧
      (s.resetHeld = true → exec .burnPulse s = .next burned) ∧
      (s.resetHeld = false → s.Settled → s.present .burnSilent = false →
        exec .burnPulse s = .next { burned with duty := { s.duty with burnSilence := 0 } })) ∧
    (s.mainOn = false ∨ (s.station = .run ∧ s.image.role ≠ some .set) →
      exec .burnPulse s = .next s ∧ exec .inletPulse s = .next s) ∧
    (s.mainOn = false ∨ (s.station = .run ∧ s.image.role ≠ some .tanker) → exec .dispensePulse s = .next s) ∧
    (s.awake = true → s.runs .tanker = true →
      (drawn.dispenseCl = s.dispenseCl → exec .dispensePulse s = .next drawn) ∧
      (drawn.dispenseCl ≠ s.dispenseCl →
        (s.tanker.run = none → s.tanker.state = .idle ∨ s.tanker.state = .closing →
          exec .dispensePulse s = .next { drawn with
            tanker := { drawn.tanker with
              run := some { start := s.stationSeconds, before := s.dispenseCl, quiet := 0 } } }) ∧
        (∀ r, s.tanker.run = some r →
          exec .dispensePulse s = .next { drawn with
            tanker := { drawn.tanker with run := some { r with quiet := 0 } } }) ∧
        (s.tanker.run = none → s.tanker.state = .opening ∨ s.tanker.state = .dispensing →
          exec .dispensePulse s = .next drawn)))

/-- The loop's second in LOCAL_SECOND, nothing being left due: a GOOD loop stays so on UNDER, IN_RANGE and OVER, whose
value enters the filter, and its mean gives the level and, by the strapping table, the live content, which is reported;
OPEN and FAULT make it BAD with LEVEL_LOOP listed, the filter empty and, from LIVE, a hold record; in HELD and MATCHING
the content is reckoned from the hold; a BAD loop counts IN_RANGE seconds up to the fifth, and others begin the count
again (R116 to R120, R123 to R125). LOOP_QUALIFIED: the loop is GOOD and LEVEL_LOOP gone; a held content that the live
one meets within the capture band is replaced by it. MATCHING_EXPIRY: the live content is adopted with LEVEL_STEP,
whatever its distance (R117, R125). Choices of the model within it: logs 2, 15, 16. -/
def Obligations.LoopRecoveryAdoptsTheContent : Prop :=
  (∀ (s : State) (i : SecondInputs), s.awake = true → s.runs .set = true → takeDue s = s → s.tank.stage = none →
    let value := sumOf (i.loop.map (fun x => min 25000 x)) / 10
    let broken : Prop := value < 2000 ∨ 22000 < value
    let inRange : Prop := 3600 ≤ value ∧ value ≤ 20500
    let cause := if 22000 < value then BadCause.fault else BadCause.opened
    let entered := fun (v : Nat) =>
      (s.tank.filter ++ [v]).drop (s.tank.filter.length + 1 - s.image.filterLength)
    let dead := fun (h : Hold) => min s.image.fullVolume
      ((h.content : Int) - diff32 s.burnCl h.burn + diff32 s.inletCl h.inlet).toNat
    ∃ t, exec (.localSecond i) s = .next t ∧ t.tank.loopValue = value ∧
      (s.tank.good = true → broken →
        t.tank.good = false ∧ t.tank.badCause = some cause ∧ t.tank.filter = [] ∧ t.tank.qualifying = 0 ∧
        t.tank.liveLevel = none ∧ t.tank.liveContent = none ∧ t.present .levelLoop = true ∧
        (s.present .levelLoop = false → s.image.reactLevelLoop.getD 1 = 1 →
          ∃ e ∈ t.duty.faults, e.cls = .levelLoop ∧ e.present = true ∧
            e.raisedAt = min 4294967295 (s.stationSeconds + 1)) ∧
        (s.tank.mode = .unknown → t.tank.mode = .unknown ∧ t.tank.reported = s.tank.reported) ∧
        (s.tank.mode = .live → t.tank.mode = .held ∧ t.tank.reported = min s.image.fullVolume s.tank.reported ∧
          t.tank.hold = some
            { content := s.tank.reported, burn := s.burnCl, inlet := s.inletCl
              start := min 4294967295 (s.stationSeconds + 1), cause := cause }) ∧
        (∀ h, s.tank.mode = .matching → s.tank.hold = some h →
          t.tank.mode = .held ∧ t.tank.hold = some h ∧ t.tank.reported = dead h)) ∧
      (s.tank.good = true → ¬ broken →
        let filter := entered (if value < 3600 then s.image.calLow else if 20500 < value then s.image.calHigh else value)
        let level := min s.image.spanMm
          ((sumOf filter / filter.length - s.image.calLow) * s.image.spanMm / (s.image.calHigh - s.image.calLow))
        let content := volumeAt level s.image.table
        t.tank.good = true ∧ t.tank.filter = filter ∧
        (filter ≠ [] → t.tank.liveLevel = some level ∧ t.tank.liveContent = some content ∧
          (s.tank.mode = .unknown → t.tank.mode = .live ∧ t.tank.reported = content ∧ t.tank.hold = none) ∧
          (s.tank.mode = .live → t.tank.mode = .live ∧ t.tank.reported = content ∧ t.tank.hold = s.tank.hold) ∧
          (∀ h, s.tank.mode = .matching → s.tank.hold = some h →
            let band := s.image.fullVolume * s.image.captureTenths / 1000
            (absDiff content (dead h) ≤ band →
              t.tank.mode = .live ∧ t.tank.reported = content ∧ t.tank.hold = none) ∧
            (band < absDiff content (dead h) → s.tank.matching < 120 →
              t.tank.mode = .matching ∧ t.tank.reported = dead h ∧ t.tank.hold = some h ∧
              t.tank.matching = s.tank.matching + 1) ∧
            (band < absDiff content (dead h) → 120 ≤ s.tank.matching →
              t.tank.stage = some .matching ∧ t.tank.reported = dead h)))) ∧
      (s.tank.good = false →
        t.tank.good = false ∧
        (inRange → t.tank.qualifying = min 5 (s.tank.qualifying + 1) ∧ t.tank.filter = entered value ∧
          t.tank.badCause = s.tank.badCause ∧ (4 ≤ s.tank.qualifying → t.tank.stage = some .qualifying)) ∧
        (¬ inRange → t.tank.qualifying = 0 ∧ t.tank.filter = [] ∧
          (broken → t.tank.badCause = some cause) ∧ (¬ broken → t.tank.badCause = s.tank.badCause)) ∧
        (∀ h, ¬ inRange ∨ s.tank.qualifying < 4 → s.tank.mode = .held → s.tank.hold = some h →
          t.tank.mode = .held ∧ t.tank.hold = some h ∧ t.tank.reported = dead h))) ∧
  (∀ (points : List StrapPoint) (level : Nat), points.Pairwise (fun p q => p.level < q.level) →
    (∀ before p q after, points = before ++ p :: q :: after → p.level ≤ level → level < q.level →
      volumeAt level points = p.volume + (level - p.level) * (q.volume - p.volume) / (q.level - p.level)) ∧
    (∀ before p, points = before ++ [p] → p.level ≤ level → volumeAt level points = p.volume) ∧
    (∀ p after, points = p :: after → level ≤ p.level → volumeAt level points = p.volume)) ∧
  ∀ s : State, s.awake = true → s.runs .set = true →
    (s.tank.stage = some .qualifying →
      ∃ t, exec .loopQualified s = .next t ∧ t.tank.good = true ∧ t.tank.badCause = none ∧
        t.tank.stage ≠ some .qualifying ∧ t.present .levelLoop = false ∧
        ∀ h avg, s.tank.mode = .held → s.tank.hold = some h → s.tank.filterAverage = some avg →
          let live := volumeAt (levelOf s.image avg) s.image.table
          (absDiff live (reckon s h) ≤ s.image.fullVolume * s.image.captureTenths / 1000 →
            t.tank.mode = .live ∧ t.tank.reported = live ∧ t.tank.hold = none) ∧
          (s.image.fullVolume * s.image.captureTenths / 1000 < absDiff live (reckon s h) →
            t.tank.mode = .matching ∧ t.tank.matching = 1 ∧ t.tank.reported = reckon s h ∧ t.tank.hold = some h)) ∧
    (s.tank.stage ≠ some .qualifying → exec .loopQualified s = .next s) ∧
    (∀ h live, s.tank.stage = some .matching → s.tank.hold = some h → s.tank.liveContent = some live →
      ∃ t, exec .matchingExpiry s = .next t ∧ t.tank.mode = .live ∧ t.tank.reported = live ∧ t.tank.hold = none ∧
        t.tank.stage ≠ some .matching ∧
        (59 ≤ s.tank.minuteSeconds → t.records = appendTo s.records s.stationSeconds s.powerUps
          (.event (.levelStep ((live : Int) - s.tank.reported) h.start h.cause)))) ∧
    (s.tank.stage ≠ some .matching → exec .matchingExpiry s = .next s)

/-- MINUTE_END: the minute's burn joins the last ten, the next minute begins, and the TTE follows from the content above
the reserve and the mean burn, two minutes at least (R126, R127). The set is EMPTY while its content is known and at or
below RESERVE, TANK_EMPTY rising and going with it (R128); the dry flag is set below DRY_WARN in READY and UNLOADING,
with the DRY frame of the TTE and the whole litres and a STATUS, and cleared 15 minutes above it, with a STATUS (R129,
R130); a second of LOCAL_SECOND within the minute does the same with the buckets as they stand, and UNLOADING or COOLING
that TANK_EMPTY enters in it keeps its state timer at 0 (R55, R56). Choices of the model within it: logs 2, 15, 16. -/
def Obligations.MinuteEndGathersTheBurn : Prop :=
  ∀ s : State, s.awake = true → s.runs .set = true →
    (s.tank.stage = some .minute →
      let buckets := lastOf 10 (s.tank.buckets ++ [(s.burnCl + two32 - s.tank.minuteStart) % two32])
      let rate := sumOf buckets / buckets.length
      let above := s.tank.reported - s.image.reserveCl
      ∃ t, exec .minuteEnd s = .next t ∧ t.tank.buckets = buckets ∧ t.tank.minuteStart = s.burnCl ∧
        t.tank.minuteSeconds = 0 ∧ t.tank.stage = none ∧ t.tank.reported = s.tank.reported ∧
        (s.tank.mode = .unknown → t.tank.tte = 65535) ∧
        (s.tank.mode ≠ .unknown → s.tank.reported ≤ s.image.reserveCl → t.tank.tte = 0) ∧
        (s.tank.mode ≠ .unknown → s.image.reserveCl < s.tank.reported → buckets.length < 2 ∨ rate = 0 →
          t.tank.tte = 65535) ∧
        (s.tank.mode ≠ .unknown → s.image.reserveCl < s.tank.reported → 2 ≤ buckets.length → rate ≠ 0 →
          t.tank.tte = min 65534 (above / rate)) ∧
        (t.tank.empty = true ↔ s.tank.mode ≠ .unknown ∧ s.tank.reported ≤ s.image.reserveCl) ∧
        (s.tank.empty ≠ t.tank.empty → s.Settled →
          (t.present .tankEmpty = true ↔ t.tank.empty = true) ∧
          (t.tank.empty = true → s.present .tankEmpty = false →
            ∃ e ∈ t.duty.faults, e.cls = .tankEmpty ∧ e.present = true ∧ e.raisedAt = s.stationSeconds)) ∧
        (s.tank.dry = true → (t.tank.dry = true ↔ t.tank.tte < s.image.dryMinutes + 15)) ∧
        (s.tank.empty = t.tank.empty →
          let told := { s with tank := t.tank }
          let warns : Prop := t.tank.tte < s.image.dryMinutes ∧ (s.duty.state = .ready ∨ s.duty.state = .unloading)
          (s.tank.dry = true → s.image.dryMinutes + 15 ≤ t.tank.tte → t = postStatus told) ∧
          (s.tank.dry = true → t.tank.tte < s.image.dryMinutes + 15 → t = told) ∧
          (s.tank.dry = false → warns → t.tank.dry = true ∧
            t = postStatus (post told 0 (.dry t.tank.tte (min 65535 (s.tank.reported / 100))))) ∧
          (s.tank.dry = false → ¬ warns → t.tank.dry = false ∧ t = told))) ∧
    (s.tank.stage ≠ some .minute → exec .minuteEnd s = .next s) ∧
    ∀ i : SecondInputs, takeDue s = s → s.tank.stage = none → s.tank.minuteSeconds < 59 →
      ∃ t, exec (.localSecond i) s = .next t ∧
        (t.tank.stage = none →
          t.tank.minuteSeconds = s.tank.minuteSeconds + 1 ∧ t.tank.buckets = s.tank.buckets ∧
          (t.tank.mode = .unknown → t.tank.tte = 65535) ∧
          (t.tank.mode ≠ .unknown → t.tank.reported ≤ s.image.reserveCl → t.tank.tte = 0) ∧
          (t.tank.mode ≠ .unknown → s.image.reserveCl < t.tank.reported →
            s.tank.buckets.length < 2 ∨ sumOf s.tank.buckets / s.tank.buckets.length = 0 → t.tank.tte = 65535) ∧
          (t.tank.mode ≠ .unknown → s.image.reserveCl < t.tank.reported → 2 ≤ s.tank.buckets.length →
            sumOf s.tank.buckets / s.tank.buckets.length ≠ 0 →
            t.tank.tte = min 65534 ((t.tank.reported - s.image.reserveCl) /
              (sumOf s.tank.buckets / s.tank.buckets.length))) ∧
          (t.tank.empty = true ↔ t.tank.mode ≠ .unknown ∧ t.tank.reported ≤ s.image.reserveCl) ∧
          (s.tank.dry = true → (t.tank.dry = true ↔ t.tank.tte < s.image.dryMinutes + 15)) ∧
          (s.tank.dry = false → t.tank.dry = true → t.tank.tte < s.image.dryMinutes) ∧
          (s.tank.dry = false → s.duty.conditions = [] → s.tank.empty = t.tank.empty →
            s.duty.state = .ready ∨ s.duty.state = .unloading →
            (t.tank.dry = true ↔ t.tank.tte < s.image.dryMinutes)) ∧
          (s.duty.state = .warming ∨ s.duty.state = .ready → t.duty.state = .unloading ∨ t.duty.state = .cooling →
            t.duty.timer = 0))

/-! ## Deliveries -/

/-- DELIVER_OPEN and DOCKET at a SET, by the session held and the last result: the rows of R135 and R138. -/
def Obligations.SetAnswersTheTanker : Prop :=
  ∀ (s : State) (f : RxFrame) (d1 d0 : Byte) (rest : List Byte), s.Takes f → s.image.role = some .set →
    f.body = d1 :: d0 :: rest →
    let u := s.heard f
    let number := rd2 d1 d0
    let acked := fun (w : State) (answer : Nat) => Host.Outcome.next (post w f.sender (.deliverAck number answer))
    let session := fun (x : Option Session) => { u with delivery := { s.delivery with session := x } }
    let figures : Anchor :=
      { time := s.stationSeconds, inlet := s.inletCl, burn := s.burnCl, content := s.tank.reported, mode := s.tank.mode }
    (number = 0 → exec (.deliverOpen f) s = .next u) ∧
    (number ≠ 0 → s.delivery.session = none →
      exec (.deliverOpen f) s = acked { u with
        delivery := { s.delivery with
          watch := none
          session := some
            { tanker := some f.sender, docket := some number, dispensed := none
              anchor := (s.delivery.watch.map Watch.anchor).getD figures, phase := .opened, quiet := 0, settle := 0 } } }
        ackReady) ∧
    (∀ x, number ≠ 0 → s.delivery.session = some x →
      (x.tanker = some f.sender → x.docket = some number → exec (.deliverOpen f) s = acked u ackReady) ∧
      (x.tanker ≠ none → x.tanker ≠ some f.sender ∨ x.docket ≠ some number →
        exec (.deliverOpen f) s = acked u ackBusy) ∧
      (x.tanker = none → x.phase = .opened →
        exec (.deliverOpen f) s =
          acked (session (some { x with tanker := some f.sender, docket := some number })) ackReady) ∧
      (x.tanker = none → x.phase = .settling → exec (.deliverOpen f) s = acked u ackBusy)) ∧
    ∀ (f3 f2 f1 f0 : Byte) (more : List Byte), rest = f3 :: f2 :: f1 :: f0 :: more →
      let mine : Prop := ∃ x, s.delivery.session = some x ∧ x.tanker = some f.sender ∧ x.docket = some number
      (number = 0 → exec (.docket f) s = .next u) ∧
      (∀ x, number ≠ 0 → s.delivery.session = some x → x.tanker = some f.sender → x.docket = some number →
        (x.phase = .opened ∨ x.phase = .quiet → exec (.docket f) s = .next
          (session (some { x with dispensed := some (rd4 f3 f2 f1 f0), phase := .settling, settle := 0 }))) ∧
        (x.phase = .settling → exec (.docket f) s = .next u)) ∧
      (∀ l, number ≠ 0 → ¬ mine → s.delivery.last = some l → l.tanker = f.sender → l.docket = number →
        exec (.docket f) s =
          .next (post u f.sender (.deliverResult number l.meterCheck l.levelCheck l.inlet l.rise))) ∧
      (number ≠ 0 → ¬ mine → (∀ l, s.delivery.last = some l → l.tanker ≠ f.sender ∨ l.docket ≠ number) →
        exec (.docket f) s =
          .next (post u f.sender (.deliverResult number meterUnknownDocket levelUnavailable 0 0)))

/-- INLET_WATCH_EXPIRY ends a watch of 60 s, or opens an unannounced session where 100 cl have come in;
QUIET_COUNT_EXPIRY moves an announced session to QUIET at 120 s and to SETTLING at 1,800 s, an unannounced one to
SETTLING at 120 s (R136, R137). SETTLE_TIMER_EXPIRY at 60 s: inlet and burned since the anchor, the rise between two
LIVE contents, the level check against the larger of 2 % of the inlet and 1 % of the tank, the meter check against the
larger of 0.5 % of the docket and 200 cl; the DELIVERY record, and an announced session's DELIVER_RESULT, kept as the
last result (R139, R140, R141). An expiry before its time changes nothing. Choices of the model within it, the rise 0
and the variance that go with UNAVAILABLE among them: logs 1, 17, 26, 43. -/
def Obligations.DeliverySessionsEndInAVerdict : Prop :=
  (∀ s : State, s.awake = true → s.runs .set = true →
     (∀ w, s.delivery.watch = some w →
       (60 ≤ w.age → 100 ≤ diff32 s.inletCl w.anchor.inlet →
         exec .inletWatchExpiry s = .next { s with
           delivery := { s.delivery with
             watch := none
             session := some
               { tanker := none, docket := none, dispensed := none, anchor := w.anchor, phase := .opened, quiet := 0,
                 settle := 0 } } }) ∧
       (60 ≤ w.age → diff32 s.inletCl w.anchor.inlet < 100 →
         exec .inletWatchExpiry s = .next { s with delivery := { s.delivery with watch := none } }) ∧
       (w.age < 60 → exec .inletWatchExpiry s = .next s)) ∧
     (s.delivery.watch = none → exec .inletWatchExpiry s = .next s) ∧
     ∀ x, s.delivery.session = some x →
       let moved := fun (y : Session) => Host.Outcome.next { s with delivery := { s.delivery with session := some y } }
       (x.phase = .opened → 120 ≤ x.quiet →
         (x.tanker ≠ none → exec .quietCountExpiry s = moved { x with phase := .quiet }) ∧
         (x.tanker = none → exec .quietCountExpiry s = moved { x with phase := .settling, settle := 0 })) ∧
       (x.phase = .quiet → 1800 ≤ x.quiet →
         exec .quietCountExpiry s = moved { x with phase := .settling, settle := 0 }) ∧
       ((x.phase = .opened ∧ x.quiet < 120) ∨ (x.phase = .quiet ∧ x.quiet < 1800) ∨ x.phase = .settling →
         exec .quietCountExpiry s = .next s)) ∧
  (∀ (s : State) (x : Session), s.awake = true → s.runs .set = true → s.delivery.session = some x →
     let inlet := diff32 s.inletCl x.anchor.inlet
     let burned := diff32 s.burnCl x.anchor.burn
     let live : Prop := x.anchor.mode = .live ∧ s.tank.mode = .live
     (x.phase ≠ .settling ∨ x.settle < 60 → exec .settleTimerExpiry s = .next s) ∧
     (x.phase = .settling → 60 ≤ x.settle →
       ∀ (rise : Int) (level meter : Nat),
         (live → rise = (s.tank.reported : Int) - x.anchor.content) → (¬ live → rise = 0) →
         (¬ live → level = levelUnavailable) →
         (live → (rise - ((inlet : Int) - burned)).natAbs ≤ max (inlet * 2 / 100) (s.image.fullVolume / 100) →
           level = levelOk) →
         (live → max (inlet * 2 / 100) (s.image.fullVolume / 100) < (rise - ((inlet : Int) - burned)).natAbs →
           level = levelMismatch) →
         (x.dispensed = none → meter = meterNoDocket) →
         (∀ d, x.dispensed = some d → ((inlet : Int) - d).natAbs ≤ max (d * 5 / 1000) 200 → meter = meterOk) →
         (∀ d, x.dispensed = some d → max (d * 5 / 1000) 200 < ((inlet : Int) - d).natAbs → meter = meterMismatch) →
         let recorded := addRecord s (.delivery
           { tanker := x.tanker, docket := x.docket, openedAt := x.anchor.time,
             before := if x.anchor.mode = .live then some x.anchor.content else none,
             after := if s.tank.mode = .live then some s.tank.reported else none, inlet := inlet, burned := burned,
             rise := rise, variance := rise - ((inlet : Int) - burned), levelCheck := level, dispensed := x.dispensed,
             meterVariance := x.dispensed.map (fun d => (inlet : Int) - d), meterCheck := meter })
         (∀ tanker docket, x.tanker = some tanker → x.docket = some docket →
           exec .settleTimerExpiry s = .next
             { post recorded tanker (.deliverResult docket meter level inlet rise) with
               delivery := { s.delivery with
                 session := none
                 watch := watchAfter s.delivery
                 last := some
                   { tanker := tanker, docket := docket, meterCheck := meter, levelCheck := level, inlet := inlet,
                     rise := rise } } }) ∧
         (x.tanker = none → exec .settleTimerExpiry s = .next { recorded with
           delivery := { s.delivery with session := none, watch := watchAfter s.delivery } })))

/-- A TANKER takes DELIVER_ACK in OPENING and DELIVER_RESULT in CLOSING, from its target with its docket: READY begins the
dispensing, BUSY and the result end the delivery with its DOCKET record; any other is ignored (R143, R144, R146). Its
timers: OPENING asks three times and then ends NO_ANSWER, CLOSING posts the DOCKET again once at 90 s and ends
RESULT_MISSING at 180 s, an unbooked run ends after 120 s without change with its record (R143, R144, R145); before its
time each does nothing. Choices of the model within it: log 1. -/
def Obligations.TankerDeliveriesEndInADocket : Prop :=
  (∀ (s : State) (f : RxFrame) (o : OpenDelivery), s.Takes f → s.image.role = some .tanker → s.tanker.delivery = some o →
     let u := s.heard f
     let ended := fun (r : DocketRec) =>
       addRecord { u with tanker := { s.tanker with state := .idle, delivery := none } } (.docket r)
     (∀ (d1 d0 a : Byte) (rest : List Byte), f.body = d1 :: d0 :: a :: rest →
       let mine : Prop := s.tanker.state = .opening ∧ o.target = f.sender ∧ o.docket = rd2 d1 d0
       (mine → a.toNat = ackReady →
         exec (.deliverAck f) s = .next { u with tanker := { s.tanker with state := .dispensing } }) ∧
       (mine → a.toNat = ackBusy →
         exec (.deliverAck f) s = .next (ended
           { docket := o.docket, target := o.target, dispensed := diff32 s.dispenseCl o.begin, outcome := .busy,
             meterCheck := none, levelCheck := none, inlet := none, rise := none })) ∧
       (¬ mine ∨ 1 < a.toNat → exec (.deliverAck f) s = .next u)) ∧
     ∀ (d1 d0 m l i3 i2 i1 i0 r3 r2 r1 r0 : Byte) (rest : List Byte),
       f.body = d1 :: d0 :: m :: l :: i3 :: i2 :: i1 :: i0 :: r3 :: r2 :: r1 :: r0 :: rest →
       let mine : Prop := s.tanker.state = .closing ∧ o.target = f.sender ∧ o.docket = rd2 d1 d0
       (mine → exec (.deliverResult f) s = .next (ended
         { docket := o.docket, target := o.target, dispensed := o.dispensed.getD 0, outcome := .done,
           meterCheck := some m.toNat, levelCheck := some l.toNat, inlet := some (rd4 i3 i2 i1 i0),
           rise := some (signed32 (rd4 r3 r2 r1 r0)) })) ∧
       (¬ mine → exec (.deliverResult f) s = .next u)) ∧
  (∀ s : State, s.awake = true → s.runs .tanker = true →
     (∀ r, s.tanker.run = some r →
       (120 ≤ r.quiet → exec .unbookedRunEnd s = .next (addEvent { s with tanker := { s.tanker with run := none } }
         (.unbookedDispense (diff32 s.dispenseCl r.before) r.start))) ∧
       (r.quiet < 120 → exec .unbookedRunEnd s = .next s)) ∧
     (s.tanker.run = none → exec .unbookedRunEnd s = .next s) ∧
     ∀ o, s.tanker.delivery = some o →
       let ended := fun (dispensed : Nat) (outcome : DocketOutcome) =>
         addRecord { s with tanker := { s.tanker with state := .idle, delivery := none } } (.docket
           { docket := o.docket, target := o.target, dispensed := dispensed, outcome := outcome, meterCheck := none,
             levelCheck := none, inlet := none, rise := none })
       (s.tanker.state = .opening → 2 ≤ o.timer → o.attempts < 3 →
         exec .openingTimeout s = .next (post
           { s with tanker := { s.tanker with delivery := some { o with attempts := o.attempts + 1, timer := 0 } } }
           o.target (.deliverOpen o.docket))) ∧
       (s.tanker.state = .opening → 2 ≤ o.timer → 3 ≤ o.attempts →
         exec .openingTimeout s = .next (ended (diff32 s.dispenseCl o.begin) .noAnswer)) ∧
       (s.tanker.state ≠ .opening ∨ o.timer < 2 → exec .openingTimeout s = .next s) ∧
       (s.tanker.state = .closing → 90 ≤ o.timer → o.again = false →
         exec .docketRepeat s = .next (post
           { s with tanker := { s.tanker with delivery := some { o with again := true } } }
           o.target (.docket o.docket (o.dispensed.getD 0)))) ∧
       (s.tanker.state ≠ .closing ∨ o.timer < 90 ∨ o.again = true → exec .docketRepeat s = .next s) ∧
       (s.tanker.state = .closing → 180 ≤ o.timer →
         exec .resultMissing s = .next (ended (o.dispensed.getD 0) .resultMissing)) ∧
       (s.tanker.state ≠ .closing ∨ o.timer < 180 → exec .resultMissing s = .next s))

/-! ## The settlement of a SET -/

/-- PERIOD_END: the open period closes with the differences of its figures, CLOSE goes to the boards, the next period
and the claim window open, the peak of channel 0 starts anew; an open window is apportioned first (R149). Choices of
the model within it: logs 1, 20. -/
def Obligations.PeriodEndClosesAndOpens : Prop :=
  ∀ (s : State) (o : OpenPeriod), s.awake = true → s.runs .set = true → s.setBill.opened = some o →
    s.setBill.putOff = false →
    let fuel := (s.burnCl + two32 - o.burn) % two32
    let energy := ((s.channel 0).wh + two32 - o.output) % two32
    (s.image.periodLength ≤ o.elapsed → s.setBill.window = none →
      exec .periodEnd s = .next
        { post s 33 (.close o.period fuel energy s.image.windowLength 0) with
          meter := { s.meter with channels := s.meter.channels.set 0 { s.channel 0 with peak := 0 } }
          setBill := { s.setBill with
            closed := some
              { period := o.period, fuel := fuel, energy := energy, run := (s.duty.runSeconds + two32 - o.run) % two32,
                idle := o.idle, interrupted := o.interrupted }
            opened := some
              { period := if o.period < 65535 then o.period + 1 else 1, elapsed := 0, burn := s.burnCl,
                output := (s.channel 0).wh, run := s.duty.runSeconds, idle := 0, interrupted := false }
            window := some 0, claims := [], putOff := false } }) ∧
    (s.image.periodLength ≤ o.elapsed → s.setBill.window ≠ none → s.setBill.closed ≠ none →
      exec .periodEnd s = exec .periodEnd (apportion s)) ∧
    (o.elapsed < s.image.periodLength → exec .periodEnd s = .next s)

/-- CLAIM_WINDOW_END: each claim draws F times C over the larger of E and the claims' sum, rounded down, the rest is
retained and the shares never exceed F; one ALLOT to each board, the shares kept as the last allotments, and a
SETTLE_SET record unless the set neither ran nor was claimed on (R152, R153, R154). Choices of the model within it:
log 1. -/
def Obligations.ApportionmentSharesTheFuel : Prop :=
  ∀ (s : State) (c : ClosedPeriod) (w : Nat), s.awake = true → s.runs .set = true → s.setBill.closed = some c →
    s.setBill.window = some w → s.setBill.putOff = false →
    let claims := s.setBill.claims
    let divided := max c.energy (sumOf (claims.map Claim.energy))
    let share := fun (x : Claim) => if divided = 0 then 0 else c.fuel * x.energy / divided
    let allotted := sumOf (claims.map share)
    allotted ≤ c.fuel ∧
    (s.image.windowLength ≤ w → s.posts = true → s.line.queue.length + claims.length ≤ txCap →
      ∃ t, exec .claimWindowEnd s = .next t ∧
        (∀ x ∈ claims, newFrame x.board (.allot c.period (share x) allotAllotted) ∈ t.line.queue) ∧
        t = { s with
          line := t.line
          records := if c.run = 0 ∧ claims = [] then s.records else
            appendTo s.records s.stationSeconds s.powerUps (.settleSet
              { period := c.period, interrupted := c.interrupted, run := c.run, idle := c.idle, fuel := c.fuel,
                energy := c.energy,
                claims := claims.map (fun x => { board := x.board, energy := x.energy, share := share x }),
                allotted := allotted, retained := c.fuel - allotted, late := s.setBill.late })
          setBill := { s.setBill with
            closed := none, window := none, claims := []
            last := some { period := c.period, shares := claims.map (fun x => (x.board, share x)) }
            late := if c.run = 0 ∧ claims = [] then s.setBill.late else 0 } }) ∧
    (w < s.image.windowLength → exec .claimWindowEnd s = .next s)

/-! ## The local port -/

/-- The port judges each command frame first (R187, R189): NOP and a short frame take nothing, while the buffer reads
NOT_READY every command is discarded, REPLY_READY completes the reply, an unknown code is answered UNKNOWN, a REQUEST
code that names no request STATE in UNCONFIGURED (the model's choice, log 13) and RANGE otherwise. -/
def Obligations.CommandFramesAreJudgedFirst : Prop :=
  (∀ (s : State) (l : Byte) (rest : List Byte), exec (.nop (0#8 :: l :: rest)) s = .next s) ∧
  (∀ (s : State) (c l : Byte) (rest : List Byte),
    exec (.commandFrameDiscarded []) s = .next s ∧ exec (.commandFrameDiscarded [c]) s = .next s ∧
    (rest.length < l.toNat → exec (.commandFrameDiscarded (c :: l :: rest)) s = .next s)) ∧
  (∀ (s : State) (p : List Byte) (c : Byte), s.port.reply.ready = false →
    ∀ i ∈ [Instr.writeConfig p, .start p, .readStatus p, .readPeer p, .readTotals p, .readRecord p, .removeRecord p, .mode p,
      .stopForce p, .changeover p, .abort p, .deliveryBegin p, .deliveryEnd p, .load p, .ackFault p, .clearFault p,
      .warmRestart p, .requestCodeOutOfRange p, .unknownCommand c p], exec i s = .next s) ∧
  (∀ s : State, s.awake = true →
    exec .replyReady s = .next { s with port := { s.port with reply := { s.port.reply with ready := true } } }) ∧
  (∀ (s : State) (c : Byte) (p : List Byte), s.listens → 11 < c.toNat →
    exec (.unknownCommand c p) s = .next (s.replied c.toNat .unknown [])) ∧
  (∀ (s : State) (c a1 a2 a3 a4 : Byte), s.listens → c.toNat = 0 ∨ 7 < c.toNat →
    (s.station = .unconfigured →
      exec (.requestCodeOutOfRange [c, a1, a2, a3, a4]) s = .next (s.replied 8 .state [])) ∧
    (s.station = .run → exec (.requestCodeOutOfRange [c, a1, a2, a3, a4]) s = .next (s.replied 8 .range []))) ∧
  ∀ (s : State) (p : List Byte), s.listens → p.length ≠ 5 →
    exec (.requestCodeOutOfRange p) s = .next (s.replied 8 .range [])

/-- WRITE_CONFIG, which completes for every frame: in UNCONFIGURED it writes an item within its range into the field of the
image that the item names, and refuses any other value, index or item with RANGE; a frame of another length than the item's
is refused with RANGE, and in RUN any other with STATE (R190, section 11.3). STATION also takes the peer of its number out
of the table (R24); LINE_RATE makes the station count bus-free afresh (R1). That a PREFERENCE whose highest value byte is
not 0 is refused is the model's choice (log 55). -/
def Obligations.WriteConfigKeepsToTheRanges : Prop :=
  (∀ (s : State) (p : List Byte), s.listens → p.length ≠ 6 → p.length ≠ 8 →
    exec (.writeConfig p) s = .next (s.replied 1 .range [])) ∧
  ∀ (s : State) (item index a b c d : Byte), s.listens →
    let v := rd4 a b c d
    let write := Instr.writeConfig [item, index, a, b, c, d]
    let writePoint := fun (l1 l0 : Byte) => Instr.writeConfig [item, index, l1, l0, a, b, c, d]
    let refused := Host.Outcome.next (s.replied 1 .range [])
    let written := fun (i : Image) => Host.Outcome.next ({ s with image := i }.replied 1 .ok [])
    (item.toNat = 22 → exec write s = refused) ∧
    (item.toNat ≠ 22 → ∀ l1 l0, exec (writePoint l1 l0) s = refused) ∧
    (s.station = .run → (item.toNat ≠ 22 → exec write s = .next (s.replied 1 .state [])) ∧
      (item.toNat = 22 → ∀ l1 l0, exec (writePoint l1 l0) s = .next (s.replied 1 .state []))) ∧
    (s.station = .unconfigured →
      (item.toNat = 1 →
        (index = 0#8 → 1 ≤ v → v ≤ 30 →
          exec write s = .next ({ s with
            image := { s.image with station := some v }
            peers := s.peers.filter (fun p => p.station != v) }.replied 1 .ok [])) ∧
        (index ≠ 0#8 ∨ v = 0 ∨ 30 < v → exec write s = refused)) ∧
      (item.toNat = 3 →
        (index = 0#8 → v ≤ 2 →
          exec write s = .next ({ s with
            image := { s.image with lineRate := v }, line := { s.line with phase := .waiting } }.replied 1 .ok [])) ∧
        (index ≠ 0#8 ∨ 2 < v → exec write s = refused)) ∧
      (∀ r ∈ ([
          (2, 0, 2, fun i v => { i with role := some (if v = 0 then .set else if v = 1 then .board else .tanker) }),
          (4, 1, 5, fun i v => { i with statusInterval := some v }),
          (5, 100, 20000, fun i v => { i with rated := some v }),
          (6, 0, 30, fun i v => { i with margin := some v }),
          (7, 20, 180, fun i v => { i with startTimeout := some v }),
          (8, 0, 600, fun i v => { i with warmup := some v }),
          (9, 0, 600, fun i v => { i with cooldown := some v }),
          (10, 60, 3600, fun i v => { i with idleStop := some v }),
          (11, 60, 1800, fun i v => { i with unloadLimit := some v }),
          (12, 5, 60, fun i v => { i with resHold := some v }),
          (14, 10, 60, fun i v => { i with claimWindow := some v }),
          (15, 10, 10000, fun i v => { i with kBurn := some v }),
          (16, 10, 10000, fun i v => { i with kInlet := some v }),
          (17, 3600, 20500, fun i v => { i with calEmpty := some v }),
          (18, 3600, 20500, fun i v => { i with calFull := some v }),
          (19, 100, 5000, fun i v => { i with span := some v }),
          (21, 2, 16, fun i v => { i with strapCount := some v }),
          (23, 0, 4294967295, fun i v => { i with reserve := some v }),
          (24, 10, 240, fun i v => { i with dryWarn := some v }),
          (25, 5, 100, fun i v => { i with captureBand := some v }),
          (26, 0, 2, fun i v => { i with reactTankEmpty := some v }),
          (27, 0, 1, fun i v => { i with reactLevelLoop := some v }),
          (28, 0, 1, fun i v => { i with reactBurnSilent := some v }),
          (29, 0, 1, fun i v => { i with reactMeterLost := some v }),
          (30, 0, 2, fun i v => { i with reactOverload := some v }),
          (31, 0, 2, fun i v => { i with defaultMode := some v }),
          (34, 2, 20, fun i v => { i with deadTime := some v }),
          (35, 1, 12, fun i v => { i with accounts := some v }),
          (36, 0, 1, fun i v => { i with followDry := some v }),
          (37, 0, 1, fun i v => { i with autoRestore := some v }),
          (38, 10, 300, fun i v => { i with retryInterval := some v }),
          (39, 0, 65535, fun i v => { i with stageLoadDefault := some v }),
          (40, 10, 10000, fun i v => { i with kDispense := some v })] : List (Nat × Nat × Nat × (Image → Nat → Image))),
        item.toNat = r.1 →
        (index = 0#8 → r.2.1 ≤ v → v ≤ r.2.2.1 → exec write s = written (r.2.2.2 s.image v)) ∧
        (index ≠ 0#8 ∨ v < r.2.1 ∨ r.2.2.1 < v → exec write s = refused)) ∧
      (item.toNat = 0 ∨ 40 < item.toNat → exec write s = refused) ∧
      (item.toNat = 13 ∨ item.toNat = 20 ∨ item.toNat = 33 → index ≠ 0#8 → exec write s = refused) ∧
      (item.toNat = 13 → index = 0#8 →
        (v ∈ [300, 600, 900, 1800, 3600] → exec write s = written { s.image with period := some v }) ∧
        (v ∉ [300, 600, 900, 1800, 3600] → exec write s = refused)) ∧
      (item.toNat = 20 → index = 0#8 →
        (v ∈ [1, 4, 16, 64] → exec write s = written { s.image with levelFilter := some v }) ∧
        (v ∉ [1, 4, 16, 64] → exec write s = refused)) ∧
      (item.toNat = 33 → index = 0#8 →
        (v ∈ [0x010203, 0x010302, 0x020103, 0x020301, 0x030102, 0x030201] →
          exec write s = written { s.image with preference := some [v / 65536, v / 256 % 256, v % 256] }) ∧
        (v ∉ [0x010203, 0x010302, 0x020103, 0x020301, 0x030102, 0x030201] → exec write s = refused)) ∧
      (item.toNat = 32 →
        (1 ≤ index.toNat → index.toNat ≤ 3 → v ≤ 30 →
          exec write s = written { s.image with posSet := s.image.posSet.set (index.toNat - 1) (some v) }) ∧
        (index.toNat = 0 ∨ 3 < index.toNat ∨ 30 < v → exec write s = refused)) ∧
      ∀ l1 l0 : Byte, item.toNat = 22 →
        (1 ≤ index.toNat → index.toNat ≤ 16 → rd2 l1 l0 ≤ 5000 →
          exec (writePoint l1 l0) s = written { s.image with
            strap := s.image.strap.set (index.toNat - 1) (some { level := rd2 l1 l0, volume := v }) }) ∧
        (index.toNat = 0 ∨ 16 < index.toNat ∨ 5000 < rd2 l1 l0 → exec (writePoint l1 l0) s = refused))

/-- START validates the image in its order and names the first item that fails; a valid one is locked, the station
enters RUN with station-seconds 0, a stopped SET is adopted OFF in AUTO and opens period 1, a BOARD in IDLE on its
closed position, and the first STATUS is posted, its interval begun (R25, R59, R113, R155, R184, R191); the peer table
stays as it was built (R24). It speaks of a SET without a retained period and of a BOARD with one position closed whose
set, as heard, neither shows UNLOADING nor, FRESH and with FOLLOW_DRY yes, DRY. STRAP fails unless each of the points
1..STRAP_COUNT is written, levels strictly ascending and volumes never falling; POS_SET fails where no position names a
set, two name the same, or one names the own number (R191). Choices of the model within it: logs 21,
37. -/
def Obligations.StartValidatesAndEntersRun : Prop :=
  ∀ s : State, s.listens →
    let i := s.image
    let refused := fun (item : Nat) => Host.Outcome.next
      ({ s with port := { s.port with startRefusal := some item } }.replied 2 .range [BitVec.ofNat 8 item])
    let posted := fun (t : State) => t.line.statusTimer = some 0 ∧
      (s.line.queue = [] → s.line.listenOnly = false → (∀ e ∈ s.boardBill.table, e.state ≠ .claimed) →
        ∃ b, t.ownStatus = some b ∧ t.line.queue = [newFrame 0 (.status b)])
    (s.station = .run → exec (.start []) s = .next (s.replied 2 .state [])) ∧
    (∀ p : List Byte, p ≠ [] → exec (.start p) s = .next (s.replied 2 .range [])) ∧
    (s.station = .unconfigured →
      (i.station = none → exec (.start []) s = refused 1) ∧
      (∀ own, i.station = some own →
        (i.role = none → exec (.start []) s = refused 2) ∧
        (i.role = some .set →
          (i.rated = none → exec (.start []) s = refused 5) ∧
          (i.rated ≠ none → i.calHigh < i.calLow + 8000 → exec (.start []) s = refused 18) ∧
          (i.rated ≠ none → i.calLow + 8000 ≤ i.calHigh → ¬ i.Strapped → exec (.start []) s = refused 22) ∧
          (i.rated ≠ none → i.calLow + 8000 ≤ i.calHigh → i.Strapped → i.fullVolume ≤ i.reserveCl →
            exec (.start []) s = refused 23) ∧
          (i.rated ≠ none → i.calLow + 8000 ≤ i.calHigh → i.Strapped → i.reserveCl < i.fullVolume →
            s.input 1 = false → s.input 2 = false → s.input 3 = false → (s.channel 0).state ≠ .lost →
            i.defaultMode = none → s.setBill.opened = none → s.setBill.closed = none →
            ∃ t, exec (.start []) s = .next t ∧ t.station = .run ∧ t.image = i ∧ t.stationSeconds = 0 ∧
              t.port = placeReply { s.port with startRefusal := none } 2 .ok [] ∧ t.duty.state = .off ∧
              t.duty.mode = .auto ∧ t.duty.feed = [] ∧ t.duty.faults = [] ∧ t.pulses = s.pulses ∧
              t.tank.mode = .unknown ∧ posted t ∧ t.records = s.records ∧
              t.setBill.opened = some
                { period := 1, elapsed := 0, burn := clOf s.tank.burnPulses i.burnFactor, output := (s.channel 0).wh,
                  run := s.duty.runSeconds, idle := 0, interrupted := false })) ∧
        (i.role = some .board →
          (i.Misplaced own → exec (.start []) s = refused 32) ∧
          (∀ pos, ¬ i.Misplaced own → s.closedList = [pos] → s.liveAt pos ≠ .notLive →
            (∀ b, s.setStatusOf (i.setAt pos) = some b → b.duty ≠ dutyCode .unloading) →
            (i.followsDry = true → ∀ b, s.freshSet (i.setAt pos) = some b → b.dryFlag = false) →
            ∃ t, exec (.start []) s = .next t ∧ t.station = .run ∧ t.image = i ∧ t.stationSeconds = 0 ∧
              t.port = placeReply { s.port with startRefusal := none } 2 .ok [] ∧ t.chg.state = .idle ∧
              t.chg.attempt = none ∧ t.chg.cmd = none ∧ t.chg.fault = none ∧ t.chg.dryNote = none ∧ t.peers = s.peers ∧
              hasCurrent t.boardBill.table = true ∧ posted t)) ∧
        (i.role = some .tanker →
          ∃ t, exec (.start []) s = .next t ∧ t.station = .run ∧ t.image = i ∧ t.stationSeconds = 0 ∧
            t.port = placeReply { s.port with startRefusal := none } 2 .ok [] ∧ t.tanker = s.tanker ∧ posted t)))

/-- WARM_RESTART keeps the station in RUN with its image, clock, listen-only flag and record queue, and empties the
transmit queue, the peer table and the lists; pulses and the switch command end; a frame on the line ends in an abort
burst, and the reading that the meter link has begun goes on arriving, not to be taken (R18, R24, R46, R72, R89, R93,
R192). That no record joins, no pulse begins and no frame but the STATUS is queued is said of a SET whose adoption finds
no condition and no mode to act on and that holds no closed period, and of a BOARD whose adoption takes no trigger and
whose table has room and no claim. Choices of the model within it: that the burst of an earlier bit error, still being
driven, ends at once (log 48); that the peer table empties before a BOARD adopts, which then begins no attempt (log 52);
and logs 11, 20. -/
def Obligations.WarmRestartStartsTheBlocksAfresh : Prop :=
  ∀ s : State, s.listens →
    (s.station = .unconfigured → exec (.warmRestart []) s = .next (s.replied 11 .state [])) ∧
    (∀ p : List Byte, p ≠ [] → exec (.warmRestart p) s = .next (s.replied 11 .range [])) ∧
    let phase := if s.line.phase = LinePhase.sending then LinePhase.burst else LinePhase.waiting
    let straddled := !s.meter.link.isEmpty
    let still := fun (t : State) => t.records = s.records ∧ t.pulses = { engine := none, breaker := none } ∧
      t.line.older = none ∧ ∀ g ∈ t.line.queue, g.isStatus = true
    (s.station = .run →
      (s.image.role = some .tanker →
        let fresh := fun (c : Channel) => { blankChannel with ws := c.ws, wh := c.wh }
        let t := postStatus
          { s with
              pulses := { engine := none, breaker := none }
              line := { s.line with queue := [], older := none, phase := phase }
              peers := []
              meter := { channels := s.meter.channels.map fresh, linkErrors := 0, link := s.meter.link, linkOld := straddled }
              reservations := []
              chg := { s.chg with cmd := none, held := 0 }
              tanker := { s.tanker with state := .idle, delivery := none, run := none } }
        exec (.warmRestart []) s = .next ({ t with port := s.port }.replied 11 .ok [])) ∧
      (s.image.role = some .set →
        ∃ t, exec (.warmRestart []) s = .next t ∧ t.station = .run ∧ t.image = s.image ∧
          t.stationSeconds = s.stationSeconds ∧ t.port = placeReply s.port 11 .ok [] ∧ t.peers = [] ∧
          t.reservations = [] ∧ t.duty.feed = [] ∧ t.duty.mode = s.duty.mode ∧ t.delivery.session = none ∧
          t.setBill.last = none ∧ t.line.listenOnly = s.line.listenOnly ∧ t.line.phase = phase ∧
          (s.duty.mode = .auto → s.input 3 = false → (s.input 2 = true → s.input 1 = true) → s.image.warmupTime ≠ 0 →
            s.setBill.closed = none → still t) ∧
          t.meter.channels = s.meter.channels.map (fun c : Channel => { blankChannel with ws := c.ws, wh := c.wh }) ∧
          t.meter.link = s.meter.link ∧ t.meter.linkOld = straddled) ∧
      (s.image.role = some .board →
        ∃ t, exec (.warmRestart []) s = .next t ∧ t.station = .run ∧ t.image = s.image ∧
          t.stationSeconds = s.stationSeconds ∧ t.port = placeReply s.port 11 .ok [] ∧ t.peers = [] ∧
          t.chg.attempt = none ∧ t.chg.cmd = none ∧ t.line.listenOnly = s.line.listenOnly ∧ t.line.phase = phase ∧
          t.meter.link = s.meter.link ∧ t.meter.linkOld = straddled ∧
          (s.chg.state = .locked ∨ (∃ pos, s.closedList = [pos] ∧ s.liveAt pos ≠ .notLive) →
            s.boardBill.table.length < tableCap → (∀ e ∈ s.boardBill.table, e.state ≠ .claimed) → still t) ∧
          (s.chg.state = .locked → t.chg.state = .locked ∧ t.chg.fault = s.chg.fault ∧
            t.chg.lastLive = s.chg.lastLive)))

/-- The reads change nothing but the reply. READ_STATUS gives the common part, the parts of the active blocks and the
record store, READ_TOTALS the channels' totals and those of the role, READ_RECORD the head of the record queue with its
header, its body by its kind and the carry it has absorbed, or NONE, and READ_PEER the entry of a peer, NONE or RANGE,
each field by field (R31, R47, R73, R89, R114, R133, R147, R169, R178, R185, R194, R195, R196). Choices of the model
within it, the accounts of a retained entry (log 42) among them: logs 14, 24, 25, 42, 47. -/
def Obligations.ReadsReturnWhatIsHeld : Prop :=
  ∀ s : State, s.listens →
    let optByte := fun (x : Option Nat) => optField 1 be1 x
    let optTwo := fun (x : Option Nat) => optField 2 be2 x
    let optFour := fun (x : Option Nat) => optField 4 be4 x
    let place := fun (first : Bool) => be1 (if first then 0 else 1)
    -- the carries (R174 to R176, R196)
    let setCarry := fun (c : SettleSetCarry) => be2 c.first ++ be2 c.last ++ beBool c.interrupted ++
      [c.fuel, c.energy, c.allotted, c.retained, c.run, c.idle, c.late].flatMap be8
    let boardCarry := fun (c : SettleBoardCarry) => be1 c.set ++ be2 c.first ++ be2 c.last ++ be2Fit c.notAllotted ++
      [c.claim, c.allotted, c.unmetered, c.unattributed].flatMap be8 ++ be1 c.lines.length ++
      c.lines.flatMap (fun l => be1 l.account ++ be8 l.wh ++ be1 (if l.account = 0 then 1 else 3) ++ be8 l.fuel ++ be4 l.peak)
    -- a DELIVERY record codes the meter check by its place in the table of R141 (R195)
    let meterPlace := fun (m : Nat) =>
      if m = meterNoDocket then 0 else if m = meterOk then 1 else if m = meterMismatch then 2 else m
    let deliveryCarry := fun (c : DeliveryCarry) => [c.inlet, c.burned, c.dispensed].flatMap be8 ++
      be1 (meterPlace c.worstMeter) ++ be1 c.worstLevel
    let docketCarry := fun (c : DocketCarry) => be8 c.inlet ++ be8 c.dispensed ++ be2Fit c.notDone ++
      optByte c.worstMeter ++ optByte c.worstLevel
    -- the parts of READ_STATUS (R47, R73, R89, R114, R133, R147, R169, R185, R194)
    let common := place (decide (s.station = .unconfigured)) ++
      optByte (s.image.role.map (fun r => match r with | .set => 0 | .board => 1 | .tanker => 2)) ++
      optByte s.image.station ++ beBool s.line.listenOnly ++ be1 s.image.lineRate ++ be2 s.line.queue.length ++
      beBool s.attn ++ optByte s.port.startRefusal ++ be1 (flagSet s.inputs)
    let meters := s.meter.channels.flatMap (fun c => be1 (chanCode c.state) ++ beBool (decide (c.state = .lost)) ++
      be2Fit c.average ++ be2 c.silence) ++ be2 s.meter.linkErrors
    let loop := be2 s.tank.loopValue ++ be1 (loopCode s.tank.loopClass)
    let duty := be1 (dutyCode s.duty.state) ++ optByte (s.duty.origin.map originCode) ++ be1 (modeCode s.duty.mode) ++
      place s.duty.runOn ++ place s.duty.brkClosed ++ be1 (flagSet [s.input 1, s.input 2, s.input 3]) ++
      be4 s.duty.timer ++ be2 s.duty.idle ++ beBool s.inhibit ++
      be1 (flagSet ([FaultClass.tankEmpty, .levelLoop, .burnSilent, .meterLost, .overload, .engineFault, .breaker,
        .startFail].map s.present)) ++ be1 s.duty.faults.length ++
      s.duty.faults.flatMap (fun e => be1 (faultCode e.cls) ++ be4 e.raisedAt ++ place e.present ++ beBool e.acked) ++
      be1 s.duty.feed.length ++
      s.duty.feed.flatMap (fun e => be1 e.board ++ be2 e.load ++ place e.confirmed ++ be4 e.joined)
    let arbiter := be2Fit s.image.usable ++ be2Fit s.measured ++ be2Fit s.feedSum ++ be2Fit s.basis ++ beInt s.headroom ++
      be1 s.reservations.length ++
      s.reservations.flatMap (fun r => be1 r.board ++ be2 r.ticket ++ be2 r.load ++ place r.hold.isSome ++ optFour r.hold)
    let stage := be1 (chgCode s.chg.state) ++ be1 s.closedPos ++
      beBool (s.input 1) ++ be1 (liveCode (s.liveAt 1)) ++ beBool (s.input 2) ++ be1 (liveCode (s.liveAt 2)) ++
      beBool (s.input 3) ++ be1 (liveCode (s.liveAt 3)) ++
      be1 (match s.chg.cmd with | none => 0 | some .openAll => 1 | some (.closeTo n) => 1 + n) ++ be4 s.chg.held ++
      optTwo s.chg.lastLive ++
      optField 19 (fun (a : Attempt) => be1 (recordReasonCode a.reason) ++ be1 a.fromPos ++ be1 a.oldPos ++
        be2 a.estimate ++ be1 a.candidates.length ++ a.candidates.flatMap be1 ++ be1 a.cursor ++ be2 a.ticket ++
        be2 a.sends ++ be4 a.timer ++ be4 a.unfed) s.chg.attempt ++
      be2 s.chg.ticket ++ optField 5 (fun x => be4 x.1 ++ be1 (recordReasonCode x.2)) s.chg.retry ++
      optFour s.chg.dwell ++ optByte s.chg.dryNote ++ optByte (s.chg.fault.map switchFaultCode) ++
      optByte (s.chg.quiet.map recordReasonCode)
    let tank := loop ++ place s.tank.good ++ optByte (s.tank.badCause.map badCode) ++ be2 s.tank.qualifying ++
      optTwo s.tank.filterAverage ++ be2 s.tank.filter.length ++ optTwo s.tank.liveLevel ++ optFour s.tank.liveContent ++
      be1 (contentCode s.tank.mode) ++ be4 s.tank.reported ++
      optField 25 (fun (h : Hold) => be4 h.content ++ be4 h.burn ++ be4 h.inlet ++ be4 h.start ++ be1 (badCode h.cause) ++
        be4 (diff32 s.burnCl h.burn) ++ be4 (diff32 s.inletCl h.inlet)) s.tank.hold ++
      be2 s.tank.matching ++ be1 s.tank.buckets.length ++ s.tank.buckets.flatMap be4 ++ optFour s.tank.rate ++
      be2 s.tank.tte ++ place s.tank.empty ++ beBool s.tank.dry
    let delivery := optField 35 (fun (x : Session) => place x.tanker.isSome ++ optByte x.tanker ++ optTwo x.docket ++
        optFour x.dispensed ++ optFour (if x.anchor.mode = .live then some x.anchor.content else none) ++
        be4 x.anchor.inlet ++ be4 x.anchor.burn ++ be4 x.anchor.time ++ be1 (phaseCode x.phase) ++ be2 x.quiet ++
        be4 x.settle) s.delivery.session ++
      optField 17 (fun (w : Watch) => be4 w.anchor.time ++ be4 w.anchor.inlet ++ be4 w.anchor.burn ++
        be4 w.anchor.content ++ be1 (contentCode w.anchor.mode)) s.delivery.watch ++
      optField 13 (fun (l : LastResult) => be1 l.tanker ++ be2 l.docket ++ be1 l.meterCheck ++ be1 l.levelCheck ++
        be4 l.inlet ++ beInt l.rise) s.delivery.last
    let tanker := be1 (tankerCode s.tanker.state) ++
      optField 23 (fun (o : OpenDelivery) => be1 o.target ++ be2 o.docket ++ be4 o.begin ++ be2 o.attempts ++
        be4 o.timer ++ beBool o.again ++ optFour o.dispensed ++ be4 (dispensedShown s o)) s.tanker.delivery ++
      be2 s.tanker.nextDocket ++ be4 s.tanker.loadFigure ++ be4 s.tankerContent ++
      optField 12 (fun r => be4 r.start ++ be4 r.before ++ be4 r.quiet) s.tanker.run
    let setBill := optField 11 (fun (o : OpenPeriod) => be2 o.period ++ be4 o.elapsed ++ be4 o.idle ++
        beBool o.interrupted) s.setBill.opened ++
      optField 19 (fun (c : ClosedPeriod) => be2 c.period ++ be4 c.fuel ++ be4 c.energy ++ be4 c.run ++ be4 c.idle ++
        beBool c.interrupted) s.setBill.closed ++
      optFour s.setBill.window ++ be1 s.setBill.claims.length ++
      s.setBill.claims.flatMap (fun c => be1 c.board ++ be4 c.energy ++ optFour none) ++
      optField 3 (fun (l : LastAllotments) => be2 l.period ++ be1 l.shares.length ++
        l.shares.flatMap (fun x => be1 x.1 ++ be4 x.2)) s.setBill.last ++
      optTwo (if s.station = .run then some s.setBill.late else none)
    let named := [s.image.setAt 1, s.image.setAt 2, s.image.setAt 3].filter (fun n => n != 0)
    let boardBill := be1 s.boardBill.table.length ++ s.boardBill.table.flatMap (fun e => be1 e.set ++ be1 e.pos ++
        be2 e.period ++ be1 (entryCode e.state) ++ be4 e.incomer ++ (e.wh.take s.image.accountCount).flatMap be4 ++
        (e.peaks.take s.image.accountCount).flatMap be4 ++ beBool e.incomerLost ++ be4 e.unmetered ++ be4 e.openedAt ++
        be4 e.age ++ optField 4 be4Fit e.claim ++ optByte e.attempt ++ be4 e.wait ++ be4 e.waitLength) ++
      be4 s.boardBill.unattributed ++ be1 named.length ++ named.flatMap (fun n => be1 n ++ be2 (s.lastClosedOf n))
    let store := be2 s.records.queue.length ++
      be2 (s.records.queue.filter (fun r => match r.body with | .changeover _ | .event _ => true | _ => false)).length ++
      optTwo (s.records.queue.head?.map Record.seq) ++ be2 s.records.seq ++ be2 s.records.eventLost ++
      (match s.records.setCarry with | none => be2 0 | some c => be2 c.merged ++ setCarry c) ++
      (match s.records.boardCarry with | none => be2 0 | some c => be2 c.merged ++ boardCarry c) ++
      (match s.records.deliveryCarry with | none => be2 0 | some c => be2 c.merged ++ deliveryCarry c) ++
      (match s.records.docketCarry with | none => be2 0 | some c => be2 c.merged ++ docketCarry c) ++
      place s.backupGood ++ be2 s.powerUps ++ be4 s.stationSeconds
    let status := fun (parts : List Byte) => exec (.readStatus []) s = .next (s.replied 3 .ok (common ++ parts ++ store))
    (s.station = .unconfigured →
      (s.image.role = some .set → status (meters ++ loop ++ setBill)) ∧
      (s.image.role = some .board → status (meters ++ loop ++ boardBill)) ∧
      (s.image.role = none ∨ s.image.role = some .tanker → status (meters ++ loop))) ∧
    (s.runs .set = true → status (meters ++ duty ++ arbiter ++ tank ++ delivery ++ setBill)) ∧
    (s.runs .board = true → status (meters ++ stage ++ boardBill)) ∧
    (s.runs .tanker = true → status tanker) ∧
    -- READ_TOTALS (R47, R73, R133, R147, R169)
    (let channels := s.meter.channels.flatMap (fun c => be4 c.wh ++ be2 c.ws ++ be4 c.unmetered ++ be4 c.peak)
     let totals := fun (part : List Byte) => exec (.readTotals []) s = .next (s.replied 5 .ok (channels ++ part))
     (s.station = .unconfigured → totals (be8 s.tank.burnPulses ++ be8 s.tank.inletPulses ++ be8 s.tanker.pulses)) ∧
     (s.runs .set = true → totals (be4 s.duty.starts ++ be4 s.duty.runSeconds ++ be8 s.tank.burnPulses ++
       be8 s.tank.inletPulses ++ be1 1 ++ be4 s.burnCl ++ be1 1 ++ be4 s.inletCl ++
       optField 24 (fun (o : OpenPeriod) => be4 o.burn ++ be4 o.output ++ be4 o.run ++
         be4 (diff32 s.duty.runSeconds o.run) ++ be4 (diff32 s.burnCl o.burn) ++
         be4 (diff32 (s.channel 0).wh o.output)) s.setBill.opened)) ∧
     (s.runs .board = true → totals []) ∧
     (s.runs .tanker = true → totals (be8 s.tanker.pulses ++ be1 1 ++ be4 s.dispenseCl))) ∧
    -- READ_RECORD (R171, R178, R196)
    (s.records.queue = [] → exec (.readRecord []) s = .next (s.replied 6 .none [])) ∧
    (∀ r rest, s.records.queue = r :: rest →
      let absorbed := match r.carry with
        | none => []
        | some (.settleSet c) => setCarry c
        | some (.settleBoard c) => boardCarry c
        | some (.delivery c) => deliveryCarry c
        | some (.docket c) => docketCarry c
      let merged := match r.carry with
        | none => 0
        | some (.settleSet c) => c.merged
        | some (.settleBoard c) => c.merged
        | some (.delivery c) => c.merged
        | some (.docket c) => c.merged
      let record := fun (kind event count : Nat) (body : List Byte) => exec (.readRecord []) s = .next (s.replied 6 .ok
        (be1 kind ++ be1 event ++ be2 r.seq ++ be4 r.stamp ++ be2 r.powerUps ++ be2 count ++ be2 body.length ++ body ++
          absorbed))
      match r.body with
      | .settleSet x => record 1 0 merged (be2 x.period ++ beBool x.interrupted ++ be2 x.run ++ be2 x.idle ++ be4 x.fuel ++
          be4 x.energy ++ be4 x.allotted ++ be4 x.retained ++ be2 x.late ++ be1 x.claims.length ++
          x.claims.flatMap (fun l => be1 l.board ++ be4 l.energy ++ be4 l.share))
      | .settleBoard x => record 2 0 merged (be1 x.set ++ be2 x.period ++ be1 (settleCode x.outcome) ++ be4Fit x.claim ++
          optFour x.allotted ++ be4 x.unmetered ++ be4 x.unattributed ++ be1 x.lines.length ++
          x.lines.flatMap (fun l => be1 l.account ++ be4 l.wh ++
            be1 ((if l.fuel = none then 0 else 1) + (if l.peak = none then 0 else 2)) ++ be4 (l.fuel.getD 0) ++
            be4 (l.peak.getD 0)))
      | .delivery x => record 3 0 merged (place x.tanker.isSome ++ optByte x.tanker ++ optTwo x.docket ++ be4 x.openedAt ++
          optFour x.before ++ optFour x.after ++ be4 x.inlet ++ be4 x.burned ++ beInt x.rise ++ beInt x.variance ++
          be1 x.levelCheck ++ optFour x.dispensed ++ optField 4 beInt x.meterVariance ++
          be1 (meterPlace x.meterCheck))
      | .docket x => record 4 0 merged (be2 x.docket ++ be1 x.target ++ be4 x.dispensed ++
          be1 (docketOutcomeCode x.outcome) ++ optByte x.meterCheck ++ optByte x.levelCheck ++ optFour x.inlet ++
          optField 4 beInt x.rise)
      | .changeover x => record 5 0 r.lost (be2 x.ticket ++ be1 (recordReasonCode x.reason) ++ be1 x.fromPos ++
          be1 x.fromSet ++ be1 x.toPos ++ be1 x.toSet ++ be1 (chgOutcomeCode x.outcome) ++ be4 x.unfed)
      | .event e =>
        let event := fun (kind : Nat) (body : List Byte) => record 6 kind r.lost body
        match e with
        | .retainLost c => event 1 (be1 (lossCode c))
        | .duplicateStation n => event 2 (be1 n)
        | .txDropped kind dest cause => event 3 (be1 kind ++ be1 dest ++ be1 (dropCode cause))
        | .faultRaised c d => event 4 (be1 (faultCode c) ++ be1 (dutyCode d))
        | .meterLostRaised n => event 4 (be1 3 ++ be1 n)
        | .switchFaultRaised c f => event 4 (be1 8 ++ be1 (switchFaultCode c) ++ be1 (flagSet f))
        | .faultCleared c => event 5 (be1 (faultCode c))
        | .meterLostCleared n => event 5 (be1 3 ++ be1 n)
        | .switchFaultCleared => event 5 (be1 8)
        | .lateCommit board ticket load d => event 6 (be1 board ++ be2 ticket ++ be2 load ++ be1 (dutyCode d))
        | .overcommit board ticket headroom => event 7 (be1 board ++ be2 ticket ++ beInt headroom)
        | .feedDiscovered board load => event 8 (be1 board ++ be2 load)
        | .feedFull board => event 9 (be1 board)
        | .levelRecovered step start cause => event 10 (beInt step ++ be4 start ++ be1 (badCode cause))
        | .levelStep step start cause => event 11 (beInt step ++ be4 start ++ be1 (badCode cause))
        | .unloadStalled boards => event 12 (be1 boards.length ++ boards.flatMap be1)
        | .unbookedDispense dispensed start => event 13 (be4 dispensed ++ be4 start)
        | .startFail => event 14 []) ∧
    (∀ p : List Byte, p ≠ [] → exec (.readStatus p) s = .next (s.replied 3 .range []) ∧
      exec (.readTotals p) s = .next (s.replied 5 .range []) ∧
      exec (.readRecord p) s = .next (s.replied 6 .range [])) ∧
    ∀ n : Byte,
      (n.toNat = 0 ∨ 30 < n.toNat → exec (.readPeer [n]) s = .next (s.replied 4 .range [])) ∧
      (1 ≤ n.toNat → n.toNat ≤ 30 →
        (s.image.station = none ∨ s.image.station = some n.toNat ∨ s.peer n.toNat = none →
          exec (.readPeer [n]) s = .next (s.replied 4 .none [])) ∧
        (∀ own p, s.image.station = some own → own ≠ n.toNat → s.peer n.toNat = some p →
          exec (.readPeer [n]) s = .next (s.replied 4 .ok
            (be1 p.station ++ be1 (match p.role with | none => 0 | some .set => 1 | some .board => 2 | some .tanker => 3) ++
              be1 (freshCode p.fresh) ++ be4 p.since ++
              match p.body with
              | none => be1 0
              | some b => be1 (statusFields b).length ++ statusFields b))))

/-- REMOVE_RECORD takes the head of the queue where the number named is its sequence number, in every state and role, and
answers NONE on an empty queue and SEQUENCE otherwise; the attention line follows what the queue still holds (R179,
R193). -/
def Obligations.RemoveRecordTakesTheHead : Prop :=
  ∀ (s : State) (a b : Byte), s.listens →
    (s.records.queue = [] → exec (.removeRecord [a, b]) s = .next (s.replied 7 .none [])) ∧
    ∀ r rest, s.records.queue = r :: rest →
      (rd2 a b = r.seq →
        ∃ t, exec (.removeRecord [a, b]) s = .next t ∧
          t = { s with records := { s.records with queue := rest } }.replied 7 .ok [] ∧
          (t.attn = true ↔ rest ≠ [] ∨ ∃ e ∈ s.duty.faults, e.acked = false)) ∧
      (rd2 a b ≠ r.seq → exec (.removeRecord [a, b]) s = .next (s.replied 7 .sequence []))

/-- MODE and STOP_FORCE at a SET in RUN act by the duty state; another mode is RANGE, UNCONFIGURED STATE, another role
ROLE, and STOP_FORCE outside UNLOADING STATE (R57, R58). The mode alone changes where the table of R57 has the set stay
as it is, in OFF with PRIME under the start inhibit among them (R63), whatever conditions are present; where the duty state
changes, a condition that would go with it is left out. A STOP in STARTING, WARMING and READY takes every reservation, in
list order, its board answered REFUSE STOPPING (R67, R84); in READY the set is UNLOADING, and with an empty feed list it
goes on to COOLING in the same event (R55, R56, R57). Entry to COOLING with COOLDOWN 0 goes on to OFF with RUN_OFF (R55).
PRIME in COOLING entered by idle-stop closes the breaker again in READY; in COOLING entered otherwise the mode alone
changes (R55). Choices of the model within it, that STOP_FORCE is taken whatever its argument is (log 56) among them:
logs 15, 34, 56. -/
def Obligations.RunModeActsOnTheDutyState : Prop :=
  ∀ (s : State) (m : Byte), s.listens →
    let mode := Instr.mode [0#8, 0#8, 0#8, m]
    let force := Instr.stopForce [0#8, 0#8, 0#8, m]
    let replied := fun (t : State) => Host.Outcome.next ({ t with port := s.port }.replied 8 .ok [])
    let duty := { s.duty with idle := 0 }
    (s.station = .unconfigured →
      exec force s = .next (s.replied 8 .state []) ∧ exec mode s = .next (s.replied 8 .state [])) ∧
    (s.station = .run → s.image.role ≠ some .set →
      exec force s = .next (s.replied 8 .role []) ∧ exec mode s = .next (s.replied 8 .role [])) ∧
    (s.runs .set = true → s.Settled →
      (s.duty.state ≠ .unloading → exec force s = .next (s.replied 8 .state [])) ∧
      (2 < m.toNat → exec mode s = .next (s.replied 8 .range [])) ∧
      (m.toNat = 0 → exec mode s = replied { s with duty := { duty with mode := .auto } }) ∧
      (m.toNat = 1 → (s.duty.state = .off → s.inhibit = true) → (s.duty.state = .cooling → s.duty.origin ≠ some .idle) →
        exec mode s = replied { s with duty := { duty with mode := .prime } }) ∧
      (m.toNat = 2 → s.duty.state = .off ∨ s.duty.state = .unloading ∨ s.duty.state = .fault →
        exec mode s = replied { s with duty := { duty with mode := .stop } }) ∧
      (m.toNat = 2 → s.duty.state = .cooling →
        exec mode s = replied { s with
          duty := { duty with mode := .stop, origin := some .stopping, overload := 0, burnSilence := 0 } })) ∧
    (s.runs .set = true → s.present .engineFault = false → s.present .breaker = false → s.present .burnSilent = false →
      let stop := { duty with mode := .stop, overload := 0, burnSilence := 0 }
      let cooled := fun (u : State) => postStatus { u with
        pulses := { u.pulses with breaker := some .brkOpen }
        duty := { u.duty with
          state := .cooling, origin := some .stopping, timer := 0, overload := 0, burnSilence := 0, brkClosed := false
          disagree := if u.duty.brkClosed then 0 else u.duty.disagree } }
      let ended := fun (u : State) =>
        if s.image.cooldownTime ≠ 0 then cooled u
        else postStatus { cooled u with
          pulses := { engine := some .runOff, breaker := some .brkOpen }
          duty := { (cooled u).duty with state := .off, origin := none, runOn := false } }
      (m.toNat = 2 →
        (s.duty.state = .starting →
          exec mode s = replied (postStatus (State.refusing reasonStopping s.reservations { s with
            pulses := { s.pulses with engine := some .runOff }
            duty := { stop with state := .off, origin := none, runOn := false } }))) ∧
        (s.duty.state = .warming →
          exec mode s = replied (ended (State.refusing reasonStopping s.reservations { s with
            duty := { stop with state := .cooling, origin := some .stopping } }))) ∧
        (s.duty.state = .ready →
          let unloading := postStatus (State.refusing reasonStopping s.reservations { s with
            duty := { stop with
              state := .unloading, origin := none, timer := 0, overload := s.duty.overload, stallNoted := false } })
          exec mode s = replied (if s.duty.feed = [] then ended unloading else unloading))) ∧
      (m.toNat = 1 → s.duty.state = .off → s.inhibit = false → s.duty.starts + 1 < two32 →
        let starting := postStatus { s with
          pulses := { s.pulses with engine := some .runOn }
          duty := { duty with
            mode := .prime, state := .starting, origin := none, timer := 0, overload := 0, burnSilence := 0, runOn := true
            starts := s.duty.starts + 1 } }
        (s.input 1 = false → exec mode s = replied starting) ∧
        (s.input 1 = true → s.image.warmupTime ≠ 0 →
          exec mode s = replied (postStatus { starting with duty := { starting.duty with state := .warming } }))) ∧
      (m.toNat = 1 → s.duty.state = .cooling → s.duty.origin = some .idle →
        exec mode s = replied (postStatus { s with
          pulses := { s.pulses with breaker := some .brkClose }
          duty := { duty with
            mode := .prime, state := .ready, origin := none, brkClosed := true
            disagree := if s.duty.brkClosed then s.duty.disagree else 0 } })) ∧
      (s.duty.state = .unloading → s.image.cooldownTime ≠ 0 ∨ s.duty.mode ≠ .prime →
        exec force s = replied (ended s)))

/-- CHANGEOVER at a BOARD in RUN begins a PLANNED attempt on the position named; ABORT ends one in SEEKING or WAITING with
a RELEASE, its record and, unless it was PLANNED, the retry timer, which holds the attempt's own reason off; the refusals
of R96 and R111 in their order. The ends are those after which no test of R98 fires. That ABORT is taken whatever its
argument is, is the model's choice (log 56). -/
def Obligations.ChangeoverAndAbortAreAnswered : Prop :=
  ∀ (s : State) (p : Byte), s.listens →
    let pos := p.toNat
    let change := Instr.changeover [0#8, 0#8, 0#8, p]
    let abort := Instr.abort [0#8, 0#8, 0#8, p]
    let replied := fun (t : State) => Host.Outcome.next ({ t with port := s.port }.replied 8 .ok [])
    let ticket := nextNumber 255 s.chg.ticket
    let estimate := if s.stageLive then s.output else s.chg.lastLive.getD s.image.stageLoad
    let begun := { s.chg with state := .seeking, retry := none }
    (s.station = .unconfigured →
      exec change s = .next (s.replied 8 .state []) ∧ exec abort s = .next (s.replied 8 .state [])) ∧
    (s.station = .run → s.image.role ≠ some .board →
      exec change s = .next (s.replied 8 .role []) ∧ exec abort s = .next (s.replied 8 .role [])) ∧
    (s.runs .board = true →
      (pos = 0 ∨ 3 < pos ∨ s.image.setAt pos = 0 → exec change s = .next (s.replied 8 .range [])) ∧
      (1 ≤ pos → pos ≤ 3 → s.image.setAt pos ≠ 0 →
        (s.chg.state ≠ .idle → exec change s = .next (s.replied 8 .state [])) ∧
        (s.chg.state = .idle → s.closedPos = pos → exec change s = .next (s.replied 8 .none [])) ∧
        (s.chg.state = .idle → s.closedPos ≠ pos →
          exec change s = replied (post
            { postStatus { s with chg := begun } with
                chg := { begun with
                  ticket := ticket
                  attempt := some
                    { reason := .planned, fromPos := s.closedPos, oldPos := 0, estimate := estimate, candidates := [pos],
                      cursor := 0, ticket := ticket, sends := 1, timer := 0, unfed := 0, owed := false, asked := pos,
                      returning := false } } }
            (s.image.setAt pos) (.take ticket estimate (reasonCode .planned))))) ∧
      (s.chg.state = .breaking ∨ s.chg.state = .dead ∨ s.chg.state = .making →
        exec abort s = .next (s.replied 8 .committed [])) ∧
      (s.chg.state = .idle ∨ s.chg.state = .locked → exec abort s = .next (s.replied 8 .none [])) ∧
      ∀ a, s.chg.attempt = some a → s.chg.state = .seeking ∨ s.chg.state = .waiting →
        let retry := if a.reason = .planned then s.chg.retry else some (0, a.reason)
        s.Calm retry s.chg.dwell →
        exec abort s = replied (postStatus
          { addRecord (post s (s.image.setAt a.target) (.release a.ticket)) (.changeover
              { ticket := a.ticket, reason := a.reason, fromPos := a.fromPos, fromSet := s.image.setAt a.fromPos,
                toPos := a.asked, toSet := s.image.setAt a.asked, outcome := .aborted, unfed := a.unfed }) with
            chg := { s.chg with
              state := .idle, attempt := none, retry := retry, quiet := if a.asked = 0 then s.chg.quiet else none } }))

/-- DELIVERY_BEGIN, DELIVERY_END and LOAD at a TANKER in RUN: a delivery takes the next docket and posts DELIVER_OPEN, an
unbooked run that is open ends with its UNBOOKED_DISPENSE record first, its end fixes the figure and posts the DOCKET, LOAD
anchors the content; refused by state, role or range (R142, R143, R144, R145). That DELIVERY_END is taken whatever its
argument is, is the model's choice (log 56). -/
def Obligations.TankerRequestsAreAnswered : Prop :=
  ∀ (s : State) (a b c d : Byte), s.listens →
    let v := rd4 a b c d
    let begins := Instr.deliveryBegin [a, b, c, d]
    let ends := Instr.deliveryEnd [a, b, c, d]
    let loads := Instr.load [a, b, c, d]
    let replied := fun (t : State) => Host.Outcome.next ({ t with port := s.port }.replied 8 .ok [])
    (s.station = .unconfigured → exec begins s = .next (s.replied 8 .state []) ∧
      exec ends s = .next (s.replied 8 .state []) ∧ exec loads s = .next (s.replied 8 .state [])) ∧
    (s.station = .run → s.image.role ≠ some .tanker → exec begins s = .next (s.replied 8 .role []) ∧
      exec ends s = .next (s.replied 8 .role []) ∧ exec loads s = .next (s.replied 8 .role [])) ∧
    (s.runs .tanker = true →
      exec loads s = replied { s with tanker := { s.tanker with loadFigure := v, loadAnchor := s.dispenseCl } } ∧
      (v = 0 ∨ 30 < v ∨ s.image.station = some v → exec begins s = .next (s.replied 8 .range [])) ∧
      (1 ≤ v → v ≤ 30 → s.image.station ≠ some v →
        (s.tanker.state ≠ .idle → exec begins s = .next (s.replied 8 .state [])) ∧
        (s.tanker.state = .idle →
          let begun := fun (w : State) => replied (post
            { w with
                tanker := { s.tanker with
                  state := .opening, nextDocket := nextNumber 65535 s.tanker.nextDocket, run := none
                  delivery := some
                    { target := v, docket := s.tanker.nextDocket, begin := s.dispenseCl, attempts := 1, timer := 0,
                      again := false, dispensed := none } } }
            v (.deliverOpen s.tanker.nextDocket))
          (s.tanker.run = none → exec begins s = begun s) ∧
          (∀ r, s.tanker.run = some r → exec begins s = begun { s with
            records := appendTo s.records s.stationSeconds s.powerUps
              (.event (.unbookedDispense ((s.dispenseCl + two32 - r.before) % two32) r.start)) }))) ∧
      (s.tanker.state ≠ .dispensing → exec ends s = .next (s.replied 8 .state [])) ∧
      (∀ o, s.tanker.state = .dispensing → s.tanker.delivery = some o →
        let figure := (s.dispenseCl + two32 - o.begin) % two32
        exec ends s = replied (post
          { s with
              tanker := { s.tanker with
                state := .closing, delivery := some { o with dispensed := some figure, timer := 0 } } }
          o.target (.docket o.docket figure))))

/-- ACK_FAULT at a SET in RUN acknowledges the entry of the class named, or every one, and an entry that is GONE leaves;
without an entry NONE, another class RANGE, in another role ROLE, in UNCONFIGURED STATE; no duty state changes, and an
entry that leaves posts a STATUS (R64, R65). -/
def Obligations.AckFaultAcknowledgesEntries : Prop :=
  ∀ (s : State) (n : Byte), s.listens →
    let acked := fun (which : FaultEntry → Bool) =>
      (s.duty.faults.map (fun e => if which e then { e with acked := true } else e)).filter
        (fun e => e.present || !e.acked)
    let done := fun (faults : List FaultEntry) =>
      let kept := { s with duty := { s.duty with faults := faults } }
      let told := if faults.length = s.duty.faults.length then kept else postStatus kept
      exec (.ackFault [n]) s = .next (told.replied 9 .ok [])
    (s.station = .unconfigured → exec (.ackFault [n]) s = .next (s.replied 9 .state [])) ∧
    (s.station = .run → s.image.role ≠ some .set → exec (.ackFault [n]) s = .next (s.replied 9 .role [])) ∧
    (s.runs .set = true → s.Settled →
      (n.toNat = 255 → s.duty.faults = [] → exec (.ackFault [n]) s = .next (s.replied 9 .none [])) ∧
      (n.toNat = 255 → s.duty.faults ≠ [] → done (acked (fun _ => true))) ∧
      (7 < n.toNat → n.toNat < 255 → exec (.ackFault [n]) s = .next (s.replied 9 .range [])) ∧
      ∀ c : FaultClass, n.toNat = faultCode c →
        ((∀ e ∈ s.duty.faults, e.cls ≠ c) → exec (.ackFault [n]) s = .next (s.replied 9 .none [])) ∧
        ((∃ e ∈ s.duty.faults, e.cls = c) → done (acked (fun e => e.cls == c))))

/-- CLEAR_FAULT takes a SET from FAULT to OFF where no TRIP condition is present, and a BOARD from LOCKED to IDLE where at
most one feedback is; otherwise STATE or NONE, in a TANKER ROLE, in UNCONFIGURED STATE (R66, R95). A SET in PRIME without
start inhibit starts at once (R51, R66); a BOARD takes the first trigger whose condition holds, the retry and dwell timers
being stopped, then the dry note's (R95, R97, R98). Choices of the model within it: log 27. -/
def Obligations.ClearFaultReleasesTheStation : Prop :=
  ∀ s : State, s.listens →
    let clear := Instr.clearFault []
    let replied := fun (t : State) => Host.Outcome.next ({ t with port := s.port }.replied 10 .ok [])
    (s.station = .unconfigured → exec clear s = .next (s.replied 10 .state [])) ∧
    (s.runs .tanker = true → exec clear s = .next (s.replied 10 .role [])) ∧
    (s.runs .set = true →
      (s.duty.state ≠ .fault → exec clear s = .next (s.replied 10 .none [])) ∧
      (s.duty.state = .fault → s.tripPresent = true → exec clear s = .next (s.replied 10 .state [])) ∧
      (s.duty.state = .fault → s.tripPresent = false → s.Settled →
        let off := postStatus { s with
          duty := { s.duty with state := .off, origin := none, overload := 0, burnSilence := 0 } }
        (s.duty.mode ≠ .prime ∨ s.inhibit = true → exec clear s = replied off) ∧
        (s.duty.mode = .prime → s.inhibit = false → s.input 1 = false → s.duty.starts + 1 < two32 →
          exec clear s = replied (postStatus { off with
            pulses := { s.pulses with engine := some .runOn }
            duty := { off.duty with state := .starting, timer := 0, starts := s.duty.starts + 1, runOn := true } })))) ∧
    (s.runs .board = true →
      (s.chg.state ≠ .locked → exec clear s = .next (s.replied 10 .none [])) ∧
      (s.chg.state = .locked → 2 ≤ s.closedList.length → exec clear s = .next (s.replied 10 .state [])) ∧
      (s.chg.state = .locked → s.closedList.length < 2 →
        let w := postStatus
          { addEvent s .switchFaultCleared with
              chg := { s.chg with state := .idle, fault := none, retry := none, dwell := none } }
        let begun := fun (r : Reason) => replied (beginAttempt w r (candidateList w (loadEstimate w)))
        (s.Calm none none → exec clear s = replied w) ∧
        (s.closedPos ≠ 0 → s.liveAt s.closedPos = .notLive → exec clear s = begun .dead) ∧
        (s.closedList = [] → s.image.restores = true → exec clear s = begun .restore) ∧
        (deadTest s = false → s.closedList ≠ [] → unloadingTest s = true → exec clear s = begun .unload) ∧
        (∀ n, deadTest s = false → restoreTest s = false → unloadingTest s = false → s.chg.dryNote = some n →
          (n = s.feedingSet → s.feedingStatus.any SetStatus.dryFlag = true → exec clear s = begun .dry) ∧
          (n ≠ s.feedingSet ∨ s.feedingStatus.any SetStatus.dryFlag = false →
            exec clear s = replied { w with chg := { w.chg with dryNote := none } }))))
end

