-- ==== Sys2Proof/Laws/State.lean ====
section
/-! SUPPORT. What each update of the state leaves and sets: one lemma for each field, so that no later proof unfolds an
update. -/

namespace Sys2Proof.Machine

/-! ### setPhase -/

@[simp] theorem setPhase_mainOn (s : State) (p : LinePhase) : (setPhase s p).mainOn = s.mainOn := rfl
@[simp] theorem setPhase_resetHeld (s : State) (p : LinePhase) : (setPhase s p).resetHeld = s.resetHeld := rfl
@[simp] theorem setPhase_station (s : State) (p : LinePhase) : (setPhase s p).station = s.station := rfl
@[simp] theorem setPhase_image (s : State) (p : LinePhase) : (setPhase s p).image = s.image := rfl
@[simp] theorem setPhase_inputs (s : State) (p : LinePhase) : (setPhase s p).inputs = s.inputs := rfl
@[simp] theorem setPhase_backupGood (s : State) (p : LinePhase) : (setPhase s p).backupGood = s.backupGood := rfl
@[simp] theorem setPhase_doubt (s : State) (p : LinePhase) : (setPhase s p).doubt = s.doubt := rfl
@[simp] theorem setPhase_checkAgrees (s : State) (p : LinePhase) : (setPhase s p).checkAgrees = s.checkAgrees := rfl
@[simp] theorem setPhase_powerUps (s : State) (p : LinePhase) : (setPhase s p).powerUps = s.powerUps := rfl
@[simp] theorem setPhase_stationSeconds (s : State) (p : LinePhase) : (setPhase s p).stationSeconds = s.stationSeconds := rfl
@[simp] theorem setPhase_pulses (s : State) (p : LinePhase) : (setPhase s p).pulses = s.pulses := rfl
@[simp] theorem setPhase_peers (s : State) (p : LinePhase) : (setPhase s p).peers = s.peers := rfl
@[simp] theorem setPhase_meter (s : State) (p : LinePhase) : (setPhase s p).meter = s.meter := rfl
@[simp] theorem setPhase_duty (s : State) (p : LinePhase) : (setPhase s p).duty = s.duty := rfl
@[simp] theorem setPhase_reservations (s : State) (p : LinePhase) : (setPhase s p).reservations = s.reservations := rfl
@[simp] theorem setPhase_chg (s : State) (p : LinePhase) : (setPhase s p).chg = s.chg := rfl
@[simp] theorem setPhase_tank (s : State) (p : LinePhase) : (setPhase s p).tank = s.tank := rfl
@[simp] theorem setPhase_delivery (s : State) (p : LinePhase) : (setPhase s p).delivery = s.delivery := rfl
@[simp] theorem setPhase_tanker (s : State) (p : LinePhase) : (setPhase s p).tanker = s.tanker := rfl
@[simp] theorem setPhase_setBill (s : State) (p : LinePhase) : (setPhase s p).setBill = s.setBill := rfl
@[simp] theorem setPhase_boardBill (s : State) (p : LinePhase) : (setPhase s p).boardBill = s.boardBill := rfl
@[simp] theorem setPhase_records (s : State) (p : LinePhase) : (setPhase s p).records = s.records := rfl
@[simp] theorem setPhase_port (s : State) (p : LinePhase) : (setPhase s p).port = s.port := rfl
@[simp] theorem setPhase_free (s : State) (p : LinePhase) : (setPhase s p).free = s.free := rfl
@[simp] theorem setPhase_pending (s : State) (p : LinePhase) : (setPhase s p).pending = s.pending := rfl

/-! ### setAttempt -/

@[simp] theorem setAttempt_mainOn (s : State) (a : Option Attempt) : (setAttempt s a).mainOn = s.mainOn := rfl
@[simp] theorem setAttempt_resetHeld (s : State) (a : Option Attempt) : (setAttempt s a).resetHeld = s.resetHeld := rfl
@[simp] theorem setAttempt_station (s : State) (a : Option Attempt) : (setAttempt s a).station = s.station := rfl
@[simp] theorem setAttempt_image (s : State) (a : Option Attempt) : (setAttempt s a).image = s.image := rfl
@[simp] theorem setAttempt_inputs (s : State) (a : Option Attempt) : (setAttempt s a).inputs = s.inputs := rfl
@[simp] theorem setAttempt_backupGood (s : State) (a : Option Attempt) : (setAttempt s a).backupGood = s.backupGood := rfl
@[simp] theorem setAttempt_doubt (s : State) (a : Option Attempt) : (setAttempt s a).doubt = s.doubt := rfl
@[simp] theorem setAttempt_checkAgrees (s : State) (a : Option Attempt) : (setAttempt s a).checkAgrees = s.checkAgrees := rfl
@[simp] theorem setAttempt_powerUps (s : State) (a : Option Attempt) : (setAttempt s a).powerUps = s.powerUps := rfl
@[simp] theorem setAttempt_stationSeconds (s : State) (a : Option Attempt) : (setAttempt s a).stationSeconds = s.stationSeconds := rfl
@[simp] theorem setAttempt_pulses (s : State) (a : Option Attempt) : (setAttempt s a).pulses = s.pulses := rfl
@[simp] theorem setAttempt_line (s : State) (a : Option Attempt) : (setAttempt s a).line = s.line := rfl
@[simp] theorem setAttempt_peers (s : State) (a : Option Attempt) : (setAttempt s a).peers = s.peers := rfl
@[simp] theorem setAttempt_meter (s : State) (a : Option Attempt) : (setAttempt s a).meter = s.meter := rfl
@[simp] theorem setAttempt_duty (s : State) (a : Option Attempt) : (setAttempt s a).duty = s.duty := rfl
@[simp] theorem setAttempt_reservations (s : State) (a : Option Attempt) : (setAttempt s a).reservations = s.reservations := rfl
@[simp] theorem setAttempt_tank (s : State) (a : Option Attempt) : (setAttempt s a).tank = s.tank := rfl
@[simp] theorem setAttempt_delivery (s : State) (a : Option Attempt) : (setAttempt s a).delivery = s.delivery := rfl
@[simp] theorem setAttempt_tanker (s : State) (a : Option Attempt) : (setAttempt s a).tanker = s.tanker := rfl
@[simp] theorem setAttempt_setBill (s : State) (a : Option Attempt) : (setAttempt s a).setBill = s.setBill := rfl
@[simp] theorem setAttempt_boardBill (s : State) (a : Option Attempt) : (setAttempt s a).boardBill = s.boardBill := rfl
@[simp] theorem setAttempt_records (s : State) (a : Option Attempt) : (setAttempt s a).records = s.records := rfl
@[simp] theorem setAttempt_port (s : State) (a : Option Attempt) : (setAttempt s a).port = s.port := rfl
@[simp] theorem setAttempt_free (s : State) (a : Option Attempt) : (setAttempt s a).free = s.free := rfl
@[simp] theorem setAttempt_pending (s : State) (a : Option Attempt) : (setAttempt s a).pending = s.pending := rfl

/-! ### setCmd -/

@[simp] theorem setCmd_mainOn (s : State) (c : Option SwitchCmd) : (setCmd s c).mainOn = s.mainOn := rfl
@[simp] theorem setCmd_resetHeld (s : State) (c : Option SwitchCmd) : (setCmd s c).resetHeld = s.resetHeld := rfl
@[simp] theorem setCmd_station (s : State) (c : Option SwitchCmd) : (setCmd s c).station = s.station := rfl
@[simp] theorem setCmd_image (s : State) (c : Option SwitchCmd) : (setCmd s c).image = s.image := rfl
@[simp] theorem setCmd_inputs (s : State) (c : Option SwitchCmd) : (setCmd s c).inputs = s.inputs := rfl
@[simp] theorem setCmd_backupGood (s : State) (c : Option SwitchCmd) : (setCmd s c).backupGood = s.backupGood := rfl
@[simp] theorem setCmd_doubt (s : State) (c : Option SwitchCmd) : (setCmd s c).doubt = s.doubt := rfl
@[simp] theorem setCmd_checkAgrees (s : State) (c : Option SwitchCmd) : (setCmd s c).checkAgrees = s.checkAgrees := rfl
@[simp] theorem setCmd_powerUps (s : State) (c : Option SwitchCmd) : (setCmd s c).powerUps = s.powerUps := rfl
@[simp] theorem setCmd_stationSeconds (s : State) (c : Option SwitchCmd) : (setCmd s c).stationSeconds = s.stationSeconds := rfl
@[simp] theorem setCmd_pulses (s : State) (c : Option SwitchCmd) : (setCmd s c).pulses = s.pulses := rfl
@[simp] theorem setCmd_line (s : State) (c : Option SwitchCmd) : (setCmd s c).line = s.line := rfl
@[simp] theorem setCmd_peers (s : State) (c : Option SwitchCmd) : (setCmd s c).peers = s.peers := rfl
@[simp] theorem setCmd_meter (s : State) (c : Option SwitchCmd) : (setCmd s c).meter = s.meter := rfl
@[simp] theorem setCmd_duty (s : State) (c : Option SwitchCmd) : (setCmd s c).duty = s.duty := rfl
@[simp] theorem setCmd_reservations (s : State) (c : Option SwitchCmd) : (setCmd s c).reservations = s.reservations := rfl
@[simp] theorem setCmd_tank (s : State) (c : Option SwitchCmd) : (setCmd s c).tank = s.tank := rfl
@[simp] theorem setCmd_delivery (s : State) (c : Option SwitchCmd) : (setCmd s c).delivery = s.delivery := rfl
@[simp] theorem setCmd_tanker (s : State) (c : Option SwitchCmd) : (setCmd s c).tanker = s.tanker := rfl
@[simp] theorem setCmd_setBill (s : State) (c : Option SwitchCmd) : (setCmd s c).setBill = s.setBill := rfl
@[simp] theorem setCmd_boardBill (s : State) (c : Option SwitchCmd) : (setCmd s c).boardBill = s.boardBill := rfl
@[simp] theorem setCmd_records (s : State) (c : Option SwitchCmd) : (setCmd s c).records = s.records := rfl
@[simp] theorem setCmd_port (s : State) (c : Option SwitchCmd) : (setCmd s c).port = s.port := rfl
@[simp] theorem setCmd_free (s : State) (c : Option SwitchCmd) : (setCmd s c).free = s.free := rfl
@[simp] theorem setCmd_pending (s : State) (c : Option SwitchCmd) : (setCmd s c).pending = s.pending := rfl

/-! ### setSession -/

@[simp] theorem setSession_mainOn (s : State) (x : Option Session) : (setSession s x).mainOn = s.mainOn := rfl
@[simp] theorem setSession_resetHeld (s : State) (x : Option Session) : (setSession s x).resetHeld = s.resetHeld := rfl
@[simp] theorem setSession_station (s : State) (x : Option Session) : (setSession s x).station = s.station := rfl
@[simp] theorem setSession_image (s : State) (x : Option Session) : (setSession s x).image = s.image := rfl
@[simp] theorem setSession_inputs (s : State) (x : Option Session) : (setSession s x).inputs = s.inputs := rfl
@[simp] theorem setSession_backupGood (s : State) (x : Option Session) : (setSession s x).backupGood = s.backupGood := rfl
@[simp] theorem setSession_doubt (s : State) (x : Option Session) : (setSession s x).doubt = s.doubt := rfl
@[simp] theorem setSession_checkAgrees (s : State) (x : Option Session) : (setSession s x).checkAgrees = s.checkAgrees := rfl
@[simp] theorem setSession_powerUps (s : State) (x : Option Session) : (setSession s x).powerUps = s.powerUps := rfl
@[simp] theorem setSession_stationSeconds (s : State) (x : Option Session) : (setSession s x).stationSeconds = s.stationSeconds := rfl
@[simp] theorem setSession_pulses (s : State) (x : Option Session) : (setSession s x).pulses = s.pulses := rfl
@[simp] theorem setSession_line (s : State) (x : Option Session) : (setSession s x).line = s.line := rfl
@[simp] theorem setSession_peers (s : State) (x : Option Session) : (setSession s x).peers = s.peers := rfl
@[simp] theorem setSession_meter (s : State) (x : Option Session) : (setSession s x).meter = s.meter := rfl
@[simp] theorem setSession_duty (s : State) (x : Option Session) : (setSession s x).duty = s.duty := rfl
@[simp] theorem setSession_reservations (s : State) (x : Option Session) : (setSession s x).reservations = s.reservations := rfl
@[simp] theorem setSession_chg (s : State) (x : Option Session) : (setSession s x).chg = s.chg := rfl
@[simp] theorem setSession_tank (s : State) (x : Option Session) : (setSession s x).tank = s.tank := rfl
@[simp] theorem setSession_tanker (s : State) (x : Option Session) : (setSession s x).tanker = s.tanker := rfl
@[simp] theorem setSession_setBill (s : State) (x : Option Session) : (setSession s x).setBill = s.setBill := rfl
@[simp] theorem setSession_boardBill (s : State) (x : Option Session) : (setSession s x).boardBill = s.boardBill := rfl
@[simp] theorem setSession_records (s : State) (x : Option Session) : (setSession s x).records = s.records := rfl
@[simp] theorem setSession_port (s : State) (x : Option Session) : (setSession s x).port = s.port := rfl
@[simp] theorem setSession_free (s : State) (x : Option Session) : (setSession s x).free = s.free := rfl
@[simp] theorem setSession_pending (s : State) (x : Option Session) : (setSession s x).pending = s.pending := rfl

/-! ### setOpen -/

@[simp] theorem setOpen_mainOn (s : State) (o : OpenDelivery) : (setOpen s o).mainOn = s.mainOn := rfl
@[simp] theorem setOpen_resetHeld (s : State) (o : OpenDelivery) : (setOpen s o).resetHeld = s.resetHeld := rfl
@[simp] theorem setOpen_station (s : State) (o : OpenDelivery) : (setOpen s o).station = s.station := rfl
@[simp] theorem setOpen_image (s : State) (o : OpenDelivery) : (setOpen s o).image = s.image := rfl
@[simp] theorem setOpen_inputs (s : State) (o : OpenDelivery) : (setOpen s o).inputs = s.inputs := rfl
@[simp] theorem setOpen_backupGood (s : State) (o : OpenDelivery) : (setOpen s o).backupGood = s.backupGood := rfl
@[simp] theorem setOpen_doubt (s : State) (o : OpenDelivery) : (setOpen s o).doubt = s.doubt := rfl
@[simp] theorem setOpen_checkAgrees (s : State) (o : OpenDelivery) : (setOpen s o).checkAgrees = s.checkAgrees := rfl
@[simp] theorem setOpen_powerUps (s : State) (o : OpenDelivery) : (setOpen s o).powerUps = s.powerUps := rfl
@[simp] theorem setOpen_stationSeconds (s : State) (o : OpenDelivery) : (setOpen s o).stationSeconds = s.stationSeconds := rfl
@[simp] theorem setOpen_pulses (s : State) (o : OpenDelivery) : (setOpen s o).pulses = s.pulses := rfl
@[simp] theorem setOpen_line (s : State) (o : OpenDelivery) : (setOpen s o).line = s.line := rfl
@[simp] theorem setOpen_peers (s : State) (o : OpenDelivery) : (setOpen s o).peers = s.peers := rfl
@[simp] theorem setOpen_meter (s : State) (o : OpenDelivery) : (setOpen s o).meter = s.meter := rfl
@[simp] theorem setOpen_duty (s : State) (o : OpenDelivery) : (setOpen s o).duty = s.duty := rfl
@[simp] theorem setOpen_reservations (s : State) (o : OpenDelivery) : (setOpen s o).reservations = s.reservations := rfl
@[simp] theorem setOpen_chg (s : State) (o : OpenDelivery) : (setOpen s o).chg = s.chg := rfl
@[simp] theorem setOpen_tank (s : State) (o : OpenDelivery) : (setOpen s o).tank = s.tank := rfl
@[simp] theorem setOpen_delivery (s : State) (o : OpenDelivery) : (setOpen s o).delivery = s.delivery := rfl
@[simp] theorem setOpen_setBill (s : State) (o : OpenDelivery) : (setOpen s o).setBill = s.setBill := rfl
@[simp] theorem setOpen_boardBill (s : State) (o : OpenDelivery) : (setOpen s o).boardBill = s.boardBill := rfl
@[simp] theorem setOpen_records (s : State) (o : OpenDelivery) : (setOpen s o).records = s.records := rfl
@[simp] theorem setOpen_port (s : State) (o : OpenDelivery) : (setOpen s o).port = s.port := rfl
@[simp] theorem setOpen_free (s : State) (o : OpenDelivery) : (setOpen s o).free = s.free := rfl
@[simp] theorem setOpen_pending (s : State) (o : OpenDelivery) : (setOpen s o).pending = s.pending := rfl

/-! ### setTable -/

@[simp] theorem setTable_mainOn (s : State) (l : List Entry) : (setTable s l).mainOn = s.mainOn := rfl
@[simp] theorem setTable_resetHeld (s : State) (l : List Entry) : (setTable s l).resetHeld = s.resetHeld := rfl
@[simp] theorem setTable_station (s : State) (l : List Entry) : (setTable s l).station = s.station := rfl
@[simp] theorem setTable_image (s : State) (l : List Entry) : (setTable s l).image = s.image := rfl
@[simp] theorem setTable_inputs (s : State) (l : List Entry) : (setTable s l).inputs = s.inputs := rfl
@[simp] theorem setTable_backupGood (s : State) (l : List Entry) : (setTable s l).backupGood = s.backupGood := rfl
@[simp] theorem setTable_doubt (s : State) (l : List Entry) : (setTable s l).doubt = s.doubt := rfl
@[simp] theorem setTable_checkAgrees (s : State) (l : List Entry) : (setTable s l).checkAgrees = s.checkAgrees := rfl
@[simp] theorem setTable_powerUps (s : State) (l : List Entry) : (setTable s l).powerUps = s.powerUps := rfl
@[simp] theorem setTable_stationSeconds (s : State) (l : List Entry) : (setTable s l).stationSeconds = s.stationSeconds := rfl
@[simp] theorem setTable_pulses (s : State) (l : List Entry) : (setTable s l).pulses = s.pulses := rfl
@[simp] theorem setTable_line (s : State) (l : List Entry) : (setTable s l).line = s.line := rfl
@[simp] theorem setTable_peers (s : State) (l : List Entry) : (setTable s l).peers = s.peers := rfl
@[simp] theorem setTable_meter (s : State) (l : List Entry) : (setTable s l).meter = s.meter := rfl
@[simp] theorem setTable_duty (s : State) (l : List Entry) : (setTable s l).duty = s.duty := rfl
@[simp] theorem setTable_reservations (s : State) (l : List Entry) : (setTable s l).reservations = s.reservations := rfl
@[simp] theorem setTable_chg (s : State) (l : List Entry) : (setTable s l).chg = s.chg := rfl
@[simp] theorem setTable_tank (s : State) (l : List Entry) : (setTable s l).tank = s.tank := rfl
@[simp] theorem setTable_delivery (s : State) (l : List Entry) : (setTable s l).delivery = s.delivery := rfl
@[simp] theorem setTable_tanker (s : State) (l : List Entry) : (setTable s l).tanker = s.tanker := rfl
@[simp] theorem setTable_setBill (s : State) (l : List Entry) : (setTable s l).setBill = s.setBill := rfl
@[simp] theorem setTable_records (s : State) (l : List Entry) : (setTable s l).records = s.records := rfl
@[simp] theorem setTable_port (s : State) (l : List Entry) : (setTable s l).port = s.port := rfl
@[simp] theorem setTable_free (s : State) (l : List Entry) : (setTable s l).free = s.free := rfl
@[simp] theorem setTable_pending (s : State) (l : List Entry) : (setTable s l).pending = s.pending := rfl

/-! ### setChannel -/

@[simp] theorem setChannel_mainOn (s : State) (n : Nat) (c : Channel) : (setChannel s n c).mainOn = s.mainOn := rfl
@[simp] theorem setChannel_resetHeld (s : State) (n : Nat) (c : Channel) : (setChannel s n c).resetHeld = s.resetHeld := rfl
@[simp] theorem setChannel_station (s : State) (n : Nat) (c : Channel) : (setChannel s n c).station = s.station := rfl
@[simp] theorem setChannel_image (s : State) (n : Nat) (c : Channel) : (setChannel s n c).image = s.image := rfl
@[simp] theorem setChannel_inputs (s : State) (n : Nat) (c : Channel) : (setChannel s n c).inputs = s.inputs := rfl
@[simp] theorem setChannel_backupGood (s : State) (n : Nat) (c : Channel) : (setChannel s n c).backupGood = s.backupGood := rfl
@[simp] theorem setChannel_doubt (s : State) (n : Nat) (c : Channel) : (setChannel s n c).doubt = s.doubt := rfl
@[simp] theorem setChannel_checkAgrees (s : State) (n : Nat) (c : Channel) : (setChannel s n c).checkAgrees = s.checkAgrees := rfl
@[simp] theorem setChannel_powerUps (s : State) (n : Nat) (c : Channel) : (setChannel s n c).powerUps = s.powerUps := rfl
@[simp] theorem setChannel_stationSeconds (s : State) (n : Nat) (c : Channel) : (setChannel s n c).stationSeconds = s.stationSeconds := rfl
@[simp] theorem setChannel_pulses (s : State) (n : Nat) (c : Channel) : (setChannel s n c).pulses = s.pulses := rfl
@[simp] theorem setChannel_line (s : State) (n : Nat) (c : Channel) : (setChannel s n c).line = s.line := rfl
@[simp] theorem setChannel_peers (s : State) (n : Nat) (c : Channel) : (setChannel s n c).peers = s.peers := rfl
@[simp] theorem setChannel_duty (s : State) (n : Nat) (c : Channel) : (setChannel s n c).duty = s.duty := rfl
@[simp] theorem setChannel_reservations (s : State) (n : Nat) (c : Channel) : (setChannel s n c).reservations = s.reservations := rfl
@[simp] theorem setChannel_chg (s : State) (n : Nat) (c : Channel) : (setChannel s n c).chg = s.chg := rfl
@[simp] theorem setChannel_tank (s : State) (n : Nat) (c : Channel) : (setChannel s n c).tank = s.tank := rfl
@[simp] theorem setChannel_delivery (s : State) (n : Nat) (c : Channel) : (setChannel s n c).delivery = s.delivery := rfl
@[simp] theorem setChannel_tanker (s : State) (n : Nat) (c : Channel) : (setChannel s n c).tanker = s.tanker := rfl
@[simp] theorem setChannel_setBill (s : State) (n : Nat) (c : Channel) : (setChannel s n c).setBill = s.setBill := rfl
@[simp] theorem setChannel_boardBill (s : State) (n : Nat) (c : Channel) : (setChannel s n c).boardBill = s.boardBill := rfl
@[simp] theorem setChannel_records (s : State) (n : Nat) (c : Channel) : (setChannel s n c).records = s.records := rfl
@[simp] theorem setChannel_port (s : State) (n : Nat) (c : Channel) : (setChannel s n c).port = s.port := rfl
@[simp] theorem setChannel_free (s : State) (n : Nat) (c : Channel) : (setChannel s n c).free = s.free := rfl
@[simp] theorem setChannel_pending (s : State) (n : Nat) (c : Channel) : (setChannel s n c).pending = s.pending := rfl

/-! ### setInput -/

@[simp] theorem setInput_mainOn (s : State) (n : Nat) (b : Bool) : (setInput s n b).mainOn = s.mainOn := rfl
@[simp] theorem setInput_resetHeld (s : State) (n : Nat) (b : Bool) : (setInput s n b).resetHeld = s.resetHeld := rfl
@[simp] theorem setInput_station (s : State) (n : Nat) (b : Bool) : (setInput s n b).station = s.station := rfl
@[simp] theorem setInput_image (s : State) (n : Nat) (b : Bool) : (setInput s n b).image = s.image := rfl
@[simp] theorem setInput_backupGood (s : State) (n : Nat) (b : Bool) : (setInput s n b).backupGood = s.backupGood := rfl
@[simp] theorem setInput_doubt (s : State) (n : Nat) (b : Bool) : (setInput s n b).doubt = s.doubt := rfl
@[simp] theorem setInput_checkAgrees (s : State) (n : Nat) (b : Bool) : (setInput s n b).checkAgrees = s.checkAgrees := rfl
@[simp] theorem setInput_powerUps (s : State) (n : Nat) (b : Bool) : (setInput s n b).powerUps = s.powerUps := rfl
@[simp] theorem setInput_stationSeconds (s : State) (n : Nat) (b : Bool) : (setInput s n b).stationSeconds = s.stationSeconds := rfl
@[simp] theorem setInput_pulses (s : State) (n : Nat) (b : Bool) : (setInput s n b).pulses = s.pulses := rfl
@[simp] theorem setInput_line (s : State) (n : Nat) (b : Bool) : (setInput s n b).line = s.line := rfl
@[simp] theorem setInput_peers (s : State) (n : Nat) (b : Bool) : (setInput s n b).peers = s.peers := rfl
@[simp] theorem setInput_meter (s : State) (n : Nat) (b : Bool) : (setInput s n b).meter = s.meter := rfl
@[simp] theorem setInput_duty (s : State) (n : Nat) (b : Bool) : (setInput s n b).duty = s.duty := rfl
@[simp] theorem setInput_reservations (s : State) (n : Nat) (b : Bool) : (setInput s n b).reservations = s.reservations := rfl
@[simp] theorem setInput_chg (s : State) (n : Nat) (b : Bool) : (setInput s n b).chg = s.chg := rfl
@[simp] theorem setInput_tank (s : State) (n : Nat) (b : Bool) : (setInput s n b).tank = s.tank := rfl
@[simp] theorem setInput_delivery (s : State) (n : Nat) (b : Bool) : (setInput s n b).delivery = s.delivery := rfl
@[simp] theorem setInput_tanker (s : State) (n : Nat) (b : Bool) : (setInput s n b).tanker = s.tanker := rfl
@[simp] theorem setInput_setBill (s : State) (n : Nat) (b : Bool) : (setInput s n b).setBill = s.setBill := rfl
@[simp] theorem setInput_boardBill (s : State) (n : Nat) (b : Bool) : (setInput s n b).boardBill = s.boardBill := rfl
@[simp] theorem setInput_records (s : State) (n : Nat) (b : Bool) : (setInput s n b).records = s.records := rfl
@[simp] theorem setInput_port (s : State) (n : Nat) (b : Bool) : (setInput s n b).port = s.port := rfl
@[simp] theorem setInput_free (s : State) (n : Nat) (b : Bool) : (setInput s n b).free = s.free := rfl
@[simp] theorem setInput_pending (s : State) (n : Nat) (b : Bool) : (setInput s n b).pending = s.pending := rfl

/-! ### setDuty -/

@[simp] theorem setDuty_mainOn (s : State) (d : DutyState) (o : Option Origin) : (setDuty s d o).mainOn = s.mainOn := rfl
@[simp] theorem setDuty_resetHeld (s : State) (d : DutyState) (o : Option Origin) : (setDuty s d o).resetHeld = s.resetHeld := rfl
@[simp] theorem setDuty_station (s : State) (d : DutyState) (o : Option Origin) : (setDuty s d o).station = s.station := rfl
@[simp] theorem setDuty_image (s : State) (d : DutyState) (o : Option Origin) : (setDuty s d o).image = s.image := rfl
@[simp] theorem setDuty_inputs (s : State) (d : DutyState) (o : Option Origin) : (setDuty s d o).inputs = s.inputs := rfl
@[simp] theorem setDuty_backupGood (s : State) (d : DutyState) (o : Option Origin) : (setDuty s d o).backupGood = s.backupGood := rfl
@[simp] theorem setDuty_doubt (s : State) (d : DutyState) (o : Option Origin) : (setDuty s d o).doubt = s.doubt := rfl
@[simp] theorem setDuty_checkAgrees (s : State) (d : DutyState) (o : Option Origin) : (setDuty s d o).checkAgrees = s.checkAgrees := rfl
@[simp] theorem setDuty_powerUps (s : State) (d : DutyState) (o : Option Origin) : (setDuty s d o).powerUps = s.powerUps := rfl
@[simp] theorem setDuty_stationSeconds (s : State) (d : DutyState) (o : Option Origin) : (setDuty s d o).stationSeconds = s.stationSeconds := rfl
@[simp] theorem setDuty_pulses (s : State) (d : DutyState) (o : Option Origin) : (setDuty s d o).pulses = s.pulses := rfl
@[simp] theorem setDuty_line (s : State) (d : DutyState) (o : Option Origin) : (setDuty s d o).line = s.line := rfl
@[simp] theorem setDuty_peers (s : State) (d : DutyState) (o : Option Origin) : (setDuty s d o).peers = s.peers := rfl
@[simp] theorem setDuty_meter (s : State) (d : DutyState) (o : Option Origin) : (setDuty s d o).meter = s.meter := rfl
@[simp] theorem setDuty_reservations (s : State) (d : DutyState) (o : Option Origin) : (setDuty s d o).reservations = s.reservations := rfl
@[simp] theorem setDuty_chg (s : State) (d : DutyState) (o : Option Origin) : (setDuty s d o).chg = s.chg := rfl
@[simp] theorem setDuty_tank (s : State) (d : DutyState) (o : Option Origin) : (setDuty s d o).tank = s.tank := rfl
@[simp] theorem setDuty_delivery (s : State) (d : DutyState) (o : Option Origin) : (setDuty s d o).delivery = s.delivery := rfl
@[simp] theorem setDuty_tanker (s : State) (d : DutyState) (o : Option Origin) : (setDuty s d o).tanker = s.tanker := rfl
@[simp] theorem setDuty_setBill (s : State) (d : DutyState) (o : Option Origin) : (setDuty s d o).setBill = s.setBill := rfl
@[simp] theorem setDuty_boardBill (s : State) (d : DutyState) (o : Option Origin) : (setDuty s d o).boardBill = s.boardBill := rfl
@[simp] theorem setDuty_records (s : State) (d : DutyState) (o : Option Origin) : (setDuty s d o).records = s.records := rfl
@[simp] theorem setDuty_port (s : State) (d : DutyState) (o : Option Origin) : (setDuty s d o).port = s.port := rfl
@[simp] theorem setDuty_free (s : State) (d : DutyState) (o : Option Origin) : (setDuty s d o).free = s.free := rfl
@[simp] theorem setDuty_pending (s : State) (d : DutyState) (o : Option Origin) : (setDuty s d o).pending = s.pending := rfl

/-! ### zeroTimer -/

@[simp] theorem zeroTimer_mainOn (s : State) : (zeroTimer s).mainOn = s.mainOn := rfl
@[simp] theorem zeroTimer_resetHeld (s : State) : (zeroTimer s).resetHeld = s.resetHeld := rfl
@[simp] theorem zeroTimer_station (s : State) : (zeroTimer s).station = s.station := rfl
@[simp] theorem zeroTimer_image (s : State) : (zeroTimer s).image = s.image := rfl
@[simp] theorem zeroTimer_inputs (s : State) : (zeroTimer s).inputs = s.inputs := rfl
@[simp] theorem zeroTimer_backupGood (s : State) : (zeroTimer s).backupGood = s.backupGood := rfl
@[simp] theorem zeroTimer_doubt (s : State) : (zeroTimer s).doubt = s.doubt := rfl
@[simp] theorem zeroTimer_checkAgrees (s : State) : (zeroTimer s).checkAgrees = s.checkAgrees := rfl
@[simp] theorem zeroTimer_powerUps (s : State) : (zeroTimer s).powerUps = s.powerUps := rfl
@[simp] theorem zeroTimer_stationSeconds (s : State) : (zeroTimer s).stationSeconds = s.stationSeconds := rfl
@[simp] theorem zeroTimer_pulses (s : State) : (zeroTimer s).pulses = s.pulses := rfl
@[simp] theorem zeroTimer_line (s : State) : (zeroTimer s).line = s.line := rfl
@[simp] theorem zeroTimer_peers (s : State) : (zeroTimer s).peers = s.peers := rfl
@[simp] theorem zeroTimer_meter (s : State) : (zeroTimer s).meter = s.meter := rfl
@[simp] theorem zeroTimer_reservations (s : State) : (zeroTimer s).reservations = s.reservations := rfl
@[simp] theorem zeroTimer_chg (s : State) : (zeroTimer s).chg = s.chg := rfl
@[simp] theorem zeroTimer_tank (s : State) : (zeroTimer s).tank = s.tank := rfl
@[simp] theorem zeroTimer_delivery (s : State) : (zeroTimer s).delivery = s.delivery := rfl
@[simp] theorem zeroTimer_tanker (s : State) : (zeroTimer s).tanker = s.tanker := rfl
@[simp] theorem zeroTimer_setBill (s : State) : (zeroTimer s).setBill = s.setBill := rfl
@[simp] theorem zeroTimer_boardBill (s : State) : (zeroTimer s).boardBill = s.boardBill := rfl
@[simp] theorem zeroTimer_records (s : State) : (zeroTimer s).records = s.records := rfl
@[simp] theorem zeroTimer_port (s : State) : (zeroTimer s).port = s.port := rfl
@[simp] theorem zeroTimer_free (s : State) : (zeroTimer s).free = s.free := rfl
@[simp] theorem zeroTimer_pending (s : State) : (zeroTimer s).pending = s.pending := rfl

/-! ### endPulses -/

@[simp] theorem endPulses_mainOn (s : State) : (endPulses s).mainOn = s.mainOn := rfl
@[simp] theorem endPulses_resetHeld (s : State) : (endPulses s).resetHeld = s.resetHeld := rfl
@[simp] theorem endPulses_station (s : State) : (endPulses s).station = s.station := rfl
@[simp] theorem endPulses_image (s : State) : (endPulses s).image = s.image := rfl
@[simp] theorem endPulses_inputs (s : State) : (endPulses s).inputs = s.inputs := rfl
@[simp] theorem endPulses_backupGood (s : State) : (endPulses s).backupGood = s.backupGood := rfl
@[simp] theorem endPulses_doubt (s : State) : (endPulses s).doubt = s.doubt := rfl
@[simp] theorem endPulses_checkAgrees (s : State) : (endPulses s).checkAgrees = s.checkAgrees := rfl
@[simp] theorem endPulses_powerUps (s : State) : (endPulses s).powerUps = s.powerUps := rfl
@[simp] theorem endPulses_stationSeconds (s : State) : (endPulses s).stationSeconds = s.stationSeconds := rfl
@[simp] theorem endPulses_line (s : State) : (endPulses s).line = s.line := rfl
@[simp] theorem endPulses_peers (s : State) : (endPulses s).peers = s.peers := rfl
@[simp] theorem endPulses_meter (s : State) : (endPulses s).meter = s.meter := rfl
@[simp] theorem endPulses_duty (s : State) : (endPulses s).duty = s.duty := rfl
@[simp] theorem endPulses_reservations (s : State) : (endPulses s).reservations = s.reservations := rfl
@[simp] theorem endPulses_chg (s : State) : (endPulses s).chg = s.chg := rfl
@[simp] theorem endPulses_tank (s : State) : (endPulses s).tank = s.tank := rfl
@[simp] theorem endPulses_delivery (s : State) : (endPulses s).delivery = s.delivery := rfl
@[simp] theorem endPulses_tanker (s : State) : (endPulses s).tanker = s.tanker := rfl
@[simp] theorem endPulses_setBill (s : State) : (endPulses s).setBill = s.setBill := rfl
@[simp] theorem endPulses_boardBill (s : State) : (endPulses s).boardBill = s.boardBill := rfl
@[simp] theorem endPulses_records (s : State) : (endPulses s).records = s.records := rfl
@[simp] theorem endPulses_port (s : State) : (endPulses s).port = s.port := rfl
@[simp] theorem endPulses_free (s : State) : (endPulses s).free = s.free := rfl
@[simp] theorem endPulses_pending (s : State) : (endPulses s).pending = s.pending := rfl

/-! ### pulse -/

@[simp] theorem pulse_mainOn (s : State) (o : Output) : (pulse s o).mainOn = s.mainOn := rfl
@[simp] theorem pulse_resetHeld (s : State) (o : Output) : (pulse s o).resetHeld = s.resetHeld := rfl
@[simp] theorem pulse_station (s : State) (o : Output) : (pulse s o).station = s.station := rfl
@[simp] theorem pulse_image (s : State) (o : Output) : (pulse s o).image = s.image := rfl
@[simp] theorem pulse_inputs (s : State) (o : Output) : (pulse s o).inputs = s.inputs := rfl
@[simp] theorem pulse_backupGood (s : State) (o : Output) : (pulse s o).backupGood = s.backupGood := rfl
@[simp] theorem pulse_doubt (s : State) (o : Output) : (pulse s o).doubt = s.doubt := rfl
@[simp] theorem pulse_checkAgrees (s : State) (o : Output) : (pulse s o).checkAgrees = s.checkAgrees := rfl
@[simp] theorem pulse_powerUps (s : State) (o : Output) : (pulse s o).powerUps = s.powerUps := rfl
@[simp] theorem pulse_stationSeconds (s : State) (o : Output) : (pulse s o).stationSeconds = s.stationSeconds := rfl
@[simp] theorem pulse_line (s : State) (o : Output) : (pulse s o).line = s.line := rfl
@[simp] theorem pulse_peers (s : State) (o : Output) : (pulse s o).peers = s.peers := rfl
@[simp] theorem pulse_meter (s : State) (o : Output) : (pulse s o).meter = s.meter := rfl
@[simp] theorem pulse_reservations (s : State) (o : Output) : (pulse s o).reservations = s.reservations := rfl
@[simp] theorem pulse_chg (s : State) (o : Output) : (pulse s o).chg = s.chg := rfl
@[simp] theorem pulse_tank (s : State) (o : Output) : (pulse s o).tank = s.tank := rfl
@[simp] theorem pulse_delivery (s : State) (o : Output) : (pulse s o).delivery = s.delivery := rfl
@[simp] theorem pulse_tanker (s : State) (o : Output) : (pulse s o).tanker = s.tanker := rfl
@[simp] theorem pulse_setBill (s : State) (o : Output) : (pulse s o).setBill = s.setBill := rfl
@[simp] theorem pulse_boardBill (s : State) (o : Output) : (pulse s o).boardBill = s.boardBill := rfl
@[simp] theorem pulse_records (s : State) (o : Output) : (pulse s o).records = s.records := rfl
@[simp] theorem pulse_port (s : State) (o : Output) : (pulse s o).port = s.port := rfl
@[simp] theorem pulse_free (s : State) (o : Output) : (pulse s o).free = s.free := rfl
@[simp] theorem pulse_pending (s : State) (o : Output) : (pulse s o).pending = s.pending := rfl

/-! ### addRecord -/

@[simp] theorem addRecord_mainOn (s : State) (b : RecordBody) : (addRecord s b).mainOn = s.mainOn := rfl
@[simp] theorem addRecord_resetHeld (s : State) (b : RecordBody) : (addRecord s b).resetHeld = s.resetHeld := rfl
@[simp] theorem addRecord_station (s : State) (b : RecordBody) : (addRecord s b).station = s.station := rfl
@[simp] theorem addRecord_image (s : State) (b : RecordBody) : (addRecord s b).image = s.image := rfl
@[simp] theorem addRecord_inputs (s : State) (b : RecordBody) : (addRecord s b).inputs = s.inputs := rfl
@[simp] theorem addRecord_backupGood (s : State) (b : RecordBody) : (addRecord s b).backupGood = s.backupGood := rfl
@[simp] theorem addRecord_doubt (s : State) (b : RecordBody) : (addRecord s b).doubt = s.doubt := rfl
@[simp] theorem addRecord_checkAgrees (s : State) (b : RecordBody) : (addRecord s b).checkAgrees = s.checkAgrees := rfl
@[simp] theorem addRecord_powerUps (s : State) (b : RecordBody) : (addRecord s b).powerUps = s.powerUps := rfl
@[simp] theorem addRecord_stationSeconds (s : State) (b : RecordBody) : (addRecord s b).stationSeconds = s.stationSeconds := rfl
@[simp] theorem addRecord_pulses (s : State) (b : RecordBody) : (addRecord s b).pulses = s.pulses := rfl
@[simp] theorem addRecord_line (s : State) (b : RecordBody) : (addRecord s b).line = s.line := rfl
@[simp] theorem addRecord_peers (s : State) (b : RecordBody) : (addRecord s b).peers = s.peers := rfl
@[simp] theorem addRecord_meter (s : State) (b : RecordBody) : (addRecord s b).meter = s.meter := rfl
@[simp] theorem addRecord_duty (s : State) (b : RecordBody) : (addRecord s b).duty = s.duty := rfl
@[simp] theorem addRecord_reservations (s : State) (b : RecordBody) : (addRecord s b).reservations = s.reservations := rfl
@[simp] theorem addRecord_chg (s : State) (b : RecordBody) : (addRecord s b).chg = s.chg := rfl
@[simp] theorem addRecord_tank (s : State) (b : RecordBody) : (addRecord s b).tank = s.tank := rfl
@[simp] theorem addRecord_delivery (s : State) (b : RecordBody) : (addRecord s b).delivery = s.delivery := rfl
@[simp] theorem addRecord_tanker (s : State) (b : RecordBody) : (addRecord s b).tanker = s.tanker := rfl
@[simp] theorem addRecord_setBill (s : State) (b : RecordBody) : (addRecord s b).setBill = s.setBill := rfl
@[simp] theorem addRecord_boardBill (s : State) (b : RecordBody) : (addRecord s b).boardBill = s.boardBill := rfl
@[simp] theorem addRecord_port (s : State) (b : RecordBody) : (addRecord s b).port = s.port := rfl
@[simp] theorem addRecord_free (s : State) (b : RecordBody) : (addRecord s b).free = s.free := rfl
@[simp] theorem addRecord_pending (s : State) (b : RecordBody) : (addRecord s b).pending = s.pending := rfl

/-! ### addEvent -/

@[simp] theorem addEvent_mainOn (s : State) (e : Event) : (addEvent s e).mainOn = s.mainOn := rfl
@[simp] theorem addEvent_resetHeld (s : State) (e : Event) : (addEvent s e).resetHeld = s.resetHeld := rfl
@[simp] theorem addEvent_station (s : State) (e : Event) : (addEvent s e).station = s.station := rfl
@[simp] theorem addEvent_image (s : State) (e : Event) : (addEvent s e).image = s.image := rfl
@[simp] theorem addEvent_inputs (s : State) (e : Event) : (addEvent s e).inputs = s.inputs := rfl
@[simp] theorem addEvent_backupGood (s : State) (e : Event) : (addEvent s e).backupGood = s.backupGood := rfl
@[simp] theorem addEvent_doubt (s : State) (e : Event) : (addEvent s e).doubt = s.doubt := rfl
@[simp] theorem addEvent_checkAgrees (s : State) (e : Event) : (addEvent s e).checkAgrees = s.checkAgrees := rfl
@[simp] theorem addEvent_powerUps (s : State) (e : Event) : (addEvent s e).powerUps = s.powerUps := rfl
@[simp] theorem addEvent_stationSeconds (s : State) (e : Event) : (addEvent s e).stationSeconds = s.stationSeconds := rfl
@[simp] theorem addEvent_pulses (s : State) (e : Event) : (addEvent s e).pulses = s.pulses := rfl
@[simp] theorem addEvent_line (s : State) (e : Event) : (addEvent s e).line = s.line := rfl
@[simp] theorem addEvent_peers (s : State) (e : Event) : (addEvent s e).peers = s.peers := rfl
@[simp] theorem addEvent_meter (s : State) (e : Event) : (addEvent s e).meter = s.meter := rfl
@[simp] theorem addEvent_duty (s : State) (e : Event) : (addEvent s e).duty = s.duty := rfl
@[simp] theorem addEvent_reservations (s : State) (e : Event) : (addEvent s e).reservations = s.reservations := rfl
@[simp] theorem addEvent_chg (s : State) (e : Event) : (addEvent s e).chg = s.chg := rfl
@[simp] theorem addEvent_tank (s : State) (e : Event) : (addEvent s e).tank = s.tank := rfl
@[simp] theorem addEvent_delivery (s : State) (e : Event) : (addEvent s e).delivery = s.delivery := rfl
@[simp] theorem addEvent_tanker (s : State) (e : Event) : (addEvent s e).tanker = s.tanker := rfl
@[simp] theorem addEvent_setBill (s : State) (e : Event) : (addEvent s e).setBill = s.setBill := rfl
@[simp] theorem addEvent_boardBill (s : State) (e : Event) : (addEvent s e).boardBill = s.boardBill := rfl
@[simp] theorem addEvent_port (s : State) (e : Event) : (addEvent s e).port = s.port := rfl
@[simp] theorem addEvent_free (s : State) (e : Event) : (addEvent s e).free = s.free := rfl
@[simp] theorem addEvent_pending (s : State) (e : Event) : (addEvent s e).pending = s.pending := rfl

/-! ### post -/

@[simp] theorem post_mainOn (s : State) (n : Nat) (b : Body) : (post s n b).mainOn = s.mainOn := rfl
@[simp] theorem post_resetHeld (s : State) (n : Nat) (b : Body) : (post s n b).resetHeld = s.resetHeld := rfl
@[simp] theorem post_station (s : State) (n : Nat) (b : Body) : (post s n b).station = s.station := rfl
@[simp] theorem post_image (s : State) (n : Nat) (b : Body) : (post s n b).image = s.image := rfl
@[simp] theorem post_inputs (s : State) (n : Nat) (b : Body) : (post s n b).inputs = s.inputs := rfl
@[simp] theorem post_backupGood (s : State) (n : Nat) (b : Body) : (post s n b).backupGood = s.backupGood := rfl
@[simp] theorem post_doubt (s : State) (n : Nat) (b : Body) : (post s n b).doubt = s.doubt := rfl
@[simp] theorem post_checkAgrees (s : State) (n : Nat) (b : Body) : (post s n b).checkAgrees = s.checkAgrees := rfl
@[simp] theorem post_powerUps (s : State) (n : Nat) (b : Body) : (post s n b).powerUps = s.powerUps := rfl
@[simp] theorem post_stationSeconds (s : State) (n : Nat) (b : Body) : (post s n b).stationSeconds = s.stationSeconds := rfl
@[simp] theorem post_pulses (s : State) (n : Nat) (b : Body) : (post s n b).pulses = s.pulses := rfl
@[simp] theorem post_peers (s : State) (n : Nat) (b : Body) : (post s n b).peers = s.peers := rfl
@[simp] theorem post_meter (s : State) (n : Nat) (b : Body) : (post s n b).meter = s.meter := rfl
@[simp] theorem post_duty (s : State) (n : Nat) (b : Body) : (post s n b).duty = s.duty := rfl
@[simp] theorem post_reservations (s : State) (n : Nat) (b : Body) : (post s n b).reservations = s.reservations := rfl
@[simp] theorem post_chg (s : State) (n : Nat) (b : Body) : (post s n b).chg = s.chg := rfl
@[simp] theorem post_tank (s : State) (n : Nat) (b : Body) : (post s n b).tank = s.tank := rfl
@[simp] theorem post_delivery (s : State) (n : Nat) (b : Body) : (post s n b).delivery = s.delivery := rfl
@[simp] theorem post_tanker (s : State) (n : Nat) (b : Body) : (post s n b).tanker = s.tanker := rfl
@[simp] theorem post_setBill (s : State) (n : Nat) (b : Body) : (post s n b).setBill = s.setBill := rfl
@[simp] theorem post_boardBill (s : State) (n : Nat) (b : Body) : (post s n b).boardBill = s.boardBill := rfl
@[simp] theorem post_port (s : State) (n : Nat) (b : Body) : (post s n b).port = s.port := rfl
@[simp] theorem post_free (s : State) (n : Nat) (b : Body) : (post s n b).free = s.free := rfl
@[simp] theorem post_pending (s : State) (n : Nat) (b : Body) : (post s n b).pending = s.pending := rfl

/-! ### postStatus -/

@[simp] theorem postStatus_mainOn (s : State) : (postStatus s).mainOn = s.mainOn := rfl
@[simp] theorem postStatus_resetHeld (s : State) : (postStatus s).resetHeld = s.resetHeld := rfl
@[simp] theorem postStatus_station (s : State) : (postStatus s).station = s.station := rfl
@[simp] theorem postStatus_image (s : State) : (postStatus s).image = s.image := rfl
@[simp] theorem postStatus_inputs (s : State) : (postStatus s).inputs = s.inputs := rfl
@[simp] theorem postStatus_backupGood (s : State) : (postStatus s).backupGood = s.backupGood := rfl
@[simp] theorem postStatus_doubt (s : State) : (postStatus s).doubt = s.doubt := rfl
@[simp] theorem postStatus_checkAgrees (s : State) : (postStatus s).checkAgrees = s.checkAgrees := rfl
@[simp] theorem postStatus_powerUps (s : State) : (postStatus s).powerUps = s.powerUps := rfl
@[simp] theorem postStatus_stationSeconds (s : State) : (postStatus s).stationSeconds = s.stationSeconds := rfl
@[simp] theorem postStatus_pulses (s : State) : (postStatus s).pulses = s.pulses := rfl
@[simp] theorem postStatus_peers (s : State) : (postStatus s).peers = s.peers := rfl
@[simp] theorem postStatus_meter (s : State) : (postStatus s).meter = s.meter := rfl
@[simp] theorem postStatus_duty (s : State) : (postStatus s).duty = s.duty := rfl
@[simp] theorem postStatus_reservations (s : State) : (postStatus s).reservations = s.reservations := rfl
@[simp] theorem postStatus_chg (s : State) : (postStatus s).chg = s.chg := rfl
@[simp] theorem postStatus_tank (s : State) : (postStatus s).tank = s.tank := rfl
@[simp] theorem postStatus_delivery (s : State) : (postStatus s).delivery = s.delivery := rfl
@[simp] theorem postStatus_tanker (s : State) : (postStatus s).tanker = s.tanker := rfl
@[simp] theorem postStatus_setBill (s : State) : (postStatus s).setBill = s.setBill := rfl
@[simp] theorem postStatus_boardBill (s : State) : (postStatus s).boardBill = s.boardBill := rfl
@[simp] theorem postStatus_records (s : State) : (postStatus s).records = s.records := rfl
@[simp] theorem postStatus_port (s : State) : (postStatus s).port = s.port := rfl
@[simp] theorem postStatus_free (s : State) : (postStatus s).free = s.free := rfl
@[simp] theorem postStatus_pending (s : State) : (postStatus s).pending = s.pending := rfl

/-! ### noteDry -/

@[simp] theorem noteDry_mainOn (s : State) (n : Nat) : (noteDry s n).mainOn = s.mainOn := rfl
@[simp] theorem noteDry_resetHeld (s : State) (n : Nat) : (noteDry s n).resetHeld = s.resetHeld := rfl
@[simp] theorem noteDry_station (s : State) (n : Nat) : (noteDry s n).station = s.station := rfl
@[simp] theorem noteDry_image (s : State) (n : Nat) : (noteDry s n).image = s.image := rfl
@[simp] theorem noteDry_inputs (s : State) (n : Nat) : (noteDry s n).inputs = s.inputs := rfl
@[simp] theorem noteDry_backupGood (s : State) (n : Nat) : (noteDry s n).backupGood = s.backupGood := rfl
@[simp] theorem noteDry_doubt (s : State) (n : Nat) : (noteDry s n).doubt = s.doubt := rfl
@[simp] theorem noteDry_checkAgrees (s : State) (n : Nat) : (noteDry s n).checkAgrees = s.checkAgrees := rfl
@[simp] theorem noteDry_powerUps (s : State) (n : Nat) : (noteDry s n).powerUps = s.powerUps := rfl
@[simp] theorem noteDry_stationSeconds (s : State) (n : Nat) : (noteDry s n).stationSeconds = s.stationSeconds := rfl
@[simp] theorem noteDry_pulses (s : State) (n : Nat) : (noteDry s n).pulses = s.pulses := rfl
@[simp] theorem noteDry_line (s : State) (n : Nat) : (noteDry s n).line = s.line := rfl
@[simp] theorem noteDry_peers (s : State) (n : Nat) : (noteDry s n).peers = s.peers := rfl
@[simp] theorem noteDry_meter (s : State) (n : Nat) : (noteDry s n).meter = s.meter := rfl
@[simp] theorem noteDry_duty (s : State) (n : Nat) : (noteDry s n).duty = s.duty := rfl
@[simp] theorem noteDry_reservations (s : State) (n : Nat) : (noteDry s n).reservations = s.reservations := rfl
@[simp] theorem noteDry_tank (s : State) (n : Nat) : (noteDry s n).tank = s.tank := rfl
@[simp] theorem noteDry_delivery (s : State) (n : Nat) : (noteDry s n).delivery = s.delivery := rfl
@[simp] theorem noteDry_tanker (s : State) (n : Nat) : (noteDry s n).tanker = s.tanker := rfl
@[simp] theorem noteDry_setBill (s : State) (n : Nat) : (noteDry s n).setBill = s.setBill := rfl
@[simp] theorem noteDry_boardBill (s : State) (n : Nat) : (noteDry s n).boardBill = s.boardBill := rfl
@[simp] theorem noteDry_records (s : State) (n : Nat) : (noteDry s n).records = s.records := rfl
@[simp] theorem noteDry_port (s : State) (n : Nat) : (noteDry s n).port = s.port := rfl
@[simp] theorem noteDry_free (s : State) (n : Nat) : (noteDry s n).free = s.free := rfl
@[simp] theorem noteDry_pending (s : State) (n : Nat) : (noteDry s n).pending = s.pending := rfl

/-! ### gradePeer -/

@[simp] theorem gradePeer_mainOn (s : State) (n : Nat) (g : Freshness) : (gradePeer s n g).mainOn = s.mainOn := rfl
@[simp] theorem gradePeer_resetHeld (s : State) (n : Nat) (g : Freshness) : (gradePeer s n g).resetHeld = s.resetHeld := rfl
@[simp] theorem gradePeer_station (s : State) (n : Nat) (g : Freshness) : (gradePeer s n g).station = s.station := rfl
@[simp] theorem gradePeer_image (s : State) (n : Nat) (g : Freshness) : (gradePeer s n g).image = s.image := rfl
@[simp] theorem gradePeer_inputs (s : State) (n : Nat) (g : Freshness) : (gradePeer s n g).inputs = s.inputs := rfl
@[simp] theorem gradePeer_backupGood (s : State) (n : Nat) (g : Freshness) : (gradePeer s n g).backupGood = s.backupGood := rfl
@[simp] theorem gradePeer_doubt (s : State) (n : Nat) (g : Freshness) : (gradePeer s n g).doubt = s.doubt := rfl
@[simp] theorem gradePeer_checkAgrees (s : State) (n : Nat) (g : Freshness) : (gradePeer s n g).checkAgrees = s.checkAgrees := rfl
@[simp] theorem gradePeer_powerUps (s : State) (n : Nat) (g : Freshness) : (gradePeer s n g).powerUps = s.powerUps := rfl
@[simp] theorem gradePeer_stationSeconds (s : State) (n : Nat) (g : Freshness) : (gradePeer s n g).stationSeconds = s.stationSeconds := rfl
@[simp] theorem gradePeer_pulses (s : State) (n : Nat) (g : Freshness) : (gradePeer s n g).pulses = s.pulses := rfl
@[simp] theorem gradePeer_line (s : State) (n : Nat) (g : Freshness) : (gradePeer s n g).line = s.line := rfl
@[simp] theorem gradePeer_meter (s : State) (n : Nat) (g : Freshness) : (gradePeer s n g).meter = s.meter := rfl
@[simp] theorem gradePeer_duty (s : State) (n : Nat) (g : Freshness) : (gradePeer s n g).duty = s.duty := rfl
@[simp] theorem gradePeer_reservations (s : State) (n : Nat) (g : Freshness) : (gradePeer s n g).reservations = s.reservations := rfl
@[simp] theorem gradePeer_chg (s : State) (n : Nat) (g : Freshness) : (gradePeer s n g).chg = s.chg := rfl
@[simp] theorem gradePeer_tank (s : State) (n : Nat) (g : Freshness) : (gradePeer s n g).tank = s.tank := rfl
@[simp] theorem gradePeer_delivery (s : State) (n : Nat) (g : Freshness) : (gradePeer s n g).delivery = s.delivery := rfl
@[simp] theorem gradePeer_tanker (s : State) (n : Nat) (g : Freshness) : (gradePeer s n g).tanker = s.tanker := rfl
@[simp] theorem gradePeer_setBill (s : State) (n : Nat) (g : Freshness) : (gradePeer s n g).setBill = s.setBill := rfl
@[simp] theorem gradePeer_boardBill (s : State) (n : Nat) (g : Freshness) : (gradePeer s n g).boardBill = s.boardBill := rfl
@[simp] theorem gradePeer_records (s : State) (n : Nat) (g : Freshness) : (gradePeer s n g).records = s.records := rfl
@[simp] theorem gradePeer_port (s : State) (n : Nat) (g : Freshness) : (gradePeer s n g).port = s.port := rfl
@[simp] theorem gradePeer_free (s : State) (n : Nat) (g : Freshness) : (gradePeer s n g).free = s.free := rfl
@[simp] theorem gradePeer_pending (s : State) (n : Nat) (g : Freshness) : (gradePeer s n g).pending = s.pending := rfl

/-! ### linkError -/

@[simp] theorem linkError_mainOn (s : State) : (linkError s).mainOn = s.mainOn := rfl
@[simp] theorem linkError_resetHeld (s : State) : (linkError s).resetHeld = s.resetHeld := rfl
@[simp] theorem linkError_station (s : State) : (linkError s).station = s.station := rfl
@[simp] theorem linkError_image (s : State) : (linkError s).image = s.image := rfl
@[simp] theorem linkError_inputs (s : State) : (linkError s).inputs = s.inputs := rfl
@[simp] theorem linkError_backupGood (s : State) : (linkError s).backupGood = s.backupGood := rfl
@[simp] theorem linkError_doubt (s : State) : (linkError s).doubt = s.doubt := rfl
@[simp] theorem linkError_checkAgrees (s : State) : (linkError s).checkAgrees = s.checkAgrees := rfl
@[simp] theorem linkError_powerUps (s : State) : (linkError s).powerUps = s.powerUps := rfl
@[simp] theorem linkError_stationSeconds (s : State) : (linkError s).stationSeconds = s.stationSeconds := rfl
@[simp] theorem linkError_pulses (s : State) : (linkError s).pulses = s.pulses := rfl
@[simp] theorem linkError_line (s : State) : (linkError s).line = s.line := rfl
@[simp] theorem linkError_peers (s : State) : (linkError s).peers = s.peers := rfl
@[simp] theorem linkError_duty (s : State) : (linkError s).duty = s.duty := rfl
@[simp] theorem linkError_reservations (s : State) : (linkError s).reservations = s.reservations := rfl
@[simp] theorem linkError_chg (s : State) : (linkError s).chg = s.chg := rfl
@[simp] theorem linkError_tank (s : State) : (linkError s).tank = s.tank := rfl
@[simp] theorem linkError_delivery (s : State) : (linkError s).delivery = s.delivery := rfl
@[simp] theorem linkError_tanker (s : State) : (linkError s).tanker = s.tanker := rfl
@[simp] theorem linkError_setBill (s : State) : (linkError s).setBill = s.setBill := rfl
@[simp] theorem linkError_boardBill (s : State) : (linkError s).boardBill = s.boardBill := rfl
@[simp] theorem linkError_records (s : State) : (linkError s).records = s.records := rfl
@[simp] theorem linkError_port (s : State) : (linkError s).port = s.port := rfl
@[simp] theorem linkError_free (s : State) : (linkError s).free = s.free := rfl
@[simp] theorem linkError_pending (s : State) : (linkError s).pending = s.pending := rfl

/-! ### setLink -/

@[simp] theorem setLink_mainOn (s : State) (l : List Byte) (b : Bool) : (setLink s l b).mainOn = s.mainOn := rfl
@[simp] theorem setLink_resetHeld (s : State) (l : List Byte) (b : Bool) : (setLink s l b).resetHeld = s.resetHeld := rfl
@[simp] theorem setLink_station (s : State) (l : List Byte) (b : Bool) : (setLink s l b).station = s.station := rfl
@[simp] theorem setLink_image (s : State) (l : List Byte) (b : Bool) : (setLink s l b).image = s.image := rfl
@[simp] theorem setLink_inputs (s : State) (l : List Byte) (b : Bool) : (setLink s l b).inputs = s.inputs := rfl
@[simp] theorem setLink_backupGood (s : State) (l : List Byte) (b : Bool) :
    (setLink s l b).backupGood = s.backupGood := rfl
@[simp] theorem setLink_doubt (s : State) (l : List Byte) (b : Bool) : (setLink s l b).doubt = s.doubt := rfl
@[simp] theorem setLink_checkAgrees (s : State) (l : List Byte) (b : Bool) :
    (setLink s l b).checkAgrees = s.checkAgrees := rfl
@[simp] theorem setLink_powerUps (s : State) (l : List Byte) (b : Bool) : (setLink s l b).powerUps = s.powerUps := rfl
@[simp] theorem setLink_stationSeconds (s : State) (l : List Byte) (b : Bool) :
    (setLink s l b).stationSeconds = s.stationSeconds := rfl
@[simp] theorem setLink_pulses (s : State) (l : List Byte) (b : Bool) : (setLink s l b).pulses = s.pulses := rfl
@[simp] theorem setLink_line (s : State) (l : List Byte) (b : Bool) : (setLink s l b).line = s.line := rfl
@[simp] theorem setLink_peers (s : State) (l : List Byte) (b : Bool) : (setLink s l b).peers = s.peers := rfl
@[simp] theorem setLink_duty (s : State) (l : List Byte) (b : Bool) : (setLink s l b).duty = s.duty := rfl
@[simp] theorem setLink_reservations (s : State) (l : List Byte) (b : Bool) :
    (setLink s l b).reservations = s.reservations := rfl
@[simp] theorem setLink_chg (s : State) (l : List Byte) (b : Bool) : (setLink s l b).chg = s.chg := rfl
@[simp] theorem setLink_tank (s : State) (l : List Byte) (b : Bool) : (setLink s l b).tank = s.tank := rfl
@[simp] theorem setLink_delivery (s : State) (l : List Byte) (b : Bool) : (setLink s l b).delivery = s.delivery := rfl
@[simp] theorem setLink_tanker (s : State) (l : List Byte) (b : Bool) : (setLink s l b).tanker = s.tanker := rfl
@[simp] theorem setLink_setBill (s : State) (l : List Byte) (b : Bool) : (setLink s l b).setBill = s.setBill := rfl
@[simp] theorem setLink_boardBill (s : State) (l : List Byte) (b : Bool) : (setLink s l b).boardBill = s.boardBill := rfl
@[simp] theorem setLink_records (s : State) (l : List Byte) (b : Bool) : (setLink s l b).records = s.records := rfl
@[simp] theorem setLink_port (s : State) (l : List Byte) (b : Bool) : (setLink s l b).port = s.port := rfl
@[simp] theorem setLink_free (s : State) (l : List Byte) (b : Bool) : (setLink s l b).free = s.free := rfl
@[simp] theorem setLink_pending (s : State) (l : List Byte) (b : Bool) : (setLink s l b).pending = s.pending := rfl

/-! ### replyDone -/

@[simp] theorem replyDone_mainOn (s : State) : (replyDone s).mainOn = s.mainOn := rfl
@[simp] theorem replyDone_resetHeld (s : State) : (replyDone s).resetHeld = s.resetHeld := rfl
@[simp] theorem replyDone_station (s : State) : (replyDone s).station = s.station := rfl
@[simp] theorem replyDone_image (s : State) : (replyDone s).image = s.image := rfl
@[simp] theorem replyDone_inputs (s : State) : (replyDone s).inputs = s.inputs := rfl
@[simp] theorem replyDone_backupGood (s : State) : (replyDone s).backupGood = s.backupGood := rfl
@[simp] theorem replyDone_doubt (s : State) : (replyDone s).doubt = s.doubt := rfl
@[simp] theorem replyDone_checkAgrees (s : State) : (replyDone s).checkAgrees = s.checkAgrees := rfl
@[simp] theorem replyDone_powerUps (s : State) : (replyDone s).powerUps = s.powerUps := rfl
@[simp] theorem replyDone_stationSeconds (s : State) : (replyDone s).stationSeconds = s.stationSeconds := rfl
@[simp] theorem replyDone_pulses (s : State) : (replyDone s).pulses = s.pulses := rfl
@[simp] theorem replyDone_line (s : State) : (replyDone s).line = s.line := rfl
@[simp] theorem replyDone_peers (s : State) : (replyDone s).peers = s.peers := rfl
@[simp] theorem replyDone_meter (s : State) : (replyDone s).meter = s.meter := rfl
@[simp] theorem replyDone_duty (s : State) : (replyDone s).duty = s.duty := rfl
@[simp] theorem replyDone_reservations (s : State) : (replyDone s).reservations = s.reservations := rfl
@[simp] theorem replyDone_chg (s : State) : (replyDone s).chg = s.chg := rfl
@[simp] theorem replyDone_tank (s : State) : (replyDone s).tank = s.tank := rfl
@[simp] theorem replyDone_delivery (s : State) : (replyDone s).delivery = s.delivery := rfl
@[simp] theorem replyDone_tanker (s : State) : (replyDone s).tanker = s.tanker := rfl
@[simp] theorem replyDone_setBill (s : State) : (replyDone s).setBill = s.setBill := rfl
@[simp] theorem replyDone_boardBill (s : State) : (replyDone s).boardBill = s.boardBill := rfl
@[simp] theorem replyDone_records (s : State) : (replyDone s).records = s.records := rfl
@[simp] theorem replyDone_free (s : State) : (replyDone s).free = s.free := rfl
@[simp] theorem replyDone_pending (s : State) : (replyDone s).pending = s.pending := rfl

/-! ### What the updates set -/

@[simp] theorem setPhase_phase (s : State) (p : LinePhase) :
    (setPhase s p).line.phase = p := rfl
@[simp] theorem setPhase_queue (s : State) (p : LinePhase) :
    (setPhase s p).line.queue = s.line.queue := rfl
@[simp] theorem setAttempt_attempt (s : State) (a : Option Attempt) :
    (setAttempt s a).chg.attempt = a := rfl
@[simp] theorem setAttempt_state (s : State) (a : Option Attempt) :
    (setAttempt s a).chg.state = s.chg.state := rfl
@[simp] theorem setAttempt_cmd (s : State) (a : Option Attempt) :
    (setAttempt s a).chg.cmd = s.chg.cmd := rfl
@[simp] theorem setCmd_cmd (s : State) (c : Option SwitchCmd) :
    (setCmd s c).chg.cmd = c := rfl
@[simp] theorem setCmd_state (s : State) (c : Option SwitchCmd) :
    (setCmd s c).chg.state = s.chg.state := rfl
@[simp] theorem setCmd_attempt (s : State) (c : Option SwitchCmd) :
    (setCmd s c).chg.attempt = s.chg.attempt := rfl
@[simp] theorem setTable_table (s : State) (l : List Entry) :
    (setTable s l).boardBill.table = l := rfl
@[simp] theorem setDuty_state (s : State) (d : DutyState) (o : Option Origin) :
    (setDuty s d o).duty.state = d := rfl
@[simp] theorem setDuty_origin (s : State) (d : DutyState) (o : Option Origin) :
    (setDuty s d o).duty.origin = o := rfl
@[simp] theorem setDuty_overload (s : State) (d : DutyState) (o : Option Origin) :
    (setDuty s d o).duty.overload = if d = .ready ∨ d = .unloading then s.duty.overload else 0 := rfl
@[simp] theorem setLink_link (s : State) (l : List Byte) (b : Bool) : (setLink s l b).meter.link = l := rfl
@[simp] theorem setLink_linkOld (s : State) (l : List Byte) (b : Bool) : (setLink s l b).meter.linkOld = b := rfl
@[simp] theorem setLink_channels (s : State) (l : List Byte) (b : Bool) :
    (setLink s l b).meter.channels = s.meter.channels := rfl
@[simp] theorem setLink_linkErrors (s : State) (l : List Byte) (b : Bool) :
    (setLink s l b).meter.linkErrors = s.meter.linkErrors := rfl
@[simp] theorem linkError_link (s : State) :
    (linkError s).meter.link = s.meter.link := rfl
@[simp] theorem linkError_linkOld (s : State) :
    (linkError s).meter.linkOld = s.meter.linkOld := rfl
@[simp] theorem linkError_channels (s : State) :
    (linkError s).meter.channels = s.meter.channels := rfl
@[simp] theorem setDuty_feed (s : State) (d : DutyState) (o : Option Origin) :
    (setDuty s d o).duty.feed = s.duty.feed := rfl
@[simp] theorem setDuty_conditions (s : State) (d : DutyState) (o : Option Origin) :
    (setDuty s d o).duty.conditions = s.duty.conditions := rfl
@[simp] theorem zeroTimer_timer (s : State) :
    (zeroTimer s).duty.timer = 0 := rfl
@[simp] theorem zeroTimer_state (s : State) :
    (zeroTimer s).duty.state = s.duty.state := rfl
@[simp] theorem zeroTimer_feed (s : State) :
    (zeroTimer s).duty.feed = s.duty.feed := rfl
@[simp] theorem setSession_session (s : State) (x : Option Session) :
    (setSession s x).delivery.session = x := rfl
@[simp] theorem setOpen_opened (s : State) (o : OpenDelivery) :
    (setOpen s o).tanker.delivery = some o := rfl
@[simp] theorem setInput_inputs (s : State) (n : Nat) (b : Bool) :
    (setInput s n b).inputs = s.inputs.set (n - 1) b := rfl
@[simp] theorem addRecord_records (s : State) (b : RecordBody) :
    (addRecord s b).records = appendTo s.records s.stationSeconds s.powerUps b := rfl
@[simp] theorem addEvent_records (s : State) (e : Event) :
    (addEvent s e).records = appendTo s.records s.stationSeconds s.powerUps (.event e) := rfl

end Sys2Proof.Machine
end

