-- ==== Sys2Proof/Laws/Ops.lean ====
section
/-! SUPPORT. What each shared operation can do, said once: the guards, the transmit queue, the record store, the peer
table, the host's command frames and the conditions of the duty controller. -/

namespace Sys2Proof.Machine

/-! ### Guards -/

theorem whenAwake_of_awake {s : State} (h : s.awake = true) (f : State → State) : whenAwake s f = f s := by
  simp [whenAwake, h]

theorem whenAwake_of_asleep {s : State} (h : s.awake = false) (f : State → State) : whenAwake s f = s := by
  simp [whenAwake, h]

theorem whenRuns_of_runs {r : Role} {s : State} (h : s.awake = true) (hr : s.runs r = true) (f : State → State) :
    whenRuns r s f = f s := by
  simp [whenRuns, h, hr]

theorem whenRuns_of_not_runs {r : Role} {s : State} (hr : s.runs r = false) (f : State → State) :
    whenRuns r s f = s := by
  simp [whenRuns, hr]

theorem dutyEvent_of_runs {s : State} (h : s.awake = true) (hr : s.runs .set = true) (f : State → State) :
    dutyEvent s f = settle (f s) := whenRuns_of_runs h hr _

theorem runs_iff {s : State} {r : Role} : s.runs r = true ↔ s.station = .run ∧ s.image.role = some r := by
  simp [State.runs]

theorem awake_iff {s : State} : s.awake = true ↔ s.mainOn = true ∧ s.resetHeld = false := by
  simp [State.awake]

/-! ### The transmit queue -/

theorem queueInsert_length (f : TxFrame) (q : List TxFrame) : (queueInsert f q).length = q.length + 1 := by
  induction q with
  | nil => rfl
  | cons g rest ih => unfold queueInsert; split <;> simp [ih]

theorem mem_queueInsert {f g : TxFrame} {q : List TxFrame} : g ∈ queueInsert f q ↔ g = f ∨ g ∈ q := by
  induction q with
  | nil => simp [queueInsert]
  | cons x rest ih =>
    unfold queueInsert; split
    · simp only [List.mem_cons, ih]; constructor
      · rintro (h | h | h) <;> simp [h]
      · rintro (h | h | h) <;> simp [h]
    · simp

theorem queueInsert_ordered {f : TxFrame} {q : List TxFrame} (h : q.Pairwise (fun a b => a.cls ≤ b.cls)) :
    (queueInsert f q).Pairwise (fun a b => a.cls ≤ b.cls) := by
  induction q with
  | nil => simp [queueInsert]
  | cons x rest ih =>
    have hx := List.pairwise_cons.mp h
    unfold queueInsert; split
    · refine List.pairwise_cons.mpr ⟨fun g hg => ?_, ih hx.2⟩
      rcases mem_queueInsert.mp hg with rfl | hg
      · assumption
      · exact hx.1 g hg
    · refine List.pairwise_cons.mpr ⟨fun g hg => ?_, h⟩
      rcases List.mem_cons.mp hg with rfl | hg
      · omega
      · have := hx.1 g hg; omega

theorem withoutStatus_length_lt {q : List TxFrame} {f : TxFrame} (hf : f ∈ q) (hs : f.isStatus = true) :
    (withoutStatus q).length < q.length := by
  refine List.length_filter_lt_length_iff_exists.mpr ⟨f, hf, by simp [hs]⟩

theorem acceptFrame_length (l : LineCtl) (f : TxFrame) (h : l.queue.length ≤ txCap) :
    (acceptFrame l f).queue.length ≤ txCap := by
  unfold acceptFrame
  split
  · split
    · rename_i old hold
      have hm := List.mem_of_find?_eq_some hold
      have hs := List.find?_some hold
      have := withoutStatus_length_lt hm hs
      simp only [queueInsert_length]; omega
    · split
      · simp only [queueInsert_length]; omega
      · exact h
  · split
    · simp only [queueInsert_length]; omega
    · split
      · rename_i he
        obtain ⟨g, hg, hgs⟩ := List.any_eq_true.mp he
        have := withoutStatus_length_lt hg (by simp at hgs; exact hgs.1)
        simp only [queueInsert_length]; omega
      · exact h

theorem post_of_silent {s : State} (h : s.posts = false) (n : Nat) (b : Body) : post s n b = s := by
  simp [post, h]

theorem post_line_of_posts {s : State} (h : s.posts = true) (n : Nat) (b : Body) :
    (post s n b).line = acceptFrame s.line (newFrame n b) := by
  simp [post, h]

theorem post_records_of_room {s : State} (h : s.line.queue.length < txCap) (n : Nat) (b : Body) :
    (post s n b).records = s.records := by
  simp [post, refusesFrame, Nat.not_le.mpr h]

@[simp] theorem post_listenOnly (s : State) (n : Nat) (b : Body) :
    (post s n b).line.listenOnly = s.line.listenOnly := by
  simp only [post]; split
  · unfold acceptFrame; repeat (first | rfl | split)
  · rfl

@[simp] theorem post_phase (s : State) (n : Nat) (b : Body) : (post s n b).line.phase = s.line.phase := by
  simp only [post]; split
  · unfold acceptFrame; repeat (first | rfl | split)
  · rfl

/-! ### The record store -/

theorem joinQueue_queue (st : RecordStore) (stamp n : Nat) (b : RecordBody) :
    (joinQueue st stamp n b).queue = st.queue ++
      [{ seq := st.seq, stamp := stamp, powerUps := n, lost := if b.isEvent then st.eventLost else 0,
         carry := carryOf st b, body := b }] := by
  cases b <;> rfl

theorem dropOldestEvent_length {q rest : List Record} {n : Nat} (h : dropOldestEvent q = some (n, rest)) :
    rest.length + 1 = q.length := by
  induction q generalizing n rest with
  | nil => simp [dropOldestEvent] at h
  | cons r q ih =>
    unfold dropOldestEvent at h
    split at h
    · cases h; rfl
    · cases hd : dropOldestEvent q with
      | none => simp [hd] at h
      | some p =>
        simp only [hd, Option.map_some, Option.some.injEq, Prod.mk.injEq] at h
        obtain ⟨-, rfl⟩ := h
        have := ih hd
        simp only [List.length_cons]; omega

theorem appendTo_of_room {st : RecordStore} (h : st.queue.length < queueCap) (stamp n : Nat) (b : RecordBody) :
    appendTo st stamp n b = joinQueue st stamp n b := by
  simp [appendTo, h]

theorem appendTo_length (st : RecordStore) (stamp n : Nat) (b : RecordBody) (h : st.queue.length ≤ queueCap) :
    (appendTo st stamp n b).queue.length ≤ queueCap := by
  unfold appendTo
  split
  · simp only [joinQueue_queue, List.length_append, List.length_singleton]; omega
  · split
    · rename_i carried rest hd
      have := dropOldestEvent_length hd
      simp only [joinQueue_queue, List.length_append, List.length_singleton]; omega
    · split
      · exact h
      · cases b <;> exact h

/-! ### The peer table -/

theorem find_filePeer_self (p : Peer) (l : List Peer) :
    (filePeer p l).find? (fun q => q.station == p.station) = some p := by
  induction l with
  | nil => simp [filePeer]
  | cons q rest ih =>
    unfold filePeer; split
    · simp
    · split
      · simp
      · rename_i h _; simp [h, ih]

theorem find_filePeer_other {p : Peer} {n : Nat} (h : n ≠ p.station) (l : List Peer) :
    (filePeer p l).find? (fun q => q.station == n) = l.find? (fun q => q.station == n) := by
  have hp : (p.station == n) = false := by simp; omega
  induction l with
  | nil => simp [filePeer, hp]
  | cons q rest ih =>
    unfold filePeer; split
    · rename_i hq
      have : (q.station == n) = false := by simp; omega
      simp [hp, this]
    · split
      · simp [hp]
      · simp only [List.find?_cons, ih]

/-! ### Command frames -/

theorem takeCommand_of_ready {s : State} (h : s.awake = true) (hr : s.port.reply.ready = true) (n : Nat)
    (act : State → Answer) :
    takeCommand n act s = { (act s).state with port := placeReply (act s).state.port n (act s).code (act s).payload } := by
  simp [takeCommand, h, hr]

theorem takeCommand_of_not_ready {s : State} (hr : s.port.reply.ready = false) (n : Nat) (act : State → Answer) :
    takeCommand n act s = s := by
  simp [takeCommand, hr]

/-! ### The meter link -/

theorem setLink_same {s : State} {l : List Byte} {b : Bool} (h : s.meter.link = l) (hb : s.meter.linkOld = b) :
    setLink s l b = s := by subst h; subst hb; rfl

/-- A character that begins no reading is skipped. -/
theorem linkChar_skips {s : State} (h : s.meter.link = []) {c : Byte} (hc : c ≠ syncChar) : linkChar s c = s := by
  simp [linkChar, h, hc]

theorem linkChar_begins {s : State} (h : s.meter.link = []) : linkChar s syncChar = setLink s [syncChar] false := by
  simp [linkChar, h]

theorem linkChar_within {s : State} (h : s.meter.link ≠ []) (hl : s.meter.link.length < lastPlace) (c : Byte) :
    linkChar s c = setLink s (s.meter.link ++ [c]) s.meter.linkOld := by
  unfold linkChar; split
  · contradiction
  · simp [hl]

theorem linkChar_completes {s : State} (hl : s.meter.link.length = lastPlace) (c : Byte) :
    linkChar s c = completeReading (s.meter.link ++ [c]) s := by
  unfold linkChar; split
  · rename_i h; simp [h, lastPlace] at hl
  · simp [hl]

/-- A reading into which no restart has fallen is judged. -/
theorem completeReading_judges {s : State} (hr : s.resetHeld = false) (ho : s.meter.linkOld = false) (l : List Byte) :
    completeReading l s = judgeReading l (setLink s [] false) := by
  simp [completeReading, hr, ho]

/-- A reading into which a restart has fallen is passed over. -/
theorem completeReading_passes {s : State} (ho : s.meter.linkOld = true) (l : List Byte) :
    completeReading l s = passReading l (setLink s [] false) := by
  simp [completeReading, ho]

/-- Characters within a reading take their places. -/
theorem readMeter_within {s : State} (h : s.meter.link ≠ []) (l : List Byte)
    (hl : s.meter.link.length + l.length ≤ lastPlace) :
    readMeter l s = setLink s (s.meter.link ++ l) s.meter.linkOld := by
  induction l generalizing s with
  | nil => simp [readMeter, setLink_same]
  | cons c rest ih =>
    simp only [List.length_cons] at hl
    have e := linkChar_within h (by omega) c
    have := ih (s := linkChar s c) (by rw [e]; simp) (by rw [e]; simp; omega)
    simp only [readMeter, List.foldl_cons] at this ⊢
    rw [this, e]; simp [setLink]

/-- A whole reading on a waiting link is judged, and the link waits again. -/
theorem readMeter_whole {s : State} (h : s.meter.link = []) (ho : s.meter.linkOld = false) (hr : s.resetHeld = false)
    (ch stamp p3 p2 p1 p0 check : Byte) :
    readMeter [165#8, ch, stamp, p3, p2, p1, p0, check] s =
      judgeReading [165#8, ch, stamp, p3, p2, p1, p0, check] s := by
  have h1 := linkChar_begins h
  have h2 := readMeter_within (s := setLink s [165#8] false) (by simp) [ch, stamp, p3, p2, p1, p0] (by simp)
  have h3 := linkChar_completes (s := setLink s [165#8, ch, stamp, p3, p2, p1, p0] false) rfl check
  have h4 : setLink (setLink s [165#8, ch, stamp, p3, p2, p1, p0] false) [] false = s := setLink_same h ho
  have h5 : setLink (setLink s [165#8] false) [165#8, ch, stamp, p3, p2, p1, p0] false =
      setLink s [165#8, ch, stamp, p3, p2, p1, p0] false := rfl
  rw [completeReading_judges (by simpa using hr) rfl, h4] at h3
  simp only [readMeter, List.foldl_cons, List.foldl_nil, setLink_link, setLink_linkOld, List.cons_append,
    List.nil_append] at h1 h2 h3 ⊢
  rw [show (165#8 : Byte) = syncChar from rfl] at *
  rw [h1, h2, h5, h3]

/-! ### The tests of the changeover controller -/

/-- A trigger found is one of the rows tried, its condition holds, and no retry holds it off. -/
theorem firstTrigger_spec {s : State} {rows : List Reason} {r : Reason} (h : firstTrigger s rows = some r) :
    r ∈ rows ∧ triggerTest s r = true ∧ heldOff s r = false := by
  have h1 := List.find?_some h
  exact ⟨List.mem_of_find?_eq_some h, by simpa using h1⟩

theorem idleRows_of_not_idle {s : State} (h : s.chg.state ≠ .idle) (rows : List Reason) : idleRows s rows = s := by
  simp [idleRows, h]

/-- Where no row fires and there is no dry note, the tests change nothing. -/
theorem idleRows_of_quiet {s : State} {rows : List Reason} (h : firstTrigger s rows = none) (hn : s.chg.dryNote = none) :
    idleRows s rows = s := by
  simp [idleRows, h, noteTest, hn]

/-! ### Conditions of the duty controller -/

theorem clearCondition_of_absent {s : State} {c : FaultClass} (h : s.present c = false) : clearCondition s c = s := by
  simp [clearCondition, h]

theorem raiseCondition_of_present {s : State} {c : FaultClass} (h : s.present c = true) : raiseCondition s c = s := by
  simp [raiseCondition, h]

/-- `settle` changes nothing where no condition has gone. -/
theorem settle_of_settled {s : State} (h1 : s.present .engineFault = true → s.input 3 = true ∨ s.duty.runOn = true)
    (h2 : s.present .breaker = true → s.input 2 ≠ s.duty.brkClosed)
    (h3 : s.present .burnSilent = true → s.duty.state = .ready) : settle s = s := by
  have e1 : (if s.input 3 = false ∧ s.duty.runOn = false then clearCondition s .engineFault else s) = s := by
    split
    · rename_i h
      apply clearCondition_of_absent
      cases hp : s.present .engineFault with
      | false => rfl
      | true => rcases h1 hp with h' | h' <;> simp_all
    · rfl
  have e2 : (if s.input 2 = s.duty.brkClosed then clearCondition s .breaker else s) = s := by
    split
    · rename_i h
      apply clearCondition_of_absent
      cases hp : s.present .breaker with
      | false => rfl
      | true => exact absurd h (h2 hp)
    · rfl
  unfold settle
  simp only [e1, e2]
  split
  · rfl
  · rename_i h
    apply clearCondition_of_absent
    cases hp : s.present .burnSilent with
    | false => rfl
    | true => exact absurd (h3 hp) h

end Sys2Proof.Machine
end

