-- ==== Sys2Proof/Laws/Line.lean ====
section
/-! SUPPORT. A frame taken, said once: what the station is after hearing it, which block it reaches, and when the duty
controller has nothing to settle after it. -/

namespace Sys2Proof.Machine

/-! ### Hearing a frame -/

theorem heard_eq (s : State) (f : RxFrame) :
    s.heard f = { s with peers := (s.heard f).peers, line := { s.line with phase := .waiting } } := by
  unfold State.heard showPeer; split <;> rfl

@[simp] theorem heard_mainOn (s : State) (f : RxFrame) : (s.heard f).mainOn = s.mainOn := by rw [heard_eq]
@[simp] theorem heard_resetHeld (s : State) (f : RxFrame) : (s.heard f).resetHeld = s.resetHeld := by rw [heard_eq]
@[simp] theorem heard_station (s : State) (f : RxFrame) : (s.heard f).station = s.station := by rw [heard_eq]
@[simp] theorem heard_image (s : State) (f : RxFrame) : (s.heard f).image = s.image := by rw [heard_eq]
@[simp] theorem heard_inputs (s : State) (f : RxFrame) : (s.heard f).inputs = s.inputs := by rw [heard_eq]
@[simp] theorem heard_backupGood (s : State) (f : RxFrame) : (s.heard f).backupGood = s.backupGood := by rw [heard_eq]
@[simp] theorem heard_doubt (s : State) (f : RxFrame) : (s.heard f).doubt = s.doubt := by rw [heard_eq]
@[simp] theorem heard_checkAgrees (s : State) (f : RxFrame) : (s.heard f).checkAgrees = s.checkAgrees := by rw [heard_eq]
@[simp] theorem heard_powerUps (s : State) (f : RxFrame) : (s.heard f).powerUps = s.powerUps := by rw [heard_eq]
@[simp] theorem heard_stationSeconds (s : State) (f : RxFrame) : (s.heard f).stationSeconds = s.stationSeconds := by rw [heard_eq]
@[simp] theorem heard_pulses (s : State) (f : RxFrame) : (s.heard f).pulses = s.pulses := by rw [heard_eq]
@[simp] theorem heard_meter (s : State) (f : RxFrame) : (s.heard f).meter = s.meter := by rw [heard_eq]
@[simp] theorem heard_duty (s : State) (f : RxFrame) : (s.heard f).duty = s.duty := by rw [heard_eq]
@[simp] theorem heard_reservations (s : State) (f : RxFrame) : (s.heard f).reservations = s.reservations := by rw [heard_eq]
@[simp] theorem heard_chg (s : State) (f : RxFrame) : (s.heard f).chg = s.chg := by rw [heard_eq]
@[simp] theorem heard_tank (s : State) (f : RxFrame) : (s.heard f).tank = s.tank := by rw [heard_eq]
@[simp] theorem heard_delivery (s : State) (f : RxFrame) : (s.heard f).delivery = s.delivery := by rw [heard_eq]
@[simp] theorem heard_tanker (s : State) (f : RxFrame) : (s.heard f).tanker = s.tanker := by rw [heard_eq]
@[simp] theorem heard_setBill (s : State) (f : RxFrame) : (s.heard f).setBill = s.setBill := by rw [heard_eq]
@[simp] theorem heard_boardBill (s : State) (f : RxFrame) : (s.heard f).boardBill = s.boardBill := by rw [heard_eq]
@[simp] theorem heard_records (s : State) (f : RxFrame) : (s.heard f).records = s.records := by rw [heard_eq]
@[simp] theorem heard_port (s : State) (f : RxFrame) : (s.heard f).port = s.port := by rw [heard_eq]
@[simp] theorem heard_free (s : State) (f : RxFrame) : (s.heard f).free = s.free := by rw [heard_eq]
@[simp] theorem heard_pending (s : State) (f : RxFrame) : (s.heard f).pending = s.pending := by rw [heard_eq]
@[simp] theorem heard_line_queue (s : State) (f : RxFrame) : (s.heard f).line.queue = s.line.queue := by rw [heard_eq]
@[simp] theorem heard_line_older (s : State) (f : RxFrame) : (s.heard f).line.older = s.line.older := by rw [heard_eq]
@[simp] theorem heard_line_listenOnly (s : State) (f : RxFrame) : (s.heard f).line.listenOnly = s.line.listenOnly := by rw [heard_eq]
@[simp] theorem heard_line_statusTimer (s : State) (f : RxFrame) : (s.heard f).line.statusTimer = s.line.statusTimer := by rw [heard_eq]
@[simp] theorem heard_line_phase (s : State) (f : RxFrame) : (s.heard f).line.phase = .waiting := by rw [heard_eq]
@[simp] theorem heard_at_awake (s : State) (f : RxFrame) : (s.heard f).awake = s.awake := by rw [heard_eq]; rfl
@[simp] theorem heard_at_posts (s : State) (f : RxFrame) : (s.heard f).posts = s.posts := by rw [heard_eq]; rfl
@[simp] theorem heard_at_headroom (s : State) (f : RxFrame) : (s.heard f).headroom = s.headroom := by rw [heard_eq]; rfl
@[simp] theorem heard_at_basis (s : State) (f : RxFrame) : (s.heard f).basis = s.basis := by rw [heard_eq]; rfl
@[simp] theorem heard_at_output (s : State) (f : RxFrame) : (s.heard f).output = s.output := by rw [heard_eq]; rfl
@[simp] theorem heard_at_closedList (s : State) (f : RxFrame) : (s.heard f).closedList = s.closedList := by rw [heard_eq]; rfl
@[simp] theorem heard_at_closedPos (s : State) (f : RxFrame) : (s.heard f).closedPos = s.closedPos := by rw [heard_eq]; rfl
@[simp] theorem heard_at_stageLive (s : State) (f : RxFrame) : (s.heard f).stageLive = s.stageLive := by rw [heard_eq]; rfl
@[simp] theorem heard_at_inhibit (s : State) (f : RxFrame) : (s.heard f).inhibit = s.inhibit := by rw [heard_eq]; rfl
@[simp] theorem heard_at_carrying (s : State) (f : RxFrame) : (s.heard f).carrying = s.carrying := by rw [heard_eq]; rfl
@[simp] theorem heard_at_stopping (s : State) (f : RxFrame) : (s.heard f).stopping = s.stopping := by rw [heard_eq]; rfl
@[simp] theorem heard_at_burnCl (s : State) (f : RxFrame) : (s.heard f).burnCl = s.burnCl := by rw [heard_eq]; rfl
@[simp] theorem heard_at_inletCl (s : State) (f : RxFrame) : (s.heard f).inletCl = s.inletCl := by rw [heard_eq]; rfl
@[simp] theorem heard_at_dispenseCl (s : State) (f : RxFrame) : (s.heard f).dispenseCl = s.dispenseCl := by rw [heard_eq]; rfl
@[simp] theorem heard_runs (s : State) (f : RxFrame) (r : Role) : (s.heard f).runs r = s.runs r := by rw [heard_eq]; rfl
@[simp] theorem heard_input (s : State) (f : RxFrame) (n : Nat) : (s.heard f).input n = s.input n := by rw [heard_eq]; rfl
@[simp] theorem heard_present (s : State) (f : RxFrame) (c : FaultClass) : (s.heard f).present c = s.present c := by
  rw [heard_eq]; rfl
@[simp] theorem heard_feeds (s : State) (f : RxFrame) (n : Nat) : (s.heard f).feeds n = s.feeds n := by rw [heard_eq]; rfl
@[simp] theorem heard_entryOf (s : State) (f : RxFrame) (n : Nat) : (s.heard f).entryOf n = s.entryOf n := by
  rw [heard_eq]; rfl
@[simp] theorem heard_channel (s : State) (f : RxFrame) (n : Nat) : (s.heard f).channel n = s.channel n := by
  rw [heard_eq]; rfl
@[simp] theorem heard_liveAt (s : State) (f : RxFrame) (n : Nat) : (s.heard f).liveAt n = s.liveAt n := by
  rw [heard_eq]; rfl
@[simp] theorem heard_addressed (s : State) (f : RxFrame) (n : Nat) : (s.heard f).addressed n = s.addressed n := by
  rw [heard_eq]; rfl

/-! ### A frame taken reaches the block that owns its kind -/

theorem kindOf_kindByte (k : Kind) : kindOf (kindByte k).toNat = some k := by cases k <;> rfl

theorem statusIn_kindByte {k : Kind} (h : k ≠ .status) (body : List Byte) : statusIn (kindByte k) body = none := by
  cases k <;> first | rfl | exact absurd rfl h

theorem whenFollowed_of_follows {s : State} (ha : s.awake = true) (hf : s.follows = true) (act : State → State) :
    whenFollowed s act = act s := by
  simp [whenFollowed, whenAwake, ha, hf]

/-- A frame that the station does not follow changes nothing. -/
theorem receive_of_not_follows {s : State} (h : s.follows = false) (kind : Byte) (f : RxFrame) : receive kind f s = s := by
  simp [receive, whenFollowed, whenAwake, h]

theorem receive_of_takes {s : State} {f : RxFrame} (h : s.Takes f) {k : Kind} (hk : k ≠ .status) {b : Body}
    (hb : parseBody k f.body = some b) : receive (kindByte k) f s = deliver (s.heard f) f.sender b := by
  have hne : (s.image.station == some f.sender) = false := by simpa using h.other
  have hd : (endReception s).duplicate f = false := by simp [State.duplicate, endReception, hne]
  simp only [receive, whenFollowed_of_follows h.awake h.follows, h.sound, goodFrameSeen, hd, peerFrame,
    statusIn_kindByte hk]
  have hh : showPeer (endReception s) f.sender none = s.heard f := rfl
  simp [hh, h.run, h.ours, takenBody, kindOf_kindByte, hb]

theorem deliver_to_set {s : State} {f : RxFrame} (h : s.Takes f) (hr : s.image.role = some .set) (g : State → State) :
    dutyEvent (s.heard f) g = settle (g (s.heard f)) ∧ whenRuns .set (s.heard f) g = g (s.heard f) := by
  have ha : (s.heard f).awake = true := by simp [h.awake]
  have hs : (s.heard f).runs .set = true := by simp [State.runs, h.run, hr]
  exact ⟨dutyEvent_of_runs ha hs g, whenRuns_of_runs ha hs g⟩

theorem deliver_to_board {s : State} {f : RxFrame} (h : s.Takes f) (hr : s.image.role = some .board) (g : State → State) :
    whenRuns .board (s.heard f) g = g (s.heard f) := by
  have ha : (s.heard f).awake = true := by simp [h.awake]
  exact whenRuns_of_runs ha (by simp [State.runs, h.run, hr]) g

theorem deliver_to_tanker {s : State} {f : RxFrame} (h : s.Takes f) (hr : s.image.role = some .tanker)
    (g : State → State) : whenRuns .tanker (s.heard f) g = g (s.heard f) := by
  have ha : (s.heard f).awake = true := by simp [h.awake]
  exact whenRuns_of_runs ha (by simp [State.runs, h.run, hr]) g

/-! ### Nothing to settle -/

theorem State.Settled.settle {s : State} (h : s.Settled) : settle s = s := settle_of_settled h.engine h.breaker h.burn

/-- What keeps a station settled: the same conditions, inputs and commands, and the same duty state or no BURN_SILENT. -/
theorem State.Settled.of_same {s t : State} (h : s.Settled) (hc : t.duty.conditions = s.duty.conditions)
    (hi : t.inputs = s.inputs) (hb : t.duty.brkClosed = s.duty.brkClosed) (hr : s.duty.runOn = true → t.duty.runOn = true)
    (hd : t.duty.state = s.duty.state ∨ s.duty.state ≠ .ready) : t.Settled := by
  have hp : ∀ c, t.present c = s.present c := fun c => by simp [State.present, hc]
  have hn : ∀ n, t.input n = s.input n := fun n => by simp [State.input, hi]
  refine ⟨fun h1 => ?_, fun h1 => ?_, fun h1 => ?_⟩
  · rw [hp] at h1; rw [hn]; exact (h.engine h1).imp id hr
  · rw [hp] at h1; rw [hn, hb]; exact h.breaker h1
  · rw [hp] at h1
    rcases hd with hd | hd
    · rw [hd]; exact h.burn h1
    · exact absurd (h.burn h1) hd

end Sys2Proof.Machine
end

