-- ==== Sys2Proof/Laws/Settlement.lean ====
section
/-! SUPPORT. What opening an entry of the settlement table can do, and what the metering unit's hand-overs leave in it,
said once. -/

namespace Sys2Proof.Machine

/-- The first place that passes a test, with the entries before it. -/
theorem findIdx?_of_split {p : Entry → Bool} {t before after : List Entry} {e : Entry}
    (h : t = before ++ e :: after) (he : p e = true) (hb : ∀ x ∈ before, p x = false) :
    t.findIdx? p = some before.length := by
  subst h
  induction before with
  | nil => simp [List.findIdx?_cons, he]
  | cons x xs ih =>
    simp only [List.cons_append, List.findIdx?_cons, hb x (List.mem_cons_self ..), Bool.false_eq_true, if_false]
    rw [ih (fun y hy => hb y (List.mem_cons_of_mem _ hy))]
    simp

/-- The place that a full table gives up is the oldest WAITING_CLOSE entry, else the oldest CLAIMED one (R160). -/
theorem evictPlace_of_oldest {t : List Entry} {m : Nat} {x : Entry} (hx : t[m]? = some x)
    (h : (x.state = .waitingClose ∧ ∀ y ∈ t.take m, y.state ≠ .waitingClose) ∨
      (x.state = .claimed ∧ (∀ y ∈ t, y.state ≠ .waitingClose) ∧ ∀ y ∈ t.take m, y.state ≠ .claimed)) :
    evictPlace t = some m := by
  have hm : m < t.length := (List.getElem?_eq_some_iff.mp hx).1
  have hs : t = t.take m ++ x :: t.drop (m + 1) := by
    obtain ⟨_, rfl⟩ := List.getElem?_eq_some_iff.mp hx
    rw [← List.drop_eq_getElem_cons hm, List.take_append_drop]
  have hl : (t.take m).length = m := by simp; omega
  rcases h with ⟨h1, h2⟩ | ⟨h1, h2, h3⟩
  · simp [evictPlace, findIdx?_of_split hs (p := fun e => e.state == .waitingClose) (by simp [h1])
      (fun y hy => by simpa using h2 y hy), hl]
  · have hn : t.findIdx? (fun e => e.state == .waitingClose) = none :=
      List.findIdx?_eq_none_iff.mpr (fun y hy => by simpa using h2 y hy)
    simp [evictPlace, hn, findIdx?_of_split hs (p := fun e => e.state == .claimed) (by simp [h1])
      (fun y hy => by simpa using h3 y hy), hl]

/-- An entry of the set that waits for the period is made CURRENT again (R158, step 2). -/
theorem makeCurrent_reopens {s : State} {set pos period : Nat} {before after : List Entry} {e : Entry}
    (h : s.boardBill.table = before ++ e :: after)
    (he : e.state = .waitingClose ∧ e.set = set ∧ e.period = period ∧ period ≠ 0)
    (hb : ∀ x ∈ before, ¬ (x.state = .waitingClose ∧ x.set = set ∧ x.period = period ∧ period ≠ 0)) :
    makeCurrent s set pos period =
      setTable s (before ++ reopen ((s.channel 0).state == .lost) pos e :: after) := by
  have hf := findIdx?_of_split h (p := fun e => e.state == .waitingClose && e.set == set && e.period == period && period != 0)
    (by simp [he.1, he.2.1, he.2.2.1, he.2.2.2]) (fun x hx => by
      have := hb x hx
      simp only [Bool.eq_false_iff, ne_eq, Bool.and_eq_true, beq_iff_eq, bne_iff_ne, and_assoc]
      exact this)
  have hm : (before ++ e :: after).modify before.length (reopen ((s.channel 0).state == .lost) pos) =
      before ++ reopen ((s.channel 0).state == .lost) pos e :: after := by
    clear h hf hb
    induction before with
    | nil => rfl
    | cons x xs ih => simp only [List.cons_append, List.length_cons, List.modify_succ_cons, ih]
  simp only [makeCurrent, hf]
  rw [h, hm]

/-- Without such an entry a new one opens (R158, step 3). -/
theorem makeCurrent_opens {s : State} {set pos period : Nat}
    (h : ∀ x ∈ s.boardBill.table, ¬ (x.state = .waitingClose ∧ x.set = set ∧ x.period = period ∧ period ≠ 0)) :
    makeCurrent s set pos period = openEntry s set pos period := by
  have hf : s.boardBill.table.findIdx?
      (fun e => e.state == .waitingClose && e.set == set && e.period == period && period != 0) = none :=
    List.findIdx?_eq_none_iff.mpr (fun x hx => by
      have := h x hx
      simp only [Bool.eq_false_iff, ne_eq, Bool.and_eq_true, beq_iff_eq, bne_iff_ne, and_assoc]
      exact this)
  simp only [makeCurrent, hf]

/-- The period of an opening entry is what its set's FRESH status shows, one on where it is the last closed heard (R158,
step 1). -/
theorem periodFor_eq {s : State} {set period : Nat} (h0 : set = 0 ∨ s.freshSet set = none → period = 0)
    (h1 : ∀ b, set ≠ 0 → s.freshSet set = some b →
      period = if b.period ≠ 0 ∧ b.period = s.lastClosedOf set then nextNumber 65535 b.period else b.period) :
    periodFor s set = period := by
  unfold periodFor
  split
  · exact (h0 (.inl ‹_›)).symm
  · cases hf : s.freshSet set with
    | none => exact (h0 (.inr hf)).symm
    | some b => exact (h1 b ‹_› hf).symm

/-- Opening an entry at a feedback that appears leaves what R158 and R159 lay down, and nothing else. -/
theorem feedbackAppears_of_opened {s u : State} {pos : Nat} (h : s.Opened pos u) : feedbackAppears s pos = u := by
  obtain ⟨period, h0, h1, hu⟩ := h
  have hp : periodFor (endCurrent s) (s.image.setAt pos) = period := periodFor_eq h0 h1
  have hs : feedbackAppears s pos = makeCurrent (endCurrent s) (s.image.setAt pos) pos period := by
    rw [← hp]; rfl
  rw [hs]
  rcases hu with ⟨before, e, after, ht, he, hb, rfl⟩ | ⟨hn, hl, rfl⟩ | ⟨m, x, hn, hl, hx, ho, rfl⟩
  · rw [makeCurrent_reopens (s := endCurrent s) ht he hb]
    rfl
  · rw [makeCurrent_opens (s := endCurrent s) hn]
    simp only [openEntry, makeRoom, show (endCurrent s).boardBill.table.length < tableCap from hl, if_true]
    rfl
  · rw [makeCurrent_opens (s := endCurrent s) hn]
    have hr : ¬ (endCurrent s).boardBill.table.length < tableCap := Nat.not_lt.mpr hl
    have hv : evictPlace (endCurrent s).boardBill.table = some m := evictPlace_of_oldest hx ho
    have hx' : (endCurrent s).boardBill.table[m]? = some x := hx
    by_cases hg : hasEnergy s.image x = true
    · simp only [openEntry, makeRoom, hr, if_false, hv, leaveTable, hx', show hasEnergy (endCurrent s).image x = true from hg,
        if_true, hg]
      rfl
    · simp only [openEntry, makeRoom, hr, if_false, hv, leaveTable, hx', show ¬ hasEnergy (endCurrent s).image x = true from hg,
        hg]
      rfl

/-! ### What the metering unit hands over (R157) -/

/-- A change of the CURRENT entry leaves a table without one as it is. -/
theorem map_of_no_current {t : List Entry} (h : ∀ e ∈ t, e.state ≠ .current) (f : Entry → Entry) :
    t.map (fun e => if e.state = .current then f e else e) = t := by
  conv => rhs; rw [← List.map_id t]
  exact List.map_congr_left (fun e he => by simp [h e he])

/-- One metered second leaves the figures of R157, and nothing else. -/
theorem placePeak_placeWh (b : BoardSettlement) (n wh p : Nat) :
    placePeak (placeWh b n wh) n p = b.handed n wh p 0 := by
  have hc : hasCurrent b.table = false ↔ ∀ e ∈ b.table, e.state ≠ .current := by simp [hasCurrent]
  by_cases h : ∀ e ∈ b.table, e.state ≠ .current
  · by_cases hn : n = 0
    · simp only [placePeak, placeWh, hc.mpr h, BoardSettlement.handed, map_of_no_current h, hn, if_true, and_self, addTo,
        Bool.false_eq_true, if_false, eq_true h]
    · simp only [placePeak, placeWh, hc.mpr h, BoardSettlement.handed, atCurrent, map_of_no_current h, hn, if_false,
        false_and, Bool.false_eq_true]
  · have hh : hasCurrent b.table = true := by
      rw [← Bool.not_eq_false]
      exact fun g => h (hc.mp g)
    by_cases hn : n = 0
    · simp only [placePeak, placeWh, hh, BoardSettlement.handed, atCurrent, hn, if_true, eq_false h, and_false, if_false,
        addTo, Nat.add_zero]
    · simp only [placePeak, placeWh, hh, BoardSettlement.handed, atCurrent, atAccount, hn, if_true, false_and, if_false,
        addTo, Nat.add_zero, List.map_map]
      congr 1
      exact List.map_congr_left (fun e _ => by by_cases he : e.state = .current <;> simp [he])

/-- Two hand-overs of one channel are one of their sums. -/
theorem handed_handed (b : BoardSettlement) (n w1 w2 p1 p2 m1 m2 : Nat) :
    (b.handed n w1 p1 m1).handed n w2 p2 m2 = b.handed n (w1 + w2) (max p1 p2) (m1 + m2) := by
  have hm : ∀ x a c : Nat, min 4294967295 (min 4294967295 (x + a) + c) = min 4294967295 (x + (a + c)) := by omega
  have hs : ∀ (l : List Nat) (f g : Nat → Nat),
      (l.set (n - 1) (f (l.getD (n - 1) 0))).set (n - 1)
        (g ((l.set (n - 1) (f (l.getD (n - 1) 0))).getD (n - 1) 0)) = l.set (n - 1) (g (f (l.getD (n - 1) 0))) :=
    fun l f g => by
      by_cases h : n - 1 < l.length
      · simp [h]
      · simp [List.set_eq_of_length_le (Nat.not_lt.mp h)]
  have hh : (∀ e ∈ (b.handed n w1 p1 m1).table, e.state ≠ .current) ↔ ∀ e ∈ b.table, e.state ≠ .current := by
    simp only [BoardSettlement.handed, List.mem_map, forall_exists_index, and_imp, forall_apply_eq_imp_iff₂]
    exact forall₂_congr (fun e _ => by by_cases he : e.state = .current <;> simp [he])
  unfold BoardSettlement.handed at hh ⊢
  rw [BoardSettlement.mk.injEq]
  refine ⟨?_, ?_, rfl⟩
  · rw [List.map_map]
    refine List.map_congr_left (fun e _ => ?_)
    by_cases he : e.state = .current
    · by_cases hn : n = 0
      · simp [he, hn, hm, Nat.add_assoc]
      · simp only [Function.comp, he, hn, if_true, if_false, Nat.add_assoc,
          hs e.wh (fun x => min 4294967295 (x + w1)) (fun x => min 4294967295 (x + w2)),
          hs e.peaks (fun x => max x p1) (fun x => max x p2), hm, Nat.max_assoc]
    · simp [he]
  · simp only [hh]
    by_cases hn : n = 0 ∧ ∀ e ∈ b.table, e.state ≠ .current
    · simp only [if_pos hn, hm]
    · simp only [if_neg hn]

end Sys2Proof.Machine
end

