-- ==== Sys2Proof/Laws/Stage.lean ====
section
/-! SUPPORT. What the tests of a candidate, and those of START on the image, ask, said once. -/

namespace Sys2Proof.Machine

/-! ### The candidates of an attempt (R101) -/

/-- A lookup gives a FRESH status exactly where the set is heard (R30). -/
theorem freshSet_iff {s : State} {pos : Nat} {b : SetStatus} :
    s.freshSet (s.image.setAt pos) = some b ↔ s.Hears pos b := by
  unfold State.freshSet State.setStatusOf State.Hears
  cases hp : s.peer (s.image.setAt pos) with
  | none => simp
  | some q => rcases q with ⟨n, r, fr, since, body⟩; cases fr <;> rcases body with _ | ⟨_ | _ | _⟩ <;> simp

/-- The tests of R101 on a position. -/
theorem candidateOk_iff {s : State} {estimate pos : Nat} :
    candidateOk s estimate pos = true ↔ s.Candidate estimate pos := by
  unfold candidateOk State.Candidate
  cases hf : s.freshSet (s.image.setAt pos) with
  | none => simp [← freshSet_iff, hf]
  | some b => simp [← freshSet_iff, hf, and_assoc]

/-- A position's set shows READY where it is heard so (R101). -/
theorem showsReady_iff {s : State} {pos : Nat} :
    showsReady s pos = true ↔ ∃ b, s.Hears pos b ∧ b.duty = dutyCode .ready := by
  unfold showsReady
  cases hf : s.freshSet (s.image.setAt pos) <;> simp [← freshSet_iff, hf]

/-! ### The image at START (R191) -/

/-- Levels and volumes in order, point by point. -/
theorem strapAscends_iff {l : List StrapPoint} :
    strapAscends l = true ↔
      ∀ k p q, l[k]? = some p → l[k + 1]? = some q → p.level < q.level ∧ p.volume ≤ q.volume := by
  induction l with
  | nil => simp [strapAscends]
  | cons x xs ih =>
    cases xs with
    | nil => simp [strapAscends]
    | cons y ys =>
      simp only [strapAscends, Bool.and_eq_true, decide_eq_true_eq, ih]
      constructor
      · rintro ⟨⟨h1, h2⟩, h3⟩ k p q hp hq
        cases k with
        | zero => simp_all
        | succ k => exact h3 k p q (by simpa using hp) (by simpa using hq)
      · intro h
        exact ⟨h 0 x y rfl rfl, fun k p q hp hq => h (k + 1) p q (by simpa using hp) (by simpa using hq)⟩

/-- Points that are all written, read without their marks of being so. -/
theorem written_points {l : List (Option StrapPoint)} (h : l.all Option.isSome = true) :
    (l.filterMap id).map some = l := by
  induction l with
  | nil => rfl
  | cons x xs ih => cases x <;> simp_all

/-- STRAP passes where the points 1..STRAP_COUNT are written and in order (R191). -/
theorem strapOk_iff {i : Image} : strapOk i = true ↔ i.Strapped := by
  have hat : ∀ k, k < i.strapPoints → (i.strap.take i.strapPoints)[k]? = i.strap[k]? := fun k h => by simp [h]
  have hl : (i.strap.take i.strapPoints).length ≤ i.strapPoints := List.length_take_le ..
  rw [strapOk, Bool.and_eq_true, Bool.and_eq_true, decide_eq_true_eq, strapAscends_iff]
  constructor
  · rintro ⟨⟨hw, hn⟩, ha⟩
    have hm : i.table.map some = i.strap.take i.strapPoints := written_points hw
    have hk : ∀ k, k < i.strapPoints → i.strap[k]? = i.table[k]?.map some :=
      fun k h => by rw [← hat k h, ← List.getElem?_map, hm]
    refine ⟨fun k h => ?_, fun k p q h hp hq => ?_⟩
    · exact ⟨_, by rw [hk k h, List.getElem?_eq_getElem (by omega)]; rfl⟩
    · rw [hk k (by omega)] at hp
      rw [hk (k + 1) h] at hq
      exact ha k p q (by simpa using hp) (by simpa using hq)
  · rintro ⟨hw, ha⟩
    have hall : (i.strap.take i.strapPoints).all Option.isSome = true := by
      rw [List.all_eq_true]
      intro x hx
      obtain ⟨k, hk, rfl⟩ := List.getElem_of_mem hx
      obtain ⟨p, hp⟩ := hw k (by omega)
      rw [← hat k (by omega), List.getElem?_eq_getElem hk] at hp
      simp [Option.some.inj hp]
    have hm : i.table.map some = i.strap.take i.strapPoints := written_points hall
    have hk : ∀ k, k < i.strapPoints → i.strap[k]? = i.table[k]?.map some :=
      fun k h => by rw [← hat k h, ← List.getElem?_map, hm]
    have hn : i.table.length = i.strapPoints := by
      have h1 : i.table.length = (i.strap.take i.strapPoints).length := by
        simpa using congrArg List.length hm
      have h2 : ¬ (i.strap.take i.strapPoints).length < i.strapPoints := fun h => by
        obtain ⟨p, hp⟩ := hw _ h
        rw [← hat _ h] at hp
        simp at hp
      omega
    refine ⟨⟨hall, hn⟩, fun k p q hp hq => ?_⟩
    have hlt : k + 1 < i.strapPoints := by
      have := (List.getElem?_eq_some_iff.mp hq).1
      omega
    exact ha k p q hlt (by rw [hk k (by omega), hp]; rfl) (by rw [hk _ hlt, hq]; rfl)

/-- POS_SET fails where no position names a set, two name one, or one names the own number (R191). -/
theorem posSetFails_iff {i : Image} {own : Nat} : posSetFails i own = true ↔ i.Misplaced own := by
  have hn : ∀ P : Nat → Prop, (∃ n, 1 ≤ n ∧ n ≤ 3 ∧ P n) ↔ P 1 ∨ P 2 ∨ P 3 := fun P =>
    ⟨fun ⟨n, h1, h3, h⟩ => by
      have : n = 1 ∨ n = 2 ∨ n = 3 := by omega
      rcases this with rfl | rfl | rfl <;> simp [h],
     fun h => h.elim (fun h => ⟨1, by decide, by decide, h⟩)
      (fun h => h.elim (fun h => ⟨2, by decide, by decide, h⟩) (fun h => ⟨3, by decide, by decide, h⟩))⟩
  have hp : (∃ m n, 1 ≤ m ∧ m < n ∧ n ≤ 3 ∧ i.setAt m ≠ 0 ∧ i.setAt m = i.setAt n) ↔
      (i.setAt 1 ≠ 0 ∧ (i.setAt 1 = i.setAt 2 ∨ i.setAt 1 = i.setAt 3)) ∨
        (i.setAt 2 ≠ 0 ∧ i.setAt 2 = i.setAt 3) := by
    constructor
    · rintro ⟨m, n, h1, h2, h3, h⟩
      have : (m = 1 ∧ n = 2) ∨ (m = 1 ∧ n = 3) ∨ (m = 2 ∧ n = 3) := by omega
      rcases this with ⟨rfl, rfl⟩ | ⟨rfl, rfl⟩ | ⟨rfl, rfl⟩ <;> omega
    · rintro (⟨h, h2 | h3⟩ | ⟨h, h3⟩)
      · exact ⟨1, 2, by decide, by decide, by decide, h, h2⟩
      · exact ⟨1, 3, by decide, by decide, by decide, h, h3⟩
      · exact ⟨2, 3, by decide, by decide, by decide, h, h3⟩
  unfold Image.Misplaced
  rw [hn, hp]
  simp only [posSetFails, posSets, namedSets, List.map_cons, List.map_nil]
  generalize i.setAt 1 = a
  generalize i.setAt 2 = b
  generalize i.setAt 3 = c
  by_cases ha : a = 0 <;> by_cases hb : b = 0 <;> by_cases hc : c = 0 <;>
    simp [ha, hb, hc] <;> omega

end Sys2Proof.Machine
end

