-- ==== Sys2Proof/WellFormed.lean ====
section
/-! DEFINITION. The commands that the outside can send: each operand within the range the spec gives it. `exec` is total
and does not rest on this; a command outside it still has the meaning its rules give. -/

namespace Sys2Proof

/-- A station number (00_scope section 4.2). -/
def isStation (n : Nat) : Bool := decide (1 ≤ n ∧ n ≤ 30)

/-- A position of the changeover switch (00_scope section 4.2). -/
def isPosition (n : Nat) : Bool := decide (1 ≤ n ∧ n ≤ 3)

/-- A frame as a receiver can read it (R3, R9): a class of two bits, a sender 1..30, a destination of one byte, at most
16 body bytes. -/
def RxFrame.wellFormed (f : RxFrame) : Bool :=
  decide (f.cls < 4) && isStation f.sender && decide (f.dest < 256) && decide (f.body.length ≤ 16)

/-- A local second's measurements: ten loop samples (R116). -/
def SecondInputs.wellFormed (i : SecondInputs) : Bool := decide (i.loop.length = 10)

/-- Parameters as their length byte can count them (R186). -/
def paramsFit (l : List Byte) : Bool := decide (l.length ≤ 255)

/-- The argument of a REQUEST with the request code before it (section 11.7). -/
def argFits (l : List Byte) : Bool := decide (l.length ≤ 254)

/-- A frame with command code 0 that is not cut short (R187). -/
def isNopFrame (l : List Byte) : Bool :=
  l.head? == some 0#8 && decide (2 ≤ l.length) && decide ((l.getD 1 0#8).toNat + 2 ≤ l.length)

/-- A frame cut short (R187). -/
def isShortFrame (l : List Byte) : Bool := decide (l.length < 2) || decide (l.length < (l.getD 1 0#8).toNat + 2)

/-- A command with operands that the outside can give it. -/
def Instr.wellFormed : Instr → Bool
  | .powerUp _ => true
  | .resetPin => true
  | .mainSupplyLoss => true
  | .backupBelowThreshold => true
  | .localSecond inputs => inputs.wellFormed
  | .busFree => true
  | .arbitrationLoss => true
  | .bitError => true
  | .frameSent => true
  | .frameSpoilt bits => Machine.judge bits == .spoilt
  | .goodFrame _ f => f.wellFormed
  | .dry f => f.wellFormed
  | .take f => f.wellFormed
  | .takeReply f => f.wellFormed
  | .commit f => f.wellFormed
  | .left f => f.wellFormed
  | .release f => f.wellFormed
  | .close f => f.wellFormed
  | .claim f => f.wellFormed
  | .allot f => f.wellFormed
  | .deliverOpen f => f.wellFormed
  | .deliverAck f => f.wellFormed
  | .docket f => f.wellFormed
  | .deliverResult f => f.wellFormed
  | .status f => f.wellFormed
  | .peerStale station => isStation station
  | .peerLost station => isStation station
  | .statusIntervalExpiry => true
  | .meterReading chars => decide (0 < chars.length ∧ chars.length ≤ 8)
  | .meterReadingTimeout => true
  | .channelStalled channel => decide (channel ≤ 12)
  | .channelLost channel => decide (channel ≤ 12)
  | .engineReadyChange _ => true
  | .breakerFeedbackChange _ => true
  | .engineFaultInputChange _ => true
  | .relayPulseEnd _ => true
  | .startTimeoutExpiry => true
  | .warmupExpiry => true
  | .idleStopExpiry => true
  | .cooldownExpiry => true
  | .unloadLimitExpiry => true
  | .disagreementCountExpiry => true
  | .overloadCountExpiry => true
  | .burnSilenceExpiry => true
  | .resHoldExpiry board => isStation board
  | .closedFeedbackChange pos _ => isPosition pos
  | .liveStateChange pos _ => isPosition pos
  | .switchCommandTimeout => true
  | .takeResend => true
  | .waitingTimeout => true
  | .deadTimeExpiry => true
  | .retryTimerExpiry => true
  | .dwellTimerExpiry => true
  | .burnPulse => true
  | .inletPulse => true
  | .dispensePulse => true
  | .loopQualified => true
  | .matchingExpiry => true
  | .minuteEnd => true
  | .inletWatchExpiry => true
  | .quietCountExpiry => true
  | .settleTimerExpiry => true
  | .openingTimeout => true
  | .docketRepeat => true
  | .resultMissing => true
  | .unbookedRunEnd => true
  | .periodEnd => true
  | .claimWindowEnd => true
  | .claimWaitExpiry place => decide (place < 8)
  | .waitingCloseLapse place => decide (place < 8)
  | .nop bytes => isNopFrame bytes
  | .commandFrameDiscarded bytes => isShortFrame bytes
  | .unknownCommand code params => decide (11 < code.toNat) && paramsFit params
  | .replyReady => true
  | .writeConfig params => paramsFit params
  | .start params => paramsFit params
  | .readStatus params => paramsFit params
  | .readPeer params => paramsFit params
  | .readTotals params => paramsFit params
  | .readRecord params => paramsFit params
  | .removeRecord params => paramsFit params
  | .mode arg => argFits arg
  | .stopForce arg => argFits arg
  | .changeover arg => argFits arg
  | .abort arg => argFits arg
  | .deliveryBegin arg => argFits arg
  | .deliveryEnd arg => argFits arg
  | .load arg => argFits arg
  | .ackFault params => paramsFit params
  | .clearFault params => paramsFit params
  | .warmRestart params => paramsFit params
  | .resetHeldLow => true
  | .requestCodeOutOfRange params => paramsFit params &&
      match params with
      | code :: _ => decide (code.toNat = 0 ∨ 7 < code.toNat)
      | [] => false

end Sys2Proof
end

