-- ==== Sys2Proof/Tests/Slice0.lean ====
section
/-! SUPPORT. Tests: terms that `wellFormed` refuses, states that meet the hypotheses of each statement, and single steps
whose results are worked out by hand from the rules named. -/

open Sys2Proof Sys2Proof.Machine

set_option maxRecDepth 20000

namespace Sys2Proof.Tests

/-! ## Small stations -/

/-- A frame of class 2. -/
def frame (sender dest : Nat) (body : List Byte) : RxFrame := { cls := 2, sender := sender, dest := dest, body := body }

/-- A channel that has read 10.0 kW for ten seconds, its last stamp 9. -/
def readingChannel : Channel :=
  { blankChannel with
      state := .active, stamp := some 9, power := some 10000, window := List.replicate 10 10000 }

/-- The image of SET 5: rated 100.0 kW, a straight tank of 1,000 litres over 1 m. -/
def setImage : Image :=
  { blankImage with
      station := some 5, role := some .set, rated := some 1000
      strap := some { level := 0, volume := 0 } :: some { level := 1000, volume := 100000 } :: List.replicate 14 none }

/-- The open period 3. -/
def period3 : OpenPeriod :=
  { period := 3, elapsed := 0, burn := 0, output := 0, run := 0, idle := 0, interrupted := false }

/-- A board of the feed list. -/
def fed (board load : Nat) : FeedEntry := { board := board, load := load, confirmed := true, joined := 0 }

/-- SET 5 in RUN, READY, nothing fed. -/
def setRun : State :=
  { State.reset with
      station := .run
      image := setImage
      inputs := [true, true, false, false, false, false]
      line := { blankLine with phase := .free, statusTimer := some 0 }
      meter := { blankMeter with channels := blankMeter.channels.set 0 readingChannel }
      duty := { blankDuty with state := .ready, runOn := true, brkClosed := true }
      setBill := { blankSetBill with opened := some period3 } }

/-- SET 5 in a duty state, with its commands as the state has them. -/
def setIn (d : DutyState) : State :=
  { setRun with
      inputs := [false, false, false, false, false, false]
      duty := { setRun.duty with state := d, runOn := false, brkClosed := false } }

/-- An entry of the settlement table with 40 Wh. -/
def entry (set pos period : Nat) (st : EntryState) : Entry :=
  { set := set, pos := pos, period := period, state := st, incomer := 40, wh := zeroAccounts, peaks := zeroAccounts,
    incomerLost := false, unmetered := 0, openedAt := 0, age := 0, claim := none, attempt := none, wait := 0,
    waitLength := 0 }

/-- The image of BOARD 20, its positions on sets 5, 6 and 7. -/
def boardImage : Image :=
  { blankImage with station := some 20, role := some .board, posSet := [some 5, some 6, some 7] }

/-- BOARD 20 in RUN, IDLE, position 1 closed and live, set 5 feeding it in period 3. -/
def boardRun : State :=
  { State.reset with
      station := .run
      image := boardImage
      inputs := [true, false, false, true, true, false]
      line := { blankLine with phase := .free, statusTimer := some 0 }
      meter := { blankMeter with channels := blankMeter.channels.set 0 readingChannel }
      chg := { blankChangeover with live := [.live, .live, .notLive] }
      boardBill := { blankBoardBill with table := [entry 5 1 3 .current] } }

/-- An attempt that tries position 2. -/
def attempt : Attempt :=
  { reason := .dry, fromPos := 1, oldPos := 0, estimate := 100, candidates := [2, 3], cursor := 0, ticket := 7,
    sends := 1, timer := 0, unfed := 0, owed := false, asked := 2, returning := false }

/-- BOARD 20 with an attempt in a changeover state. -/
def boardIn (c : ChgState) : State :=
  { boardRun with chg := { boardRun.chg with state := c, attempt := some attempt } }

/-- Set 7 READY in period 4 with 50.0 kW of headroom. -/
def status7 : SetStatus :=
  { duty := dutyCode .ready, mode := 0, rated := 1000, output := 0, headroom := 500, period := 4, content := 0,
    tte := 65535, flags := 0 }

/-- A FRESH peer. -/
def peer (n : Nat) (b : StatusBody) : Peer :=
  { station := n, role := some b.role, fresh := .fresh, since := 0, body := some b }

/-- TANKER 30 in RUN. -/
def tankerRun : State :=
  { State.reset with
      station := .run
      image := { blankImage with station := some 30, role := some .tanker }
      line := { blankLine with phase := .free, statusTimer := some 0 } }

/-- A delivery to set 5 under docket 9. -/
def delivery : OpenDelivery :=
  { target := 5, docket := 9, begin := 0, attempts := 1, timer := 0, again := false, dispensed := none }

/-- TANKER 30 with its delivery in a state. -/
def tankerIn (c : TankerState) : State :=
  { tankerRun with tanker := { blankTanker with state := c, delivery := some delivery } }

/-- A session of tanker 30 under docket 9. -/
def session (p : Phase) : Session :=
  { tanker := some 30, docket := some 9, dispensed := none
    anchor := { time := 0, inlet := 0, burn := 0, content := 0, mode := .live }, phase := p, quiet := 0, settle := 0 }

/-- SET 5 with a session. -/
def setWith (x : Session) : State := { setRun with delivery := { blankDelivery with session := some x } }

/-- A frame that a station takes, by its five tests. -/
def takes (s : State) (f : RxFrame) : Bool :=
  s.awake && s.follows && s.station == .run && frameSound f && s.image.station != some f.sender && s.addressed f.dest

theorem takes_of {s : State} {f : RxFrame} (h : takes s f = true) : s.Takes f := by
  simp only [takes, Bool.and_eq_true, beq_iff_eq, bne_iff_ne] at h
  exact ⟨h.1.1.1.1.1, h.1.1.1.1.2, h.1.1.1.2, h.1.1.2, h.1.2, h.2⟩

/-- Conditions that have not gone. -/
def settled (s : State) : Bool :=
  (!s.present .engineFault || s.input 3 || s.duty.runOn) && (!s.present .breaker || s.input 2 != s.duty.brkClosed) &&
    (!s.present .burnSilent || s.duty.state == .ready)

theorem settled_of {s : State} (h : settled s = true) : s.Settled := by
  simp only [settled, Bool.and_eq_true, Bool.or_eq_true, Bool.not_eq_true', bne_iff_ne, beq_iff_eq] at h
  obtain ⟨⟨h1, h2⟩, h3⟩ := h
  refine ⟨fun h => ?_, fun h => ?_, fun h => ?_⟩
  · rw [h] at h1; simpa using h1
  · rw [h] at h2; simpa using h2
  · rw [h] at h3; simpa using h3

/-- What a step leaves, where it answers next. -/
def after (o : Host.Outcome State Fault Refusal) : Option State :=
  match o with
  | .next t => some t
  | .fault _ => none
  | .refused _ => none

/-- The station after the commands, one after another. -/
def run (s : State) (l : List Instr) : Option State := l.foldl (fun t i => t.bind (fun u => after (exec i u))) (some s)

/-! ## Terms that `wellFormed` refuses -/

/-- A frame that passes. -/
def good : RxFrame := frame 7 5 [1#8]

theorem test_accepts_every_kind_of_operand :
    (Instr.take good).wellFormed = true ∧ (Instr.localSecond ⟨List.replicate 10 12000, true, false, false, true⟩).wellFormed = true ∧
    (Instr.peerLost 30).wellFormed = true ∧ (Instr.meterReading (List.replicate 8 0#8)).wellFormed = true ∧
    (Instr.channelLost 12).wellFormed = true ∧ (Instr.closedFeedbackChange 3 true).wellFormed = true ∧
    (Instr.claimWaitExpiry 7).wellFormed = true ∧ (Instr.nop [0#8, 1#8, 9#8]).wellFormed = true ∧
    (Instr.commandFrameDiscarded [3#8, 1#8]).wellFormed = true ∧ (Instr.unknownCommand 12#8 []).wellFormed = true ∧
    (Instr.requestCodeOutOfRange [8#8]).wellFormed = true ∧ (Instr.frameSpoilt [true, false]).wellFormed = true := by decide

theorem test_refuses_frames :
    [Instr.take { good with cls := 4 }, .take { good with sender := 0 }, .take { good with sender := 31 },
      .take { good with dest := 256 }, .take { good with body := List.replicate 17 0#8 },
      .goodFrame 15#8 { good with cls := 4 }, .dry { good with cls := 4 }, .takeReply { good with sender := 31 },
      .commit { good with sender := 31 }, .left { good with dest := 256 }, .release { good with dest := 256 },
      .close { good with sender := 0 }, .claim { good with sender := 0 }, .allot { good with cls := 4 },
      .deliverOpen { good with cls := 4 }, .deliverAck { good with sender := 31 }, .docket { good with sender := 31 },
      .deliverResult { good with sender := 31 }, .status { good with sender := 31 }].all (fun i => !i.wellFormed) = true := by
  decide

/-- The bits of a good frame are no spoilt frame. -/
theorem test_refuses_good_bits_as_spoilt :
    (Instr.frameSpoilt ((newFrame 5 (.left 1)).bits 7)).wellFormed = false := by decide

theorem test_refuses_operands :
    [Instr.localSecond ⟨[12000], true, false, false, true⟩, .peerStale 0, .peerLost 31, .meterReading [],
      .meterReading (List.replicate 9 0#8), .channelStalled 13, .channelLost 13, .resHoldExpiry 0,
      .closedFeedbackChange 0 true, .closedFeedbackChange 4 true, .liveStateChange 4 true, .claimWaitExpiry 8,
      .waitingCloseLapse 8].all (fun i => !i.wellFormed) = true := by decide

/-- 256 parameter bytes. -/
def tooLong : List Byte := List.replicate 256 0#8

theorem test_refuses_command_frames :
    [Instr.nop [1#8, 0#8], .nop [0#8], .nop [0#8, 2#8, 9#8], .commandFrameDiscarded [3#8, 0#8],
      .unknownCommand 11#8 [], .unknownCommand 12#8 tooLong, .requestCodeOutOfRange [], .requestCodeOutOfRange [7#8],
      .requestCodeOutOfRange tooLong].all (fun i => !i.wellFormed) = true := by decide

theorem test_refuses_long_parameters :
    [Instr.writeConfig tooLong, .start tooLong, .readStatus tooLong, .readPeer tooLong, .readTotals tooLong,
      .readRecord tooLong, .removeRecord tooLong, .mode tooLong, .stopForce tooLong, .changeover tooLong, .abort tooLong,
      .deliveryBegin tooLong, .deliveryEnd tooLong, .load tooLong, .ackFault tooLong, .clearFault tooLong,
      .warmRestart tooLong].all (fun i => !i.wellFormed) = true := by decide

/-! ## States that meet the hypotheses of the statements -/

/-- Eight frames, the STATUS among them on the line, and 160 records. -/
def fullLine : State :=
  { setRun with
      line := { setRun.line with
        phase := .sending
        queue := List.replicate 7 (newFrame 20 (.release 1)) ++
          [{ newFrame 0 (.status (.set setRun.setBody)) with onLine := true }] }
      records := { setRun.records with
        queue := List.replicate 160
          { seq := 0, stamp := 0, powerUps := 0, lost := 0, carry := none, body := .event .startFail } } }

theorem test_meets_StepTakesTheFrontCommand : setRun.pending = [] := by decide

theorem test_meets_QueuesStayWithinCapacity :
    { fullLine with pending := [.frameSent] }.QueuesFit ∧ ∃ t, step { fullLine with pending := [.frameSent] } = .next t :=
  ⟨by constructor <;> decide, _, rfl⟩

/-- BOARD 20 closing position 2. -/
def boardMaking : State :=
  { boardIn .making with
      inputs := [false, false, false, true, true, false]
      boardBill := { blankBoardBill with table := [entry 5 1 3 .waitingClose] }
      chg := { (boardIn .making).chg with cmd := some (.closeTo 2) } }

theorem test_meets_SwitchInterlockIsKept :
    { boardMaking with pending := [.closedFeedbackChange 2 true] }.Interlocked ∧
    ∃ t, step { boardMaking with pending := [.closedFeedbackChange 2 true] } = .next t := by
  refine ⟨⟨by decide, by decide, by decide, by decide, ?_⟩, _, rfl⟩
  intro pos h
  exact ⟨by decide, by decide⟩

/-- SET 5 with the whole usable capacity promised to boards 1 to 4, and boards 11 to 18 fed. -/
def setPromised : State :=
  { setRun with
      reservations := [1, 2, 3, 4].map (fun n => { board := n, ticket := n, load := 225, hold := some 0 })
      duty := { setRun.duty with feed := [11, 12, 13, 14, 15, 16, 17, 18].map (fun n => fed n 10) }
      setBill := { setRun.setBill with claims := (List.range 16).map (fun n => { board := n + 1, energy := 10 }) } }

theorem test_meets_PromisesStayWithinCapacity :
    { setPromised with pending := [.resHoldExpiry 4] }.PromisesKept ∧
    ∃ t, step { setPromised with pending := [.resHoldExpiry 4] } = .next t :=
  ⟨by constructor <;> decide, _, rfl⟩

/-- BOARD 20 with a full table. -/
def boardFull : State :=
  { boardRun with
      boardBill := { blankBoardBill with
        table := [4, 5, 6, 7, 8, 9, 10].map (fun n => entry 6 2 n .waitingClose) ++ [entry 5 1 3 .current] } }

theorem test_meets_SettlementTableFollowsTheSwitch :
    { boardFull with pending := [.closedFeedbackChange 1 false] }.TableFollows ∧
    ∃ t, step { boardFull with pending := [.closedFeedbackChange 1 false] } = .next t :=
  ⟨by constructor <;> decide, _, rfl⟩

/-- SET 5 with ENGINE_FAULT and BREAKER present. -/
def setFaulty : State :=
  { setRun with
      inputs := [false, true, true, false, false, false]
      duty := { setRun.duty with
        state := .fault, runOn := false, brkClosed := false, conditions := [.engineFault, .breaker] } }

theorem test_meets_ConditionsStaySettled :
    { setFaulty with pending := [.engineFaultInputChange false] }.KeptInOrder ∧
    ∃ t, step { setFaulty with pending := [.engineFaultInputChange false] } = .next t :=
  ⟨⟨by decide, by decide, by decide, fun _ => settled_of (by decide), by decide⟩, _, rfl⟩

theorem test_meets_ColdStartsJudgeRetention :
    { setRun with mainOn := false }.mainOn = false ∧ { setRun with mainOn := false }.doubt = false ∧
    { setRun with mainOn := false }.checkAgrees = true ∧ { setRun with mainOn := false, doubt := true }.doubt = true ∧
    { setRun with mainOn := false, checkAgrees := false }.checkAgrees = false ∧ setRun.mainOn = true := by decide

theorem test_meets_SupplyLossAndResetReleaseTheOutputs :
    boardMaking.mainOn = true ∧ boardMaking.chg.cmd ≠ none ∧ { setRun with mainOn := false }.mainOn = false ∧
    (setLink boardMaking [165#8, 0#8] true).mainOn = true ∧ (setLink boardMaking [165#8, 0#8] true).meter.link ≠ [] := by
  decide

/-- SET 5 in the second after one whose inlet figure was `inlet`, with a session or a watch. -/
def setSecondOf (inlet : Nat) (x : Option Session) (w : Option Watch) : State :=
  { setRun with
      delivery := { blankDelivery with
        session := x, watch := w
        now := some { time := 0, inlet := inlet, burn := 0, content := 0, mode := .live } } }

/-- A second with the backup good. -/
def aSecond : SecondInputs := ⟨List.replicate 10 12000, true, false, false, true⟩

/-- A watch of 59 s on an inlet figure. -/
def watchOn (inlet : Nat) : Watch :=
  { anchor := { time := 0, inlet := inlet, burn := 0, content := 0, mode := .live }, age := 59 }

theorem test_meets_LocalSecondAdvancesTheCounts :
    setRun.awake = true ∧ takeDue setRun = setRun ∧ setRun.inUse 0 = true ∧ 0 < setRun.meter.channels.length ∧
    boardRun.awake = true ∧ takeDue boardRun = boardRun ∧ boardRun.inUse 12 = true ∧
    12 < boardRun.meter.channels.length ∧ boardRun.runs .board = true ∧ boardRun.inputs.length = 6 ∧
    tankerRun.awake = true ∧ takeDue tankerRun = tankerRun ∧ tankerRun.runs .tanker = true ∧
    setRun.runs .set = true ∧ setRun.inputs.length = 6 ∧ setRun.duty.conditions = [] ∧
    { setRun with tank := { setRun.tank with good := false } }.duty.runSeconds + 1 < two32 ∧
    takeDue { setRun with tank := { setRun.tank with good := false } } =
      { setRun with tank := { setRun.tank with good := false } } ∧
    (localSecond aSecond { setRun with tank := { setRun.tank with good := false } }).duty.conditions = [] ∧
    setRun.inletCl = 0 ∧ takeDue (setSecondOf 5 (some (session .opened)) none) = setSecondOf 5 (some (session .opened)) none ∧
    takeDue (setSecondOf 0 (some (session .settling)) none) = setSecondOf 0 (some (session .settling)) none ∧
    takeDue (setSecondOf 0 none (some (watchOn 0))) = setSecondOf 0 none (some (watchOn 0)) ∧
    takeDue (setSecondOf 0 none (some (watchOn 4294967196))) = setSecondOf 0 none (some (watchOn 4294967196)) ∧
    diff32 0 4294967196 = 100 ∧ takeDue (setSecondOf 5 none none) = setSecondOf 5 none none ∧
    (setRun.channel 0).unmetered + 1 < two32 ∧ hasCurrent boardRun.boardBill.table = true ∧
    (∀ e ∈ boardRun.boardBill.table, e.state = .current → e.unmetered + 13 < two32) := by decide

/-- R42, R157: two channels of BOARD 20 are LOST; each gains a second, and the CURRENT entry two. -/
theorem test_lost_channels_count_unmetered :
    let lost := { readingChannel with state := .lost, unmetered := 7 }
    let s := { boardRun with
      meter := { boardRun.meter with channels := (boardRun.meter.channels.set 0 lost).set 4 lost } }
    let t := localSecond aSecond s
    (t.channel 0).unmetered = 8 ∧ (t.channel 4).unmetered = 8 ∧ (t.channel 1).unmetered = 0 ∧
      t.boardBill.table.map Entry.unmetered = [2] := by decide

/-- SET 5 with two frames waiting. -/
def setWaiting : State :=
  { setRun with line := { setRun.line with queue := [newFrame 20 (.release 1), newFrame 0 (.status (.set setRun.setBody))] } }

theorem test_meets_BusFreeBeginsTheHeadFrame :
    setWaiting.awake = true ∧ setWaiting.line.phase ≠ .sending ∧ setWaiting.posts = true ∧
    setWaiting.line.queue = newFrame 20 (.release 1) :: [newFrame 0 (.status (.set setRun.setBody))] ∧
    setRun.line.queue = [] ∧
    { setWaiting with line := { setWaiting.line with listenOnly := true } }.posts = false := by decide

/-- SET 5 sending a RELEASE with a number of failed attempts. -/
def setSending (attempts : Nat) : State :=
  { setRun with
      line := { setRun.line with
        phase := .sending
        queue := [{ newFrame 20 (.release 1) with attempts := attempts, onLine := true }, newFrame 21 (.release 2)] } }

theorem test_meets_OwnFrameIsLostSentOrCounted :
    (setSending 1).awake = true ∧ (setSending 1).line.phase = .sending ∧ (setSending 1).line.older = none ∧
    (setSending 1).line.queue =
      [] ++ { newFrame 20 (.release 1) with attempts := 1, onLine := true } :: [newFrame 21 (.release 2)] ∧
    (∀ g ∈ [] ++ [newFrame 21 (.release 2)], g.onLine = false) ∧
    (setSending 2).awake = true ∧ (setSending 2).line.phase = .sending ∧
    { fullLine with line := { fullLine.line with older := some (newFrame 0 (.status (.set setRun.setBody))) } }.line.older ≠
      none := by decide

/-- SET 5 with eight frames of one kind. -/
def setEight (b : Body) : State :=
  { setRun with line := { setRun.line with queue := List.replicate 8 (newFrame 20 b) } }

/-- SET 5 with seven frames and a STATUS that waits. -/
def setEvictable : State :=
  { setRun with
      line := { setRun.line with
        queue := List.replicate 7 (newFrame 20 (.release 1)) ++ [newFrame 0 (.status (.set setRun.setBody))] } }

/-- 160 records of one body. -/
def fullStore (b : RecordBody) : RecordStore :=
  { lostRecords .check with
      queue := List.replicate 160 { seq := 0, stamp := 0, powerUps := 0, lost := 3, carry := none, body := b } }

/-- A CHANGEOVER record is an event; a DOCKET record is none. -/
def aDocket : RecordBody := .docket (undone delivery 0 .noAnswer)

theorem test_meets_FullQueueReplacesEvictsOrRefuses :
    setEvictable.QueuesFit ∧ setEvictable.posts = true ∧ setEvictable.line.queue.length = txCap ∧
    (∃ g ∈ setEvictable.line.queue, g.isStatus = true ∧ g.onLine = false) ∧
    (setEight (.release 1)).QueuesFit ∧ (setEight (.release 1)).posts = true ∧
    (setEight (.release 1)).line.queue.length = txCap ∧
    (∀ g ∈ (setEight (.release 1)).line.queue, g.isStatus = false) ∧
    fullLine.QueuesFit ∧ (∀ g ∈ fullLine.line.queue, g.isStatus = true → g.onLine = true) ∧
    (Body.status (.set setRun.setBody)).kind = .status ∧ (Body.left 1).kind ≠ .status ∧
    setRun.records.queue.length < 160 ∧ 160 ≤ (fullStore aDocket).queue.length ∧
    (∀ x ∈ (fullStore aDocket).queue, x.body = aDocket) ∧
    (fullStore (.event .startFail)).queue = [] ++
      { seq := 0, stamp := 0, powerUps := 0, lost := 3, carry := none, body := .event .startFail } ::
        List.replicate 159 { seq := 0, stamp := 0, powerUps := 0, lost := 3, carry := none, body := .event .startFail } ∧
    [({ account := 12, wh := 1, fuel := 0, peak := 0 } : CarryLine), { account := 0, wh := 1, fuel := 0, peak := 0 }].Pairwise
      (fun x y => linePlace x.account < linePlace y.account) :=
  ⟨by constructor <;> decide, by decide, by decide, by decide, by constructor <;> decide, by decide, by decide, by decide,
    by constructor <;> decide, by decide⟩

/-- A RELEASE of station 7 to station 6. -/
def foreign : RxFrame := frame 7 6 [1#8]

theorem test_meets_FrameNotTakenReachesThePeerTableAlone :
    setRun.awake = true ∧ setRun.line.phase = .free ∧ blankLine.phase ≠ .free ∧ blankLine.phase ≠ .receiving ∧
    judge [true, false] = .spoilt ∧ frameSound foreign = true ∧
    setRun.image.station = some 5 ∧ 5 ≠ foreign.sender ∧ statusIn 6#8 foreign.body = none ∧
    setRun.addressed foreign.dest = false ∧ State.reset.station = .unconfigured ∧
    takenBody 255#8 foreign.body = none ∧ setRun.peer 7 = none := by decide

/-- A STATUS body of SET 5. -/
def statusBytes5 : List Byte := (Body.status (.set setRun.setBody)).bytes

theorem test_meets_DuplicateStationFallsSilent :
    setRun.awake = true ∧ setRun.station = .run ∧ setRun.follows = true ∧ setRun.line.listenOnly = false ∧
    frameSound (frame 5 6 [1#8]) = true ∧ setRun.image.station = some (frame 5 6 [1#8]).sender ∧
    setRun.addressed (frame 5 6 [1#8]).dest = false ∧ frameSound (frame 5 0 statusBytes5) = true ∧
    setRun.image.station = some (frame 5 0 statusBytes5).sender ∧
    setRun.addressed (frame 5 0 statusBytes5).dest = true := by decide

theorem test_meets_LineCodeIsReadBack :
    1 ≤ 30 ∧ 30 ≤ 30 ∧ (newFrame 255 (.left 255)).dest < 256 := by decide

theorem test_meets_FrameBodiesAreReadBack :
    (Body.deliverResult 65535 255 255 4294967295 (-2147483648)).inRange ∧ (Body.left 255).inRange ∧
    0 < (Body.left 255).bytes.length := by
  refine ⟨?_, ?_, by decide⟩ <;> simp only [Body.inRange] <;> decide

/-! ### The arbiter and the feed list -/

/-- A TAKE of board 20 for a load. -/
def takeOf (ticket load : Nat) : RxFrame := frame 20 5 (be1 ticket ++ be2 load ++ be1 1)

/-- SET 5 with a promise to board 20. -/
def setReserved (d : DutyState) (hold : Option Nat) : State :=
  { setIn d with reservations := [{ board := 20, ticket := 7, load := 100, hold := hold }] }

/-- SET 5 cooling down from idleness. -/
def setIdling : State := { setRun with duty := { setRun.duty with state := .cooling, origin := some .idle, brkClosed := false } }

theorem test_meets_TakeIsAnsweredByItsTests :
    setRun.Takes (takeOf 7 800) ∧ setRun.image.role = some .set ∧ setRun.Settled ∧
    (takeOf 7 800).body = 7#8 :: 3#8 :: 32#8 :: 1#8 :: [] ∧ (0#8).toNat = 0 ∧ (7#8).toNat ≠ 0 ∧
    setRun.feeds 20 = false ∧ setRun.entryOf 20 = none ∧ { setRun with tank := { setRun.tank with dry := true } }.tank.dry = true ∧
    { setRun with duty := { setRun.duty with mode := .stop } }.duty.mode = .stop ∧ (setIn .fault).duty.state = .fault ∧
    (setIn .unloading).duty.state = .unloading ∧ setRun.duty.mode ≠ .stop ∧ setRun.duty.state = .ready ∧
    (setRun.channel 0).state ≠ .noData ∧ { setRun with meter := blankMeter }.channel 0 = blankChannel ∧
    reservationCap ≤ setPromised.reservations.length ∧ setRun.reservations.length < reservationCap ∧
    setRun.duty.feed.length + setRun.reservations.length < feedCap ∧ setRun.headroom = 800 ∧
    setRun.headroom < (rd2 3#8 33#8 : Int) ∧ (rd2 3#8 32#8 : Int) ≤ setRun.headroom ∧
    (setReserved .ready (some 1)).entryOf 20 = some { board := 20, ticket := 7, load := 100, hold := some 1 } ∧
    (setReserved .warming none).entryOf 20 = some { board := 20, ticket := 7, load := 100, hold := none } ∧
    setIdling.Takes (takeOf 9 800) ∧ setIdling.Settled ∧ setIdling.duty.state = .cooling ∧
    setIdling.duty.origin = some .idle ∧ { setIdling with reservations := setPromised.reservations }.reservations.length = 4 ∧
    (takeOf 9 800).body.head? = some 9#8 ∧ (setReserved .ready (some 1)).Takes (takeOf 9 800) ∧
    (setReserved .fault none).duty.state = .fault ∧ (setReserved .fault none).entryOf 20 ≠ none ∧
    (∀ d ∈ [DutyState.off, .starting, .warming], (setReserved d none).inhibit = false ∧
      (setReserved d none).tank.dry = false ∧ (setReserved d none).duty.mode ≠ .stop) := by
  and_intros <;> first | decide | exact takes_of (by decide) | exact settled_of (by decide)

/-- 05, R79: a TAKE of another ticket replaces the board's entry, at the end of the list. -/
theorem test_another_ticket_replaces_the_entry :
    (run (setReserved .ready (some 1)) [.take (takeOf 9 800)]).map
      (fun t => t.reservations.map (fun r => (r.board, r.ticket, r.load, r.hold))) = some [(20, 9, 800, some 20)] := by decide

theorem test_meets_TakeStartsOrReturnsTheSet :
    (setIn .off).Takes (takeOf 7 900) ∧ (setIn .off).Settled ∧ (takeOf 7 900).body = 7#8 :: 3#8 :: 132#8 :: 1#8 :: [] ∧
    (setIn .off).tank.dry = false ∧ (setIn .off).duty.mode ≠ .stop ∧ (setIn .off).feeds 20 = false ∧
    (setIn .off).entryOf 20 = none ∧ (setIn .off).reservations.length < reservationCap ∧
    (setIn .off).duty.feed.length + (setIn .off).reservations.length < feedCap ∧ (setIn .off).inhibit = false ∧
    (setIn .off).input 1 = false ∧ (setIn .off).duty.starts + 1 < two32 ∧
    rd2 3#8 132#8 + (setIn .off).reservedSum ≤ (setIn .off).image.usable ∧
    (setIn .off).image.usable < rd2 3#8 133#8 + (setIn .off).reservedSum ∧ (setIn .starting).duty.state = .starting ∧
    { setIn .cooling with duty := { (setIn .cooling).duty with origin := some .idle } }.Takes (takeOf 7 800) ∧
    ({ setIn .cooling with duty := { (setIn .cooling).duty with origin := some .idle } }.channel 0).state ≠ .noData ∧
    (rd2 3#8 32#8 : Int) ≤ { setIn .cooling with duty := { (setIn .cooling).duty with origin := some .idle } }.headroom ∧
    { setIn .cooling with duty := { (setIn .cooling).duty with origin := some .idle } }.duty.brkClosed = false ∧
    { setIn .cooling with duty := { (setIn .cooling).duty with origin := some .idle } }.present .breaker = false := by
  and_intros <;> first | decide | exact takes_of (by decide) | exact settled_of (by decide)

/-- A COMMIT of board 20. -/
def commitOf (ticket : Byte) : RxFrame := frame 20 5 [ticket, 0#8, 100#8]

/-- SET 5 feeding boards 11 to 18. -/
def setFeeding : State :=
  { setRun with duty := { setRun.duty with feed := [11, 12, 13, 14, 15, 16, 17, 18].map (fun n => fed n 10) } }

theorem test_meets_CommitFeedsTheBoard :
    (setReserved .ready (some 1)).Takes (commitOf 7#8) ∧ (setReserved .ready (some 1)).Settled ∧
    (commitOf 7#8).body = 7#8 :: 0#8 :: 100#8 :: [] ∧ (setReserved .ready (some 1)).feeds 20 = false ∧
    (setReserved .ready (some 1)).duty.feed.length < feedCap ∧
    (∃ e ∈ (setReserved .ready (some 1)).reservations, e.board = 20 ∧ e.ticket = (7#8).toNat ∧ e.hold ≠ none) ∧
    (∀ e ∈ setRun.reservations, e.board ≠ 20) ∧
    { setRun with duty := { setRun.duty with feed := [fed 20 50] } }.feeds 20 = true ∧
    setFeeding.feeds 20 = false ∧ feedCap ≤ setFeeding.duty.feed.length :=
  ⟨takes_of (by decide), settled_of (by decide), by decide⟩

/-- SET 5 in UNLOADING with board 20 alone fed. -/
def setLast : State := { setIn .unloading with duty := { (setIn .unloading).duty with feed := [fed 20 50] } }

theorem test_meets_LeftAndReleaseFreeTheBoard :
    setLast.Takes (frame 20 5 [7#8]) ∧ setLast.image.role = some .set ∧ setLast.Settled ∧ setLast.present .breaker = false ∧
    setLast.image.cooldownTime ≠ 0 ∧ setLast.feeds 20 = true ∧
    setLast.duty.feed.filter (fun e => e.board != 20) = [] ∧ setLast.reservations = [] ∧ setRun.duty.state ≠ .unloading ∧
    (∃ e ∈ (setReserved .unloading none).reservations, e.board = 20 ∧ e.ticket = (7#8).toNat) ∧
    (setReserved .unloading none).duty.feed = [] ∧
    (setReserved .unloading none).reservations.filter (fun e => e.board != 20) = [] ∧
    (∀ e ∈ setRun.reservations, e.board ≠ 20) :=
  ⟨takes_of (by decide), by decide, settled_of (by decide), by decide⟩

/-! ### Peers -/

/-- The STATUS of board 20, in a state, fed by a set. -/
def boardStatus (c : ChgState) (feeding : Nat) : BoardStatus :=
  { state := chgCode c, closed := 1, feeding := feeding, load := 100, flags := 0 }

/-- The frame that carries it. -/
def boardFrame (c : ChgState) (feeding : Nat) : RxFrame := frame 20 0 (Body.status (.board (boardStatus c feeding))).bytes

theorem test_meets_StatusIsStoredInThePeerTable :
    setRun.awake = true ∧ setRun.follows = true ∧ frameSound (boardFrame .idle 5) = true ∧ setRun.image.station = some 5 ∧
    5 ≠ (boardFrame .idle 5).sender ∧ parseStatus (boardFrame .idle 5).body = some (.board (boardStatus .idle 5)) ∧
    { setRun with station := .unconfigured }.station = .unconfigured := by decide

/-- A duty controller in READY with eight boards listed. -/
def eight : Duty := { setRun.duty with feed := (List.range 8).map (fun n => fed (n + 1) 10) }

theorem test_meets_BoardStatusKeepsTheFeedList :
    setRun.awake = true ∧ setRun.follows = true ∧ frameSound (boardFrame .idle 5) = true ∧ setRun.station = .run ∧
    setRun.image.role = some .set ∧ setRun.image.station = some 5 ∧ 5 ≠ (boardFrame .idle 5).sender ∧ setRun.Settled ∧
    parseStatus (boardFrame .idle 5).body = some (.board (boardStatus .idle 5)) ∧
    parseStatus (boardFrame .locked 6).body = some (.board (boardStatus .locked 6)) ∧ setRun.feeds 20 = false ∧
    (∀ r ∈ setRun.reservations, r.board ≠ 20) ∧ setRun.duty.feed.length < feedCap ∧ setLast.feeds 20 = true ∧
    { setRun with duty := { setRun.duty with feed := [fed 20 50] } }.duty.state ≠ .unloading ∧
    { setRun with duty := eight }.feeds 20 = false ∧ feedCap ≤ eight.feed.length ∧ 20 ∉ eight.overflow ∧
    20 ∈ { eight with overflow := [20] }.overflow ∧ setLast.follows = true ∧ setLast.Settled ∧
    setLast.duty.state = .unloading ∧ setLast.duty.feed.filter (fun e => e.board != 20) = [] ∧
    setLast.reservations = [] ∧ setLast.present .breaker = false ∧ setLast.image.cooldownTime ≠ 0 := by
  and_intros <;> first | decide | exact settled_of (by decide)

/-- SET 5 with board 20 in its peer table at an age. -/
def setKnows (grade : Freshness) (age : Nat) : State :=
  { setRun with peers := [{ peer 20 (.board (boardStatus .idle 5)) with fresh := grade, since := age }] }

theorem test_meets_AgesAndIntervalsRunOut :
    (setKnows .fresh 6).awake = true ∧
    (setKnows .fresh 6).peer 20 = some { peer 20 (.board (boardStatus .idle 5)) with since := 6 } ∧
    (∀ q ∈ (setKnows .fresh 6).peers,
      q.station = 20 → q = { peer 20 (.board (boardStatus .idle 5)) with since := 6 }) ∧
    (setKnows .stale 15).peer 20 = some { peer 20 (.board (boardStatus .idle 5)) with fresh := .stale, since := 15 } ∧
    (setKnows .stale 15).Settled ∧ (setKnows .stale 15).runs .set = true ∧
    { setRun with line := { setRun.line with statusTimer := some 2 } }.line.statusTimer = some 2 ∧
    setRun.image.statusEvery = 2 ∧ setRun.ownStatus = some (.set setRun.setBody) ∧ setRun.station = .run ∧
    boardRun.image.role = some .board ∧ tankerRun.image.role = some .tanker :=
  ⟨by decide, by decide, by decide, by decide, settled_of (by decide), by decide⟩

/-! ### Settlement on the line -/

/-- A CLAIM of board 20 for period 3. -/
def claimFrame20 : RxFrame := frame 20 5 (Body.claim 3 40 1).bytes

/-- SET 5 with period 3 closed and its window open. -/
def setClosed : State :=
  { setRun with
      setBill := { setRun.setBill with
        closed := some { period := 3, fuel := 1000, energy := 90, run := 900, idle := 0, interrupted := false }
        window := some 20 } }

theorem test_meets_ClaimIsAnsweredByTheFirstRow :
    setClosed.Takes claimFrame20 ∧ setClosed.image.role = some .set ∧
    claimFrame20.body = 0#8 :: 3#8 :: 0#8 :: 0#8 :: 0#8 :: 40#8 :: 1#8 :: [] ∧ setClosed.setBill.window ≠ none ∧
    (∀ c ∈ setClosed.setBill.claims, c.board ≠ 20) ∧ setClosed.setBill.claims.length < 16 ∧
    16 ≤ setPromised.setBill.claims.length ∧ (∀ c ∈ setPromised.setBill.claims, c.board ≠ 20) ∧
    setClosed.setBill.late < 65535 ∧ setRun.setBill.window = none ∧
    [(20, 700)].find? (fun y => y.1 == claimFrame20.sender) = some (20, 700) :=
  ⟨takes_of (by decide), by decide⟩

/-- A CLOSE of set 5 for period 3, its window 20 s. -/
def closeOf (again : Byte) : RxFrame :=
  frame 5 33 [0#8, 3#8, 0#8, 0#8, 3#8, 232#8, 0#8, 0#8, 0#8, 90#8, 20#8, again]

/-- BOARD 20 with one entry for set 5 and period 3 in a state. -/
def boardWith (e : Entry) : State := { boardRun with boardBill := { blankBoardBill with table := [e] } }

/-- A SET STATUS of set 5 in a period. -/
def statusOf5 (period : Nat) : RxFrame := frame 5 0 (Body.status (.set { status7 with period := period })).bytes

/-- BOARD 20 with the CURRENT entry of set 5 and seven entries of set 6. -/
def boardCrowded (st : EntryState) : State :=
  { boardRun with
      boardBill := { blankBoardBill with table := entry 5 1 3 .current :: List.replicate 7 (entry 6 2 4 st) } }

/-- BOARD 20 with the CURRENT entry of set 5 and one of the period after. -/
def boardTurned (st : EntryState) : State :=
  { boardRun with boardBill := { blankBoardBill with table := [entry 5 1 3 .current, entry 5 2 4 st] } }

theorem test_meets_CloseMakesTheBoardClaim :
    boardRun.Takes (closeOf 1#8) ∧ boardRun.image.role = some .board ∧
    (closeOf 1#8).body =
      0#8 :: 3#8 :: 0#8 :: 0#8 :: 3#8 :: 232#8 :: 0#8 :: 0#8 :: 0#8 :: 90#8 :: 20#8 :: 1#8 :: [] ∧ rd2 0#8 3#8 ≠ 0 ∧
    placeOf boardRun.boardBill.table 5 3 = some 0 ∧ boardRun.boardBill.table[0]? = some (entry 5 1 3 .current) ∧
    hasEnergy boardRun.image (entry 5 1 3 .current) = true ∧ boardRun.boardBill.table.length < tableCap ∧
    placeOf (boardWith (entry 5 1 3 .waitingClose)).boardBill.table 5 3 = some 0 ∧
    placeOf (boardWith (entry 5 1 3 .claimed)).boardBill.table 5 3 = some 0 ∧
    hasEnergy boardRun.image { entry 5 1 3 .waitingClose with incomer := 0 } = false ∧
    (∀ e ∈ (boardWith (entry 6 2 4 .waitingClose)).boardBill.table, e.set = 5 → e.period ≠ 3 ∧ e.period ≠ 0) ∧
    tableCap ≤ (boardCrowded .waitingClose).boardBill.table.length ∧
    ((boardCrowded .waitingClose).boardBill.table.set 0 (entry 5 1 3 .claimed))[1]? = some (entry 6 2 4 .waitingClose) ∧
    (∀ y ∈ (boardCrowded .claimed).boardBill.table.set 0 (entry 5 1 3 .claimed), y.state ≠ .waitingClose) ∧
    (∀ e ∈ (boardWith (entry 5 1 0 .current)).boardBill.table, e.set = 5 → e.period ≠ 3) ∧
    (boardWith (entry 5 1 0 .current)).boardBill.table = [] ++ entry 5 1 0 .current :: [] ∧
    (entry 5 1 0 .waitingClose).unmetered + (entry 5 1 0 .current).unmetered < two32 ∧
    boardRun.awake = true ∧ boardRun.follows = true ∧ frameSound (statusOf5 5) = true ∧ boardRun.runs .board = true ∧
    boardRun.image.station = some 20 ∧ 20 ≠ (statusOf5 5).sender ∧
    parseStatus (statusOf5 5).body = some (.set { status7 with period := 5 }) ∧ boardRun.chg.state ≠ .waiting ∧
    status7.duty ≠ dutyCode .unloading ∧ boardRun.chg.dryNote = none ∧
    (∀ e ∈ boardRun.boardBill.table, e.set = 5 ∧ e.period ≠ 0 ∧ e.state ≠ .claimed ∧ 5 ≠ e.period ∧ 5 ≠ e.period - 1) ∧
    (∀ y ∈ boardRun.boardBill.table, y.set = 5 → y.period ≠ nextNumber 65535 3) ∧
    (∀ y ∈ (boardCrowded .claimed).boardBill.table, y.set = 5 → y.period ≠ nextNumber 65535 3) ∧
    (∀ st ∈ [EntryState.waitingClose, .claimed],
      (boardTurned st).boardBill.table.length < tableCap ∧
      placeOf (boardTurned st).boardBill.table 5 3 = some 0 ∧
      hasEnergy (boardTurned st).image (entry 5 1 3 .current) = true ∧
      ((boardTurned st).boardBill.table.set 0 (entry 5 1 3 .claimed))[1]? = some (entry 5 2 (nextNumber 65535 3) st) ∧
      (entry 5 1 3 .claimed).period ≠ nextNumber 65535 3) := by
  and_intros <;> first | decide | exact takes_of (by decide)

/-- BOARD 20 with a claim that has waited. -/
def boardClaimed (attempt wait : Nat) : State :=
  boardWith { entry 5 1 3 .claimed with claim := some 40, attempt := some attempt, wait := wait, waitLength := 35 }

/-- An ALLOT of set 5 for period 3. -/
def allotOf (outcome : Byte) : RxFrame := frame 5 20 [0#8, 3#8, 0#8, 0#8, 1#8, 188#8, outcome]

theorem test_meets_ClaimedEntriesEndInARecord :
    (boardClaimed 1 35).Takes (allotOf 0#8) ∧ (boardClaimed 1 35).image.role = some .board ∧
    (allotOf 0#8).body = 0#8 :: 3#8 :: 0#8 :: 0#8 :: 1#8 :: 188#8 :: 0#8 :: [] ∧
    claimedPlace (boardClaimed 1 35).boardBill.table 5 (rd2 0#8 3#8) = some 0 ∧
    (∀ x ∈ boardRun.boardBill.table, x.set = 5 → x.period = rd2 0#8 3#8 → x.state ≠ .claimed) ∧
    (boardClaimed 1 35).awake = true ∧ (boardClaimed 1 35).runs .board = true ∧
    (boardClaimed 2 35).boardBill.table[0]? = some
      { entry 5 1 3 .claimed with claim := some 40, attempt := some 2, wait := 35, waitLength := 35 } ∧
    (boardWith { entry 5 1 3 .waitingClose with age := 7200 }).boardBill.table[0]? =
      some { entry 5 1 3 .waitingClose with age := 7200 } :=
  ⟨takes_of (by decide), by decide⟩

theorem test_meets_AccountSharesSumToTheAllotment :
    0 < sumOf [40, 0, 60] ∧ sumOf (0 :: [0, 0]) = 0 := by decide

/-! ### The changeover -/

/-- A DRY of set 5. -/
def dryOf : RxFrame := frame 5 33 [0#8, 30#8, 0#8, 100#8]

/-- A DRY of set 6. -/
def dryOf6 : RxFrame := frame 6 33 [0#8, 30#8, 0#8, 100#8]

/-- BOARD 20 that knows set 6 READY. -/
def boardKnows : State := { boardRun with peers := [peer 6 (.set status7)] }

/-- BOARD 20 in SEEKING that knows set 7 READY, position 3 live. -/
def boardSeeks : State :=
  { boardIn .seeking with
      peers := [peer 7 (.set status7)]
      chg := { (boardIn .seeking).chg with live := [.live, .live, .live] } }

/-- Whether nothing begins an attempt once the retry and dwell timers stand as given. -/
def calm (s : State) (retry : Option (Nat × Reason)) (dwell : Option Nat) : Bool :=
  let held := fun (r : Reason) => retry.map Prod.snd == some r
  (!deadTest s || held .dead) && (!restoreTest s || held .restore) && (!unloadingTest s || held .unload) &&
    (s.chg.dryNote.all fun n =>
      dwell.isSome || (n == s.feedingSet && s.feedingStatus.any SetStatus.dryFlag && held .dry))

theorem calm_of {s : State} {retry : Option (Nat × Reason)} {dwell : Option Nat} (h : calm s retry dwell = true) :
    s.Calm retry dwell := by
  simp only [calm, deadTest, restoreTest, unloadingTest, State.feedingStatus, Bool.and_eq_true, Bool.or_eq_true,
    Bool.not_eq_true', beq_iff_eq] at h
  obtain ⟨⟨⟨hd, hr⟩, hu⟩, hn⟩ := h
  refine ⟨fun h1 h2 => ?_, fun h1 h2 => ?_, fun b h1 h2 h3 => ?_, fun n h1 => ?_⟩
  · simpa [h1, h2] using hd
  · simpa [h1, h2] using hr
  · simpa [h1, h2, h3] using hu
  · rw [h1] at hn
    simp only [Option.all_some, Bool.or_eq_true, Bool.and_eq_true, beq_iff_eq] at hn
    rcases hn with hn | ⟨⟨h2, h3⟩, h4⟩
    · exact .inl (by intro h; simp [h] at hn)
    · exact .inr ⟨h2, h3, h4⟩

/-- BOARD 20 in SEEKING whose switch has been moved onto the candidate's position, its dwell timer as given. -/
def boardMoved (dwell : Option Nat) : State :=
  { boardIn .seeking with
      inputs := [false, true, false, true, true, false], chg := { (boardIn .seeking).chg with dwell := dwell } }

theorem test_meets_DryFrameTriggersOrIsNoted :
    boardKnows.Takes dryOf ∧ boardKnows.image.role = some .board ∧ dryOf.body = 0#8 :: 30#8 :: 0#8 :: 100#8 :: [] ∧
    boardKnows.chg.state = .idle ∧ boardKnows.closedPos ≠ 0 ∧ boardKnows.image.setAt boardKnows.closedPos = dryOf.sender ∧
    boardKnows.image.followsDry = true ∧ boardKnows.chg.dwell = none ∧ boardKnows.chg.retry = none ∧
    candidateList (boardKnows.heard dryOf) 100 = [2] ∧ candidateList (boardRun.heard dryOf) 100 = [] ∧
    boardRun.chg.quiet ≠ some .dry ∧ { boardRun with chg := { boardRun.chg with dwell := some 59 } }.chg.dwell ≠ none ∧
    (boardIn .seeking).chg.attempt = some attempt ∧ (boardIn .dead).image.setAt attempt.target ≠ dryOf.sender ∧
    (boardIn .waiting).Takes dryOf6 ∧ dryOf6.body = 0#8 :: 30#8 :: 0#8 :: 100#8 :: [] ∧
    (boardIn .waiting).image.setAt (boardIn .waiting).closedPos ≠ dryOf6.sender ∧
    (boardIn .waiting).image.setAt attempt.target = dryOf6.sender ∧
    nextPlace ((boardIn .waiting).heard dryOf6) attempt = none ∧
    ((boardIn .waiting).heard dryOf6).Calm (some (0, .dry)) none ∧
    nextPlace (boardSeeks.heard dryOf6) attempt = some 1 ∧ (boardMoved none).closedPos ≠ 0 ∧
    (boardMoved none).image.setAt (boardMoved none).closedPos = dryOf6.sender ∧
    nextPlace ((boardMoved none).heard dryOf6) attempt = none ∧
    (noteDry ((boardMoved (some 9)).heard dryOf6) 6).Calm (some (0, .dry)) (some 9) := by
  and_intros <;> first | decide | exact takes_of (by decide) | exact calm_of (by decide)

/-- Tests that stand for the positions kept and for those whose set shows READY; places kept and passed over. -/
theorem test_meets_DryFrameTriggersOrIsNoted_candidates :
    (∀ pos, candidateOk boardKnows 100 pos = true ↔ boardKnows.Candidate 100 pos) ∧
    (∀ pos, showsReady boardKnows pos = true ↔ ∃ b, boardKnows.Hears pos b ∧ b.duty = dutyCode .ready) ∧
    nextPlace boardSeeks attempt = some 1 ∧ nextPlace (boardIn .seeking) attempt = none :=
  ⟨fun _ => candidateOk_iff, fun _ => showsReady_iff, by decide⟩

/-- R101: with PREFERENCE 3, 2, 1 the position whose set is READY comes before the one OFF in AUTO, the closed one is left
out, and so is one whose headroom is below the estimate. -/
theorem test_candidates_ready_first :
    let s := { boardRun with
      image := { boardImage with preference := some [3, 2, 1] }
      peers := [peer 5 (.set status7), peer 6 (.set status7), peer 7 (.set { status7 with duty := dutyCode .off })]
      chg := { boardRun.chg with live := [.live, .live, .notLive] } }
    candidateList s 500 = [2, 3] ∧ candidateList s 501 = [] := by decide

/-- The triggers of R98. -/
def calls : List Reason := [.dead, .restore, .unload]

/-- BOARD 20 in SEEKING by a trigger of R98 whose condition still stands. -/
def boardCalledBy (r : Reason) : State :=
  { boardIn .seeking with
      image := { boardImage with autoRestore := some 1 }
      inputs := if r = .restore then [false, false, false, true, true, false] else boardRun.inputs
      peers := if r = .unload then [peer 5 (.set { status7 with duty := dutyCode .unloading })] else []
      chg := { (boardIn .seeking).chg with
        live := if r = .dead then [.notLive, .live, .notLive] else boardRun.chg.live
        attempt := some { attempt with reason := r } } }

/-- A TAKE_REPLY of set 6. -/
def replyOf (verdict : Byte) : RxFrame := frame 6 20 [7#8, verdict, 0#8, 1#8, 0#8, 20#8]

theorem test_meets_TakeReplyMovesTheAttempt :
    boardSeeks.Takes (replyOf 0#8) ∧ boardSeeks.image.role = some .board ∧
    (replyOf 0#8).body = 7#8 :: 0#8 :: 0#8 :: 1#8 :: 0#8 :: 20#8 :: [] ∧ boardRun.chg.attempt = none ∧
    boardSeeks.chg.attempt = some attempt ∧ (replyOf 0#8).sender = boardSeeks.image.setAt attempt.target ∧
    (7#8).toNat = attempt.ticket ∧ boardSeeks.chg.state = .seeking ∧ boardSeeks.closedPos ≠ 0 ∧
    boardSeeks.closedPos ≠ attempt.target ∧
    { boardSeeks with inputs := [false, false, false, true, true, false] }.closedPos = 0 ∧
    nextPlace (boardSeeks.heard (replyOf 2#8)) attempt = some 1 ∧
    (boardIn .waiting).chg.state = .waiting ∧ 2 < (3#8).toNat ∧ (boardIn .breaking).chg.state ≠ .seeking ∧
    (boardMoved none).Takes (replyOf 0#8) ∧ (boardMoved none).closedPos = attempt.target ∧
    ((boardMoved none).heard (replyOf 0#8)).Calm none (some 0) ∧
    nextPlace ((boardIn .seeking).heard (replyOf 2#8)) attempt = none ∧
    ((boardIn .seeking).heard (replyOf 2#8)).Calm (some (0, .dry)) none ∧
    (∀ r ∈ calls, (boardCalledBy r).Takes (replyOf 2#8) ∧ nextPlace ((boardCalledBy r).heard (replyOf 2#8)) attempt = none ∧
      ((boardCalledBy r).heard (replyOf 2#8)).Calm (some (0, r)) none) := by
  and_intros <;> first
    | decide | exact takes_of (by decide) | exact calm_of (by decide)
    | exact fun r h => ⟨takes_of (by revert r; decide), by revert r; decide, calm_of (by revert r; decide)⟩

theorem test_meets_CandidatesAreAskedInTurn :
    boardSeeks.awake = true ∧ boardSeeks.runs .board = true ∧ boardSeeks.chg.attempt = some attempt ∧
    boardSeeks.chg.state = .seeking ∧ { attempt with timer := 2 }.sends = 1 ∧ 2 ≤ { attempt with timer := 2 }.timer ∧
    nextPlace boardSeeks { attempt with timer := 2, sends := 2 } = some 1 ∧
    (boardIn .waiting).chg.state = .waiting ∧ 180 ≤ { attempt with timer := 180 }.timer ∧
    nextPlace { boardSeeks with chg := { boardSeeks.chg with state := .waiting } } { attempt with timer := 180 } =
      some 1 ∧
    nextPlace (boardIn .seeking) { attempt with timer := 2, sends := 2 } = none ∧
    nextPlace (boardIn .waiting) { attempt with timer := 180 } = none ∧ (boardIn .seeking).Calm (some (0, .dry)) none ∧
    (boardIn .waiting).Calm (some (0, .dry)) none := by
  and_intros <;> first | decide | exact calm_of (by decide)

/-- A SET STATUS in period 3. -/
def statusFrom (set duty flags : Nat) : RxFrame :=
  { frame set 0 (0#8 :: statusFields (.set { status7 with duty := duty, flags := flags, period := 3 })) with cls := 3 }

/-- BOARD 20 in WAITING on set 6, the next candidate being set 7 where it is heard. -/
def boardWaits (heard : List Peer) : State :=
  { boardIn .waiting with peers := heard, chg := { (boardIn .waiting).chg with live := [.live, .live, .live] } }

/-- SET 6 shows FAULT to a board that waits for it, with another candidate and without. -/
theorem test_meets_CandidatesAreAskedInTurn_fault :
    (∀ heard ∈ [[], [peer 7 (.set status7)]],
      (boardWaits heard).awake = true ∧ (boardWaits heard).runs .board = true ∧ (boardWaits heard).follows = true ∧
      (boardWaits heard).chg.state = .waiting ∧ (boardWaits heard).chg.attempt = some attempt ∧
      (boardWaits heard).image.station = some 20) ∧
    frameSound (statusFrom 6 3 2) = true ∧ 20 ≠ (statusFrom 6 3 2).sender ∧
    parseStatus (statusFrom 6 3 2).body = some (.set { status7 with duty := 3, flags := 2, period := 3 }) ∧
    (boardWaits []).image.setAt attempt.target = 6 ∧ { status7 with flags := 2 }.faultFlag = true ∧
    status7.faultFlag = false ∧ (boardWaits []).ClosesNone 6 3 ∧
    nextPlace (showPeer (endReception (boardWaits [peer 7 (.set status7)])) 6
      (some (.set { status7 with flags := 2, period := 3 }))) attempt = some 1 ∧
    nextPlace (showPeer (endReception (boardWaits [])) 6 (some (.set { status7 with flags := 2, period := 3 }))) attempt =
      none ∧
    (showPeer (endReception (boardWaits [])) 6 (some (.set { status7 with flags := 2, period := 3 }))).Calm
      (some (0, .dry)) none := by
  and_intros <;> first | decide | exact calm_of (by decide) | (intro e he; revert e; decide)

/-- R104: after the STATUS the board tries the next candidate in SEEKING. -/
theorem test_fault_status_moves_on :
    (after (exec (.status (statusFrom 6 3 2)) (boardWaits [peer 7 (.set status7)]))).map
      (fun t => (t.chg.state, t.chg.attempt.map Attempt.cursor)) = some (.seeking, some 1) := by decide

/-- BOARD 20 in DEAD, nothing closed, its target live. -/
def boardDead (timer : Nat) : State :=
  { boardIn .dead with
      inputs := [false, false, false, true, true, false]
      chg := { (boardIn .dead).chg with attempt := some { attempt with timer := timer, owed := true, oldPos := 1 } } }

/-- BOARD 20 in DEAD, its target not come up, the old position live and its set READY. -/
def boardDown : State :=
  { boardDead 5 with
      peers := [peer 5 (.set status7)]
      chg := { (boardDead 5).chg with live := [.live, .notLive, .notLive] } }

/-- BOARD 20 closing the old position again. -/
def boardBack : State :=
  { boardMaking with
      chg := { boardMaking.chg with
        cmd := some (.closeTo 1), attempt := some { attempt with oldPos := 1, returning := true } } }

theorem test_meets_SwitchMovesInItsOrder :
    (boardIn .breaking).awake = true ∧ (boardIn .breaking).runs .board = true ∧ (boardIn .breaking).inputs.length = 6 ∧
    (boardIn .breaking).chg.attempt = some attempt ∧ (boardIn .breaking).chg.state = .breaking ∧
    (boardIn .breaking).closedList = [1] ∧ (boardDead 5).chg.state = .dead ∧ (boardDead 5).image.deadSeconds = 5 ∧
    (boardDead 5).liveAt attempt.target = .live ∧ (boardDead 5).closedList = [] ∧ (boardDead 5).chg.cmd = none ∧
    boardMaking.chg.state = .making ∧ boardMaking.chg.cmd = some (.closeTo attempt.target) ∧ boardMaking.closedList = [] ∧
    attempt.returning = false ∧ attempt.target = 2 ∧ boardMaking.liveAt attempt.target = .live ∧
    boardMaking.chg.dryNote = none ∧
    { boardMaking with peers := [peer 6 (.set status7)] }.setStatusOf (boardMaking.image.setAt attempt.target) =
      some status7 ∧
    status7.duty ≠ dutyCode .unloading ∧ boardMaking.line.queue.length ≤ 4 ∧
    boardMaking.boardBill.table.length < tableCap ∧ boardMaking.posts = true ∧
    boardDown.liveAt attempt.target ≠ .live ∧ boardDown.liveAt 1 = .live ∧ boardDown.closedList = [] ∧
    boardDown.freshSet (boardDown.image.setAt 1) = some status7 ∧ status7.duty = dutyCode .ready ∧
    { boardDown with peers := [] }.freshSet (boardDown.image.setAt 1) = none ∧
    boardBack.chg.cmd = some (.closeTo 1) ∧ boardBack.chg.state = .making ∧ boardBack.closedList = [] ∧
    boardBack.liveAt 1 = .live ∧ boardBack.setStatusOf (boardBack.image.setAt 1) = none := by decide

theorem test_meets_FailedMovementLocksTheBoard :
    boardMaking.awake = true ∧ boardMaking.runs .board = true ∧ boardMaking.chg.attempt = some attempt ∧
    3 ≤ { boardMaking with chg := { boardMaking.chg with held := 3 } }.chg.held ∧
    boardMaking.chg.cmd = some (.closeTo 2) ∧ boardMaking.chg.state = .making ∧
    { boardIn .breaking with chg := { (boardIn .breaking).chg with cmd := some .openAll, held := 3 } }.chg.cmd =
      some .openAll ∧
    boardRun.chg.state ≠ .locked ∧ boardRun.closedList = [1] ∧ boardRun.inputs.length = 6 ∧
    boardRun.boardBill.table.length < tableCap ∧ boardMaking.closedList = [] ∧ boardMaking.inputs.length = 6 ∧
    boardMaking.boardBill.table.length < tableCap ∧ (boardDead 1).chg.state = .dead ∧ (boardDead 1).closedList = [] ∧
    (boardDead 1).boardBill.table.length < tableCap ∧
    { boardMaking with chg := { boardMaking.chg with cmd := none } }.chg.cmd = none := by decide

/-- BOARD 20 with a timer and the dry note of set 5, whose STATUS says DRY. -/
def boardNoted : State :=
  { boardRun with
      peers := [peer 5 (.set { status7 with flags := 1 })]
      chg := { boardRun.chg with dwell := some 60, dryNote := some 5, retry := some (30, .dead) } }

theorem test_meets_LiveStatesAndTimersTrigger :
    boardRun.awake = true ∧ boardRun.runs .board = true ∧ boardRun.closedPos = 1 ∧ boardRun.chg.state = .idle ∧
    boardRun.liveAt 1 ≠ .notLive ∧ boardRun.chg.live.length = 3 ∧ boardRun.inputs.length = 6 ∧
    boardRun.chg.retry = none ∧ boardNoted.chg.dwell = some 60 ∧ boardNoted.chg.dryNote = some 5 ∧
    heldOff boardNoted .dry = false ∧ 5 = boardNoted.feedingSet ∧
    boardNoted.feedingStatus.any SetStatus.dryFlag = true ∧ boardRun.feedingStatus.any SetStatus.dryFlag = false ∧
    boardNoted.chg.retry = some (30, .dead) ∧ boardNoted.image.retryTime = 30 ∧
    deadTest { boardRun with chg := { boardRun.chg with live := [.notLive, .live, .live] } } = true ∧
    { boardRun with inputs := [false, false, false, true, true, false] }.closedList = [] ∧
    boardRun.image.restores = true ∧ deadTest boardRun = false ∧ restoreTest boardRun = false ∧
    unloadingTest boardRun = false ∧
    unloadingTest { boardRun with peers := [peer 5 (.set { status7 with duty := dutyCode .unloading })] } = true ∧
    { boardNoted with chg := { boardNoted.chg with retry := some (30, .dry) } }.chg.retry = some (30, .dry) ∧
    deadTest boardNoted = false ∧ restoreTest boardNoted = false ∧ unloadingTest boardNoted = false ∧
    6 ≠ boardNoted.feedingSet := by
  decide

/-- BOARD 20 in a changeover state with its three feedbacks, its table and what it has heard, both timers stopped. -/
def boardAt (c : ChgState) (closed : List Bool) (t : List Entry) (heard : List Peer) : State :=
  { boardRun with
      inputs := closed ++ [true, true, false]
      peers := heard
      chg := { boardRun.chg with
        state := c, attempt := if c = .seeking ∨ c = .waiting then some attempt else none }
      boardBill := { boardRun.boardBill with table := t } }

/-- What `State.Opened` asks of a period without a FRESH status. -/
theorem period_unheard {s : State} {set : Nat} (h : set = 0 ∨ s.freshSet set = none) : periodFor s set = 0 := by
  rcases h with h | h <;> simp [periodFor, h]

/-- What `State.Opened` asks of a period that a FRESH status shows. -/
theorem period_heard {s : State} {set : Nat} {b : SetStatus} (h0 : set ≠ 0) (h : s.freshSet set = some b) :
    periodFor s set = if b.period ≠ 0 ∧ b.period = s.lastClosedOf set then nextNumber 65535 b.period else b.period := by
  simp only [periodFor, h0, h, if_false]

/-- Positions 1 and 3, at the ends of their range: an entry opens new and unbound, reopens, and opens in a full table. -/
theorem test_meets_LiveStatesAndTimersTrigger_feedbacks :
    (∃ u, (boardAt .idle [false, false, false] [] []).Opened 1 u) ∧
    (∃ u, (boardAt .waiting [false, false, false] [entry 7 1 4 .waitingClose] [peer 7 (.set status7)]).Opened 3 u) ∧
    (∃ u, (boardAt .locked [true, false, false] (List.replicate 8 (entry 5 1 3 .claimed)) [peer 7 (.set status7)]).Opened
      3 u) ∧
    (∀ c ∈ [ChgState.idle, .seeking, .waiting, .locked],
      (boardAt c [false, false, false] [] []).runs .board = true ∧ (boardAt c [false, false, false] [] []).awake = true ∧
      (boardAt c [false, false, false] [] []).input 1 = false ∧ (boardAt c [false, false, false] [] []).closedList = [] ∧
      (boardAt c [true, false, false] [entry 5 1 3 .current] []).closedList = [1] ∧
      (boardAt c [false, false, true] [] []).closedList = [3]) ∧
    (boardAt .idle [true, false, false] [] []).image.restores = true ∧
    (boardAt .idle [true, false, false] [] []).chg.retry = none ∧
    { boardImage with autoRestore := some 0 }.restores = false ∧
    (boardAt .locked [true, false, true] [entry 5 1 3 .current] []).closedList.filter (fun q => q != 1) = [3] ∧
    (boardAt .locked [true, false, true] [entry 7 3 3 .current] []).boardBill.table.all (fun e => e.pos != 1) = true ∧
    State.reset.awake = true ∧ State.reset.station = .unconfigured ∧ State.reset.input 3 ≠ true := by
  refine ⟨⟨_, _, period_unheard, fun _ => period_heard, .inr (.inl ⟨by decide, by decide, rfl⟩)⟩,
    ⟨_, _, period_unheard, fun _ => period_heard, .inl ⟨[], _, [], rfl, by decide, by decide, rfl⟩⟩,
    ⟨_, _, period_unheard, fun _ => period_heard, .inr (.inr ⟨0, _, by decide, by decide, rfl, by decide, rfl⟩)⟩, ?_⟩
  decide

/-- R98: in IDLE the last feedback gone takes the RESTORE trigger; no set has been heard, so the attempt ends at once. -/
theorem test_lost_feedback_restores :
    (after (exec (.closedFeedbackChange 1 false) (boardAt .idle [true, false, false] [entry 5 1 3 .current] []))).map
      (fun t => (t.closedList, t.chg.retry, t.chg.quiet, t.boardBill.table.map Entry.state)) =
      some ([], some (0, .restore), some .restore, [.waitingClose]) := by decide

/-- R158, R159: SET 6 shows READY in period 4, whose CLOSE has been heard; the feedback at position 2 opens period 5. -/
theorem test_feedback_opens_the_period_after_the_last_closed :
    (after (exec (.closedFeedbackChange 2 true)
      { boardAt .idle [false, false, false] [] [peer 6 (.set status7)] with
          boardBill := { blankBoardBill with lastClosed := [(6, 4)] } })).map
      (fun t => t.boardBill.table.map (fun e => (e.set, e.pos, e.period))) = some [(6, 2, 5)] := by decide

/-- SET 5, feeding BOARD 20 in IDLE, shows UNLOADING, or DRY to a board that has noted it; SET 6 does not feed. -/
theorem test_meets_LiveStatesAndTimersTrigger_status :
    boardRun.awake = true ∧ boardRun.runs .board = true ∧ boardRun.follows = true ∧ boardRun.chg.state = .idle ∧
    boardRun.image.station = some 20 ∧ boardRun.closedPos ≠ 0 ∧ boardRun.image.setAt boardRun.closedPos = 5 ∧
    boardRun.image.setAt boardRun.closedPos ≠ 6 ∧ boardRun.chg.retry = none ∧ boardRun.chg.dryNote = none ∧
    (∀ d ∈ [3, 4], frameSound (statusFrom 5 d 1) = true ∧ 20 ≠ (statusFrom 5 d 1).sender ∧
      parseStatus (statusFrom 5 d 1).body = some (.set { status7 with duty := d, flags := 1, period := 3 })) ∧
    dutyCode .unloading = 4 ∧ { status7 with flags := 1 }.dryFlag = true ∧ status7.dryFlag = false ∧
    boardRun.ClosesNone 5 3 ∧ (boardIn .dead).chg.state ≠ .idle ∧ (boardIn .dead).chg.state ≠ .waiting ∧
    { boardNoted with chg := { boardNoted.chg with dwell := none } }.chg.dryNote = some 5 ∧ 6 ≠ boardNoted.feedingSet ∧
    { boardRun with chg := { boardRun.chg with retry := some (1, .unload) } }.chg.retry = some (1, .unload) := by
  and_intros <;> first | decide | (intro e he; revert e; decide)

/-- R98: the feeding set shows UNLOADING; no other set has been heard, so the attempt ends at once with its retry. -/
theorem test_unloading_status_triggers :
    (after (exec (.status (statusFrom 5 4 0)) boardRun)).map (fun t => (t.chg.retry, t.chg.quiet)) =
      some (some (0, .unload), some .unload) := by decide

/-! ### Metering -/

theorem test_meets_ReadingsAreMeteredInStampOrder :
    setRun.awake = true ∧ setRun.inUse 0 = true ∧ 0 < setRun.meter.channels.length ∧
    0#8 + 10#8 + 0#8 + 0#8 + 0#8 + 100#8 + 146#8 = 0#8 ∧ (setRun.channel 0).state = .active ∧
    (setRun.channel 0).stamp = some 9 ∧ (10#8).toNat = (9 + 1) % 256 ∧ (setRun.channel 0).power = some 10000 ∧
    (setRun.channel 0).unmetered + 255 < two32 ∧ (8#8).toNat = (9 + 255) % 256 ∧
    boardRun.inUse 12 = true ∧ (boardRun.channel 12).state = .noData ∧ setRun.runs .board = false ∧
    boardRun.runs .board = true ∧ setRun.meter.link = [] ∧ setRun.meter.linkOld = false ∧
    ({ setRun with meter := { setRun.meter with
        channels := setRun.meter.channels.set 0 { readingChannel with state := .lost } } }.channel 0).state = .lost ∧
    boardRun.inUse 0 = true ∧ (boardRun.channel 0).stamp = some 9 ∧ (boardRun.channel 0).power = some 10000 ∧
    hasCurrent boardRun.boardBill.table = true ∧
    (∀ e ∈ boardRun.boardBill.table, e.state = .current → e.unmetered + 255 < two32) := by
  decide

theorem test_meets_BadReadingsAndSilenceAreCounted :
    setRun.awake = true ∧ 0#8 + 10#8 + 0#8 + 0#8 + 0#8 + 100#8 + 145#8 ≠ 0#8 ∧
    13#8 + 10#8 + 0#8 + 0#8 + 0#8 + 100#8 + 133#8 = 0#8 ∧ 12 < (13#8).toNat ∧
    1#8 + 10#8 + 0#8 + 0#8 + 0#8 + 100#8 + 145#8 = 0#8 ∧ (1#8).toNat ≤ 12 ∧ setRun.inUse (1#8).toNat = false ∧
    setRun.inUse 0 = true ∧ 0 < setRun.meter.channels.length ∧ (setRun.channel 0).state = .active ∧
    { readingChannel with silence := 3 }.silence = 3 ∧
    { readingChannel with state := .stalled, silence := 10 }.state = .stalled ∧
    State.reset.inUse 12 = true ∧ (State.reset.channel 12).state = .noData ∧
    (State.reset.channel 12).unmetered + 10 < two32 ∧ setRun.meter.link = [] ∧
    (setLink setRun [165#8, 1#8, 2#8, 3#8, 4#8, 5#8, 6#8] false).meter.link = 165#8 :: [1#8, 2#8, 3#8, 4#8, 5#8, 6#8] ∧
    [1#8, 2#8, 3#8, 4#8, 5#8, 6#8].length ≤ 6 ∧ (164#8 : Byte) ≠ 165#8 ∧ setRun.meter.linkOld = false ∧
    [1#8, 2#8, 3#8, 4#8, 5#8].length + [6#8].length ≤ 6 ∧
    (setLink setRun [165#8, 0#8, 10#8, 0#8, 0#8, 0#8, 100#8] true).meter.link =
      [165#8, 0#8, 10#8, 0#8, 0#8, 0#8, 100#8] ∧
    (setLink setRun [165#8, 0#8, 10#8, 0#8, 0#8, 0#8, 100#8] true).meter.linkOld = true ∧
    { setRun with resetHeld := true }.mainOn = true ∧ { setRun with resetHeld := true }.resetHeld = true ∧
    { setRun with resetHeld := true }.meter.link = [] ∧ boardRun.inUse 12 = true ∧ boardRun.runs .board = true ∧
    (boardRun.channel 12).state = .noData ∧
    (∀ e ∈ boardRun.boardBill.table, e.state = .current → e.unmetered + 10 < two32) := by decide

/-! ### The duty of a SET -/

/-- A set in a duty state with a timer. -/
def setTimed (d : DutyState) (timer : Nat) : State :=
  { setIn d with duty := { (setIn d).duty with timer := timer } }

/-- SET 5 in FAULT by its engine fault input, the entry acknowledged or not. -/
def setCured (acked : Bool) : State :=
  { setIn .fault with
      inputs := [false, false, true, false, false, false]
      duty := { (setIn .fault).duty with
        conditions := [.engineFault]
        faults := [{ cls := .engineFault, raisedAt := 0, present := true, acked := acked }] } }

theorem test_meets_EngineAndBreakerInputsAreFollowed :
    (setIn .starting).awake = true ∧ (setIn .starting).runs .set = true ∧ (setIn .starting).inputs.length = 6 ∧
    (setIn .starting).duty.conditions = [] ∧ (setIn .starting).input 1 = false ∧
    (setIn .starting).duty.state = .starting ∧ (setIn .starting).image.warmupTime ≠ 0 ∧
    { setIn .cooling with inputs := [true, false, false, false, false, false] }.input 1 = true ∧
    (setIn .cooling).duty.mode ≠ .prime ∧ (setIn .cooling).input 2 ≠ true ∧
    (∀ acked ∈ [true, false], (setCured acked).runs .set = true ∧ (setCured acked).inputs.length = 6 ∧
      (setCured acked).Settled ∧ (setCured acked).input 3 = true ∧ (setCured acked).duty.runOn = false ∧
      (setCured acked).present .engineFault = true ∧ (setCured acked).duty.state ≠ .off) := by
  and_intros <;> first
    | decide
    | exact fun a h => ⟨by revert a; decide, by revert a; decide, settled_of (by revert a; decide), by revert a; decide⟩

/-- SET 5 in a duty state with a timer, boards 20 and 21 promised and board 22 fed. -/
def setPromisedIn (d : DutyState) (timer : Nat) : State :=
  { setTimed d timer with
      duty := { (setTimed d timer).duty with feed := [fed 22 10] }
      reservations := [{ board := 20, ticket := 7, load := 100, hold := some 3 },
        { board := 21, ticket := 8, load := 50, hold := none }] }

theorem test_meets_FaultsTripTheSet :
    setRun.awake = true ∧ setRun.runs .set = true ∧ setRun.inputs.length = 6 ∧ setRun.duty.conditions = [] ∧
    setRun.reservations = [] ∧ setRun.input 3 = false ∧ setRun.duty.state ≠ .fault ∧
    (setTimed .starting 60).image.startLimit = 60 ∧ (setTimed .starting 60).duty.timer = 60 ∧
    2 ≤ { setRun with duty := { setRun.duty with brkClosed := false, disagree := 2 } }.duty.disagree ∧
    { setRun with duty := { setRun.duty with brkClosed := false, disagree := 2 } }.input 2 = true ∧
    { setRun with inputs := [true, false, false, false, false, false] }.input 2 = false ∧ setRun.duty.brkClosed = true ∧
    setRun.listed .breaker = false ∧ (setReserved .ready (some 1)).awake = true ∧
    (setReserved .ready (some 1)).runs .set = true ∧ (setReserved .ready (some 1)).inputs.length = 6 ∧
    (setReserved .ready (some 1)).duty.conditions = [] ∧ (setReserved .ready (some 1)).reservations ≠ [] ∧
    (setReserved .ready (some 1)).input 3 = false ∧ (setReserved .ready (some 1)).duty.state ≠ .fault ∧
    (setReserved .ready (some 1)).listed .engineFault = false ∧
    { setReserved .ready (some 1) with inputs := setRun.inputs }.input 1 = true ∧
    { setReserved .ready (some 1) with inputs := setRun.inputs }.input 3 = false ∧
    (∀ e ∈ (setReserved .ready (some 1)).duty.faults, e.present = true ∨ e.acked = false) ∧
    (setPromisedIn .starting 60).image.startLimit ≤ (setPromisedIn .starting 60).duty.timer ∧
    (setPromisedIn .starting 60).duty.state = .starting ∧ (setPromisedIn .starting 60).listed .startFail = false ∧
    (setPromisedIn .starting 60).reservations ≠ [] ∧ (setReserved .ready (some 1)).listed .breaker = false ∧
    { setReserved .ready (some 1) with
      inputs := setRun.inputs
      duty := { setRun.duty with brkClosed := false, disagree := 2 } }.input 2 = true ∧
    { setReserved .ready (some 1) with duty := { setRun.duty with disagree := 2 } }.input 2 = false ∧
    { setReserved .ready (some 1) with duty := { setRun.duty with disagree := 2 } }.duty.brkClosed = true := by decide

theorem test_meets_TimersMoveTheSet :
    (setTimed .warming 60).awake = true ∧ (setTimed .warming 60).runs .set = true ∧
    (setTimed .warming 60).duty.conditions = [] ∧ (setTimed .warming 60).image.warmupTime = 60 ∧
    (setTimed .warming 60).reservations = [] ∧
    (setReserved .warming none).reservations = [{ board := 20, ticket := 7, load := 100, hold := none }] ∧
    100 + max (setReserved .warming none).output (setReserved .warming none).feedSum ≤
      (setReserved .warming none).image.usable ∧
    { setRun with duty := { setRun.duty with idle := 600 } }.duty.idle = setRun.image.idleLimit ∧
    setRun.duty.mode = .auto ∧ setRun.duty.feed = [] ∧ setRun.image.cooldownTime = 120 ∧
    (setTimed .cooling 120).duty.timer = 120 ∧ (setTimed .cooling 120).duty.mode ≠ .prime := by decide

/-- SET 5 with its dry tank at RESERVE as the minute ends, OVERLOAD to unload it, two boards promised and one fed. -/
def setDrained (d : DutyState) : State :=
  { setPromisedIn d 0 with
      image := { setImage with reactOverload := some 1, reserve := some 500 }
      duty := { (setPromisedIn d 0).duty with overload := 60 }
      tank := { setRun.tank with mode := .live, reported := 500, dry := true, stage := some .minute } }

/-- `setDrained` where OVERLOAD and TANK_EMPTY trip the set. -/
def setTripped (d : DutyState) : State :=
  { setDrained d with image := { (setDrained d).image with reactOverload := some 2, reactTankEmpty := some 2 } }

/-- SET 5 in READY, silent for 120 s with BURN_SILENT set to IGNORE, with conditions. -/
def setSilent (conditions : List FaultClass) : State :=
  { setRun with
      image := { setImage with reactBurnSilent := some 0 }
      duty := { setRun.duty with burnSilence := 120, conditions := conditions } }

theorem test_meets_CountsAndHoldsRunOut :
    setRun.awake = true ∧ setRun.runs .set = true ∧ setRun.duty.conditions = [] ∧
    { setRun with duty := { setRun.duty with overload := 60, burnSilence := 120 } }.duty.overload = 60 ∧
    setRun.image.reactOverload.getD 0 = 0 ∧ setRun.image.reactBurnSilent.getD 1 = 1 ∧ setRun.listed .overload = false ∧
    setRun.listed .burnSilent = false ∧ setRun.Settled ∧ setLast.duty.state = .unloading ∧
    { setLast with duty := { setLast.duty with timer := 300 } }.duty.timer = setLast.image.unloadTime ∧
    setLast.duty.feed ≠ [] ∧ setLast.duty.stallNoted = false ∧
    (∃ r ∈ (setReserved .ready (some 0)).reservations, r.board = 20 ∧ r.hold = some 0) ∧
    (∀ r ∈ (setReserved .ready (some 1)).reservations, r.board = 20 → r.hold ≠ some 0) ∧
    (∀ d ∈ [DutyState.ready, .starting, .warming, .cooling, .off, .unloading, .fault],
      (setDrained d).awake = true ∧ (setDrained d).runs .set = true ∧ (setDrained d).duty.conditions = [] ∧
      (setDrained d).duty.state = d ∧ 60 ≤ (setDrained d).duty.overload ∧
      (setDrained d).image.reactOverload.getD 0 = 1 ∧ (setDrained d).listed .overload = false ∧
      (setDrained d).duty.feed ≠ [] ∧ (setDrained d).reservations ≠ [] ∧
      (setDrained d).tank.stage = some .minute ∧ (setDrained d).tank.mode ≠ .unknown ∧
      (setDrained d).tank.reported ≤ (setDrained d).image.reserveCl ∧ (setDrained d).tank.empty = false ∧
      (setDrained d).tank.dry = true ∧ (setDrained d).image.reactTankEmpty.getD 1 = 1 ∧
      (setDrained d).listed .tankEmpty = false ∧ (setDrained d).image.cooldownTime ≠ 0 ∧
      (setTripped d).image.reactOverload.getD 0 = 2 ∧ (setTripped d).image.reactTankEmpty.getD 1 = 2) ∧
    (setSilent []).image.reactBurnSilent.getD 1 = 0 ∧ 120 ≤ (setSilent []).duty.burnSilence ∧
    (setSilent [.burnSilent]).duty.conditions = [.burnSilent] := by
  and_intros <;> first | decide | exact settled_of (by decide)

/-- 04, R60, R61: with IGNORE a burn silence comes and goes unseen. -/
theorem test_ignored_silence_comes_and_goes :
    after (exec .burnSilenceExpiry (setSilent [])) = some (setSilent [.burnSilent]) ∧
    (after (exec .burnPulse (setSilent [.burnSilent]))).map (fun t => (t.duty, t.records, t.line)) =
      some ({ setRun.duty with burnSilence := 0 }, setRun.records, setRun.line) := by decide

/-! ### Fuel and deliveries -/

/-- TANKER 30 about to count a pulse: one pulse is 0.1 cl, and the tenth makes one. -/
def tankerAt (pulses : Nat) : State := { tankerRun with tanker := { blankTanker with pulses := pulses } }

theorem test_meets_PulsesAreCounted :
    State.reset.mainOn = true ∧ State.reset.station = .unconfigured ∧ setRun.mainOn = true ∧ setRun.runs .set = true ∧
    { setRun with resetHeld := true }.resetHeld = true ∧ setRun.resetHeld = false ∧ setRun.Settled ∧
    setRun.present .burnSilent = false ∧ { setRun with mainOn := false }.mainOn = false ∧
    (boardRun.station = .run ∧ boardRun.image.role ≠ some .set ∧ boardRun.image.role ≠ some .tanker) ∧
    (tankerAt 8).awake = true ∧ (tankerAt 8).runs .tanker = true ∧ (tankerAt 9).dispenseCl = (tankerAt 8).dispenseCl ∧
    (tankerAt 10).dispenseCl ≠ (tankerAt 9).dispenseCl ∧ (tankerAt 9).tanker.run = none ∧
    (tankerAt 9).tanker.state = .idle ∧ (tankerIn .dispensing).tanker.state = .dispensing := by
  and_intros <;> first | decide | exact settled_of (by decide)

/-- SET 5 whose content is held at 500 litres, the loop about to be GOOD. -/
def setHeld (stage : TankStage) : State :=
  { setRun with
      tank := { setRun.tank with
        good := false, badCause := some .opened, mode := .held, reported := 50000, filter := [12000]
        hold := some { content := 50000, burn := 0, inlet := 0, start := 0, cause := .opened }
        liveContent := some 50000, minuteSeconds := 59, stage := some stage } }

/-- SET 5 about to measure its loop. -/
def setMeasures (good : Bool) (mode : ContentMode) : State :=
  { setRun with
      tank := { setRun.tank with
        good := good, badCause := if good then none else some .opened, mode := mode, reported := 50000
        filter := [12000], qualifying := 4, matching := 119, minuteSeconds := 3
        hold := some { content := 50000, burn := 0, inlet := 0, start := 0, cause := .opened } } }

theorem test_meets_LoopRecoveryAdoptsTheContent :
    (setHeld .qualifying).awake = true ∧ (setHeld .qualifying).runs .set = true ∧
    (setHeld .qualifying).tank.stage = some .qualifying ∧ (setHeld .qualifying).tank.mode = .held ∧
    (setHeld .qualifying).tank.hold ≠ none ∧ (setHeld .qualifying).tank.filterAverage = some 12000 ∧
    absDiff (volumeAt (levelOf setImage 12000) setImage.table) 50000 ≤ setImage.fullVolume * setImage.captureTenths / 1000 ∧
    setImage.fullVolume * setImage.captureTenths / 1000 < absDiff (volumeAt (levelOf setImage 11000) setImage.table) 50000 ∧
    (setHeld .matching).tank.stage = some .matching ∧ (setHeld .matching).tank.hold ≠ none ∧
    (setHeld .matching).tank.liveContent = some 50000 ∧ 59 ≤ (setHeld .matching).tank.minuteSeconds ∧
    (∀ good ∈ [true, false], ∀ mode ∈ [ContentMode.unknown, .live, .held, .matching],
      (setMeasures good mode).awake = true ∧ (setMeasures good mode).runs .set = true ∧
      takeDue (setMeasures good mode) = setMeasures good mode ∧ (setMeasures good mode).tank.stage = none ∧
      (setMeasures good mode).tank.good = good ∧ (setMeasures good mode).tank.mode = mode ∧
      (setMeasures good mode).tank.hold ≠ none ∧ (setMeasures good mode).present .levelLoop = false) ∧
    [500, 3000, 12000, 21000, 23000].map (fun x => loopMean (List.replicate 10 x)) = [500, 3000, 12000, 21000, 23000] ∧
    setImage.reactLevelLoop.getD 1 = 1 ∧ (setMeasures false .held).tank.qualifying = 4 ∧
    (setMeasures true .matching).tank.matching = 119 ∧
    [({ level := 0, volume := 0 } : StrapPoint), { level := 5, volume := 7 }, { level := 9, volume := 7 }].Pairwise
      (fun p q => p.level < q.level) := by decide

/-- SET 5 with 500 litres and buckets of a burn within its minute, or at its end. -/
def setMinutes (d : DutyState) (dry : Bool) (burn : Nat) (stage : Option TankStage) : State :=
  { setIn d with
      tank := { setRun.tank with
        good := true, mode := .live, reported := 50000, filter := [12000], dry := dry, stage := stage
        buckets := List.replicate 10 burn, minuteSeconds := if stage = none then 3 else 60 } }

/-- SET 5 in READY, feeding board 20, whose content has come to RESERVE. -/
def setEmptying : State :=
  { setMinutes .ready true 0 none with
      image := { setImage with reserve := some 60000 }
      duty := { setRun.duty with feed := [fed 20 50], timer := 77 }
      tank := { (setMinutes .ready true 0 none).tank with tte := 0 } }

theorem test_meets_MinuteEndGathersTheBurn :
    (setHeld .minute).awake = true ∧ (setHeld .minute).runs .set = true ∧ (setHeld .minute).tank.stage = some .minute ∧
    (setHeld .minute).tank.mode ≠ .unknown ∧ (setHeld .minute).image.reserveCl < (setHeld .minute).tank.reported ∧
    2 ≤ (lastOf 10 (List.replicate 10 7 ++ [(setHeld .minute).burnCl])).length ∧
    setRun.tank.mode = .unknown ∧ setRun.tank.reported ≤ setRun.image.reserveCl ∧
    (∀ d ∈ [DutyState.ready, .unloading, .off], ∀ dry ∈ [true, false], ∀ burn ∈ [0, 900, 2000],
      (setMinutes d dry burn none).awake = true ∧ (setMinutes d dry burn none).runs .set = true ∧
      takeDue (setMinutes d dry burn none) = setMinutes d dry burn none ∧
      (setMinutes d dry burn none).tank.stage = none ∧ (setMinutes d dry burn none).tank.minuteSeconds < 59 ∧
      (setMinutes d dry burn none).duty.conditions = [] ∧ (setMinutes d dry burn none).tank.dry = dry ∧
      (localSecond aSecond (setMinutes d dry burn none)).tank.stage = none ∧
      (localSecond aSecond (setMinutes d dry burn none)).tank.empty = (setMinutes d dry burn none).tank.empty) ∧
    [0, 900, 2000].map (fun burn => (localSecond aSecond (setMinutes .ready true burn none)).tank.tte) =
      [65535, 55, 25] ∧
    (∀ dry ∈ [true, false], (setMinutes .ready dry 900 (some .minute)).tank.stage = some .minute ∧
      (minuteStep (setMinutes .ready dry 900 (some .minute))).tank.empty =
        (setMinutes .ready dry 900 (some .minute)).tank.empty) ∧
    (setDrained .ready).tank.empty ≠ (minuteStep (setDrained .ready)).tank.empty ∧
    settled (setDrained .ready) = true ∧ (setDrained .ready).present .tankEmpty = false ∧
    takeDue setEmptying = setEmptying ∧ setEmptying.duty.state = .ready ∧
    (localSecond aSecond setEmptying).tank.stage = none := by decide +kernel

/-- 04, worked case of a tank running empty: UNLOADING at second 2, and its timer reaches 300 at second 302. -/
theorem test_worked_unloading_counts_from_the_next_second :
    (run setEmptying [.localSecond aSecond]).map (fun t => (t.duty.state, t.duty.timer)) = some (.unloading, 0) ∧
    (run setEmptying [.localSecond aSecond, .localSecond aSecond]).map (fun t => t.duty.timer) = some 1 := by
  decide +kernel

/-- Frames of tanker 30 to set 5. -/
def openOf (docket : Byte) : RxFrame := frame 30 5 [0#8, docket]
def docketOf (docket : Byte) : RxFrame := frame 30 5 [0#8, docket, 0#8, 0#8, 1#8, 0#8]

/-- The last result for tanker 30 under docket 9. -/
def lastResult : LastResult := { tanker := 30, docket := 9, meterCheck := 0, levelCheck := 0, inlet := 1, rise := 0 }

theorem test_meets_SetAnswersTheTanker :
    setRun.Takes (openOf 9#8) ∧ setRun.image.role = some .set ∧ (openOf 9#8).body = 0#8 :: 9#8 :: [] ∧ rd2 0#8 0#8 = 0 ∧
    rd2 0#8 9#8 ≠ 0 ∧ setRun.delivery.session = none ∧ (setWith (session .opened)).delivery.session = some (session .opened) ∧
    (session .opened).tanker = some (openOf 9#8).sender ∧ (session .opened).docket = some (rd2 0#8 9#8) ∧
    (session .opened).docket ≠ some (rd2 0#8 8#8) ∧
    { session .opened with tanker := none, docket := none }.phase = .opened ∧
    { session .settling with tanker := none, docket := none }.phase = .settling ∧
    (docketOf 9#8).body = 0#8 :: 9#8 :: 0#8 :: 0#8 :: 1#8 :: 0#8 :: [] ∧ setRun.Takes (docketOf 9#8) ∧
    lastResult.tanker = (docketOf 9#8).sender ∧ lastResult.docket = rd2 0#8 9#8 := by
  and_intros <;> first | decide | exact takes_of (by decide)

/-- SET 5 with an inlet watch of 60 s and some inlet pulses. -/
def setWatching (pulses : Nat) : State :=
  { setRun with
      tank := { setRun.tank with inletPulses := pulses }
      delivery := { blankDelivery with
        watch := some { anchor := { time := 0, inlet := 0, burn := 0, content := 0, mode := .live }, age := 60 } } }

theorem test_meets_DeliverySessionsEndInAVerdict :
    (setWatching 1000).awake = true ∧ (setWatching 1000).runs .set = true ∧ (setWatching 1000).delivery.watch ≠ none ∧
    diff32 (setWatching 1000).inletCl 0 = 100 ∧ diff32 (setWatching 999).inletCl 0 < 100 ∧
    { session .opened with quiet := 120 }.quiet = 120 ∧ { session .quiet with quiet := 1800 }.quiet = 1800 ∧
    { session .settling with settle := 60 }.settle = 60 ∧ (session .settling).phase = .settling ∧
    (setWith { session .settling with settle := 60 }).delivery.session ≠ none := by decide

/-- Frames of set 5 to tanker 30. -/
def ackOf5 (answer : Byte) : RxFrame := frame 5 30 [0#8, 9#8, answer]
def resultOf5 : RxFrame := frame 5 30 [0#8, 9#8, 0#8, 0#8, 0#8, 0#8, 1#8, 0#8, 0#8, 0#8, 1#8, 0#8]

theorem test_meets_TankerDeliveriesEndInADocket :
    (tankerIn .opening).Takes (ackOf5 0#8) ∧ (tankerIn .opening).image.role = some .tanker ∧
    (tankerIn .opening).tanker.delivery = some delivery ∧ (ackOf5 0#8).body = 0#8 :: 9#8 :: 0#8 :: [] ∧
    (tankerIn .opening).tanker.state = .opening ∧ delivery.target = (ackOf5 0#8).sender ∧
    delivery.docket = rd2 0#8 9#8 ∧ (tankerIn .closing).Takes resultOf5 ∧
    resultOf5.body = 0#8 :: 9#8 :: 0#8 :: 0#8 :: 0#8 :: 0#8 :: 1#8 :: 0#8 :: 0#8 :: 0#8 :: 1#8 :: 0#8 :: [] ∧
    (tankerIn .closing).awake = true ∧ (tankerIn .closing).runs .tanker = true ∧
    { delivery with timer := 2, attempts := 3 }.attempts = 3 ∧ { delivery with timer := 90 }.again = false ∧
    { delivery with timer := 180 }.timer = 180 ∧
    { tankerRun with tanker := { blankTanker with run := some { start := 0, before := 0, quiet := 120 } } }.tanker.run =
      some { start := 0, before := 0, quiet := 120 } ∧ tankerRun.tanker.run = none := by
  and_intros <;> first | decide | exact takes_of (by decide)

/-! ### The settlement of a SET -/

theorem test_meets_PeriodEndClosesAndOpens :
    setRun.awake = true ∧ setRun.runs .set = true ∧ setRun.setBill.opened = some period3 ∧
    setRun.setBill.putOff = false ∧ setRun.image.periodLength = { period3 with elapsed := 900 }.elapsed ∧
    setRun.setBill.window = none ∧ setClosed.setBill.window ≠ none ∧ setClosed.setBill.closed ≠ none ∧
    period3.elapsed < setRun.image.periodLength := by decide

theorem test_meets_ApportionmentSharesTheFuel :
    setClosed.awake = true ∧ setClosed.runs .set = true ∧ setClosed.setBill.closed ≠ none ∧
    setClosed.setBill.window = some 20 ∧ setClosed.setBill.putOff = false ∧ setClosed.image.windowLength = 20 ∧
    setClosed.posts = true ∧ setClosed.line.queue.length + setClosed.setBill.claims.length ≤ txCap ∧
    19 < setClosed.image.windowLength := by decide

/-! ### The local port -/

/-- The port takes a command. -/
theorem listens_of {s : State} (h : (s.awake && s.port.reply.ready) = true) : s.listens := by
  simpa [State.listens] using h

/-- The station before START with an image. -/
def before (i : Image) : State := { State.reset with image := i }

theorem test_meets_CommandFramesAreJudgedFirst :
    setRun.listens ∧ [9#8].length < (2#8).toNat ∧
    { setRun with port := { blankPort with reply := { blankPort.reply with ready := false } } }.port.reply.ready = false ∧
    setRun.awake = true ∧ 11 < (12#8).toNat ∧ 7 < (8#8).toNat ∧ State.reset.listens ∧
    State.reset.station = .unconfigured ∧ setRun.station = .run ∧ ([] : List Byte).length ≠ 5 := by
  and_intros <;> decide

theorem test_meets_WriteConfigKeepsToTheRanges :
    State.reset.listens ∧ setRun.listens ∧ setRun.station = .run ∧ State.reset.station = .unconfigured ∧
    ([] : List Byte).length ≠ 6 ∧ rd4 0#8 0#8 0#8 31#8 = 31 ∧ rd4 0#8 0#8 0#8 2#8 = 2 ∧ rd4 0#8 0#8 0#8 30#8 = 30 ∧ rd4 0#8 0#8 78#8 32#8 = 20000 ∧ rd4 0#8 0#8 78#8 33#8 = 20001 ∧
    rd4 0#8 0#8 14#8 16#8 ∈ [300, 600, 900, 1800, 3600] ∧ rd4 0#8 0#8 1#8 45#8 ∉ [300, 600, 900, 1800, 3600] ∧
    rd4 0#8 3#8 2#8 1#8 ∈ [0x010203, 0x010302, 0x020103, 0x020301, 0x030102, 0x030201] ∧
    rd4 0#8 3#8 2#8 2#8 ∉ [0x010203, 0x010302, 0x020103, 0x020301, 0x030102, 0x030201] ∧ rd2 19#8 136#8 = 5000 ∧
    rd2 19#8 137#8 = 5001 ∧ 16 ≤ (16#8).toNat ∧ 3 < (4#8).toNat :=
  ⟨listens_of (by decide), listens_of (by decide), by decide⟩

theorem test_meets_StartValidatesAndEntersRun :
    (before setImage).listens ∧ setRun.station = .run ∧ (before setImage).station = .unconfigured ∧
    blankImage.station = none ∧ { blankImage with station := some 5 }.role = none ∧
    { setImage with rated := none }.rated = none ∧ setImage.calLow + 8000 ≤ setImage.calHigh ∧
    { setImage with calEmpty := some 12001 }.calHigh < { setImage with calEmpty := some 12001 }.calLow + 8000 ∧
    setImage.Strapped ∧ ¬ { setImage with strap := List.replicate 16 none }.Strapped ∧
    ¬ { setImage with
        strap := some { level := 0, volume := 5 } :: some { level := 1000, volume := 4 } :: List.replicate 14 none }.Strapped ∧
    setImage.reserveCl < setImage.fullVolume ∧
    { setImage with reserve := some 100000 }.fullVolume ≤ { setImage with reserve := some 100000 }.reserveCl ∧
    (before setImage).input 1 = false ∧ (before setImage).input 2 = false ∧ (before setImage).input 3 = false ∧
    ((before setImage).channel 0).state ≠ .lost ∧ setImage.defaultMode = none ∧
    (before setImage).setBill.opened = none ∧ (before setImage).setBill.closed = none ∧
    ¬ boardImage.Misplaced 20 ∧ { boardImage with posSet := [some 5, some 5, none] }.Misplaced 20 ∧
    { boardImage with posSet := [none, none, some 20] }.Misplaced 20 ∧
    { boardImage with posSet := [none, none, none] }.Misplaced 20 ∧
    { before boardImage with inputs := boardRun.inputs }.closedList = [1] ∧
    { before boardImage with inputs := boardRun.inputs }.liveAt 1 ≠ .notLive ∧
    (∀ set ∈ [5, 6], { before boardImage with peers := [peer set (.set status7)] }.setStatusOf set = some status7 ∧
      { before boardImage with peers := [peer set (.set status7)] }.freshSet set = some status7) ∧
    boardImage.setAt 1 = 5 ∧ status7.duty ≠ dutyCode .unloading ∧ status7.dryFlag = false ∧
    { boardImage with followDry := some 1 }.followsDry = true ∧
    tankerRun.image.role = some .tanker ∧ (before boardImage).line.queue = [] ∧
    (before boardImage).line.listenOnly = false ∧ (∀ e ∈ (before boardImage).boardBill.table, e.state ≠ .claimed) := by
  refine ⟨listens_of (by decide), ?_⟩
  simp only [← strapOk_iff, ← posSetFails_iff]
  decide

theorem test_meets_WarmRestartStartsTheBlocksAfresh :
    setRun.listens ∧ boardRun.listens ∧ tankerRun.listens ∧ State.reset.listens ∧ State.reset.station = .unconfigured ∧
    setRun.station = .run ∧ setRun.image.role = some .set ∧ boardRun.image.role = some .board ∧
    tankerRun.image.role = some .tanker ∧ (boardIn .locked).chg.state = .locked ∧ setRun.duty.mode = .auto ∧
    setRun.input 3 = false ∧ setRun.input 1 = true ∧ setRun.image.warmupTime ≠ 0 ∧ setRun.setBill.closed = none ∧
    boardRun.closedList = [1] ∧ boardRun.liveAt 1 ≠ .notLive ∧ boardRun.boardBill.table.length < tableCap ∧
    (∀ e ∈ boardRun.boardBill.table, e.state ≠ .claimed) :=
  ⟨listens_of (by decide), listens_of (by decide), listens_of (by decide), listens_of (by decide), by decide⟩

theorem test_meets_ReadsReturnWhatIsHeld :
    boardKnows.listens ∧ setRun.listens ∧ tankerRun.listens ∧ State.reset.listens ∧ (before setImage).listens ∧
    (before boardImage).listens ∧ (before setImage).station = .unconfigured ∧ State.reset.image.role = none ∧
    (before setImage).image.role = some .set ∧ (before boardImage).image.role = some .board ∧
    setRun.runs .set = true ∧ boardKnows.runs .board = true ∧ tankerRun.runs .tanker = true ∧
    (fullStore aDocket).queue ≠ [] ∧ (fullStore (.event .startFail)).queue ≠ [] ∧ [0#8] ≠ ([] : List Byte) ∧
    { setRun with records := { setRun.records with queue := [] } }.records.queue = [] ∧
    setRun.records.queue ≠ [] ∧ (0#8).toNat = 0 ∧ 30 < (31#8).toNat ∧ boardKnows.peer 30 = none ∧
    boardKnows.image.station = some 20 ∧ boardKnows.peer 6 = some (peer 6 (.set status7)) := by
  and_intros <;> decide

theorem test_meets_RemoveRecordTakesTheHead :
    setRun.listens ∧ setRun.records.queue =
      { seq := 0, stamp := 0, powerUps := 0, lost := 0, carry := none, body := .event (.retainLost .check) } :: [] ∧
    rd2 0#8 0#8 = 0 ∧ rd2 0#8 1#8 ≠ 0 ∧
    { setRun with records := { setRun.records with queue := [] } }.records.queue = [] :=
  ⟨listens_of (by decide), by decide⟩

/-- SET 5 in OFF under the start inhibit: OVERLOAD is present and unloads. -/
def setHeldOff : State :=
  { setIn .off with
      image := { setImage with reactOverload := some 1 }
      duty := { (setIn .off).duty with conditions := [.overload] } }

/-- SET 5 in OFF with its engine started by hand. -/
def setByHand : State := { setIn .off with inputs := [true, false, false, false, false, false] }

theorem test_meets_RunModeActsOnTheDutyState :
    setRun.listens ∧ State.reset.station = .unconfigured ∧ boardRun.station = .run ∧ boardRun.image.role ≠ some .set ∧
    (∀ s ∈ [setRun, setHeldOff, setFaulty, setLast, setIdling, setIn .cooling, setIn .off],
      s.listens ∧ s.runs .set = true ∧ s.Settled) ∧
    2 < (3#8).toNat ∧ (2#8).toNat = 2 ∧ (1#8).toNat = 1 ∧ (0#8).toNat = 0 ∧ setRun.duty.state = .ready ∧
    setHeldOff.duty.state = .off ∧ setHeldOff.inhibit = true ∧ setFaulty.duty.state = .fault ∧
    (setIn .cooling).duty.state = .cooling ∧ (setIn .cooling).duty.origin ≠ some .idle ∧
    (∀ d ∈ [DutyState.starting, .warming, .ready],
      ((setPromisedIn d 0).awake && (setPromisedIn d 0).port.reply.ready) = true ∧ (setPromisedIn d 0).runs .set = true ∧
      (setPromisedIn d 0).duty.conditions = [] ∧ (setPromisedIn d 0).duty.state = d ∧
      (setPromisedIn d 0).image.cooldownTime ≠ 0 ∧ (setPromisedIn d 0).duty.feed ≠ [] ∧
      (setPromisedIn d 0).reservations ≠ []) ∧
    (setReserved .ready (some 1)).duty.state = .ready ∧ (setReserved .ready (some 1)).duty.feed = [] ∧
    (setReserved .ready (some 1)).reservations ≠ [] ∧
    { setRun with image := { setImage with cooldown := some 0 } }.image.cooldownTime = 0 ∧ setLast.image.cooldownTime ≠ 0 ∧
    (∀ s ∈ [setLast, setIdling, setIn .off, setByHand],
      s.present .engineFault = false ∧ s.present .breaker = false ∧ s.present .burnSilent = false) ∧
    (∀ s ∈ [setIn .off, setByHand], s.duty.state = .off ∧ s.inhibit = false ∧ s.duty.starts + 1 < two32) ∧
    (setIn .off).input 1 = false ∧ setByHand.input 1 = true ∧ setByHand.image.warmupTime ≠ 0 ∧
    setIdling.duty.state = .cooling ∧ setIdling.duty.origin = some .idle ∧ setLast.duty.state = .unloading ∧
    setLast.duty.mode ≠ .prime := by
  refine ⟨listens_of (by decide), by decide, by decide, by decide, fun s h => ?_, by decide⟩
  exact ⟨listens_of (by revert s; decide), by revert s; decide, settled_of (by revert s; decide)⟩

theorem test_meets_ChangeoverAndAbortAreAnswered :
    boardRun.listens ∧ boardRun.runs .board = true ∧ (2#8).toNat = 2 ∧ boardRun.image.setAt 2 ≠ 0 ∧
    boardRun.chg.state = .idle ∧ boardRun.closedPos ≠ 2 ∧ boardRun.closedPos = (1#8).toNat ∧ 3 < (4#8).toNat ∧
    setRun.station = .run ∧ setRun.image.role ≠ some .board ∧ (boardIn .dead).chg.state = .dead ∧
    boardSeeks.chg.attempt = some attempt ∧ boardSeeks.chg.state = .seeking ∧ boardSeeks.Calm (some (0, .dry)) none ∧
    (∀ r ∈ calls, (boardCalledBy r).listens ∧ (boardCalledBy r).Calm (some (0, r)) none) := by
  and_intros <;> first
    | decide | exact calm_of (by decide) | exact listens_of (by decide)
    | exact fun r h => ⟨listens_of (by revert r; decide), calm_of (by revert r; decide)⟩

theorem test_meets_TankerRequestsAreAnswered :
    tankerRun.listens ∧ tankerRun.runs .tanker = true ∧ rd4 0#8 0#8 0#8 5#8 = 5 ∧ tankerRun.image.station ≠ some 5 ∧
    tankerRun.image.station = some 30 ∧ 30 < rd4 0#8 0#8 0#8 31#8 ∧ tankerRun.tanker.state = .idle ∧
    tankerRun.tanker.run = none ∧ (tankerIn .dispensing).tanker.state = .dispensing ∧
    (tankerIn .dispensing).tanker.delivery = some delivery ∧ setRun.station = .run ∧
    setRun.image.role ≠ some .tanker ∧
    { tankerRun with tanker := { blankTanker with run := some { start := 0, before := 0, quiet := 7 } } }.tanker.run =
      some { start := 0, before := 0, quiet := 7 } :=
  ⟨listens_of (by decide), by decide⟩

/-- SET 5 with a START_FAIL that is gone and a METER_LOST that is present. -/
def setListed : State :=
  { setRun with
      duty := { setRun.duty with
        conditions := [.meterLost]
        faults := [{ cls := .startFail, raisedAt := 0, present := false, acked := false },
          { cls := .meterLost, raisedAt := 0, present := true, acked := false }] } }

theorem test_meets_AckFaultAcknowledgesEntries :
    setListed.listens ∧ setListed.runs .set = true ∧ setListed.Settled ∧ (255#8).toNat = 255 ∧ setRun.duty.faults = [] ∧
    setListed.duty.faults ≠ [] ∧ 7 < (8#8).toNat ∧ (254#8).toNat < 255 ∧ (7#8).toNat = faultCode .startFail ∧
    (∃ e ∈ setListed.duty.faults, e.cls = .startFail) ∧ (∀ e ∈ setListed.duty.faults, e.cls ≠ .tankEmpty) :=
  ⟨listens_of (by decide), by decide, settled_of (by decide), by decide⟩

/-- SET 5 in FAULT in a run mode, with conditions; OVERLOAD unloads. -/
def setHot (mode : RunMode) (conditions : List FaultClass) : State :=
  { setIn .fault with
      image := { setImage with reactOverload := some 1 }
      duty := { (setIn .fault).duty with mode := mode, conditions := conditions } }

/-- BOARD 20 in LOCKED where a condition of R98 stands. -/
def boardLockedBy (r : Reason) : State :=
  { boardCalledBy r with chg := { (boardCalledBy r).chg with state := .locked, attempt := none, fault := some .noOpen } }

/-- BOARD 20 in LOCKED with the dry note of set 5, whose STATUS has these flags. -/
def lockedNoted (flags : Nat) : State :=
  { boardIn .locked with
      peers := [peer 5 (.set { status7 with flags := flags })]
      chg := { (boardIn .locked).chg with attempt := none, dryNote := some 5 } }

theorem test_meets_ClearFaultReleasesTheStation :
    (setIn .fault).listens ∧ (setIn .fault).runs .set = true ∧ (setIn .fault).duty.state = .fault ∧
    (setIn .fault).tripPresent = false ∧ (setIn .fault).duty.mode ≠ .prime ∧ setFaulty.tripPresent = true ∧
    setRun.duty.state ≠ .fault ∧ tankerRun.runs .tanker = true ∧ boardRun.runs .board = true ∧
    boardRun.chg.state ≠ .locked ∧ (boardIn .locked).chg.state = .locked ∧
    2 ≤ { boardIn .locked with inputs := [true, true, false, true, true, false] }.closedList.length ∧
    (setHot .stop [.overload]).Settled ∧ (setHot .stop [.overload]).tripPresent = false ∧
    (setHot .stop [.overload]).duty.mode ≠ .prime ∧ (setHot .prime [.overload]).Settled ∧
    (setHot .prime [.overload]).inhibit = true ∧ (setHot .prime [.levelLoop]).Settled ∧
    (setHot .prime [.levelLoop]).inhibit = false ∧ (setHot .prime [.levelLoop]).input 1 = false ∧
    (setHot .prime [.levelLoop]).duty.starts + 1 < two32 ∧ (boardIn .locked).Calm none none ∧
    (boardLockedBy .dead).liveAt (boardLockedBy .dead).closedPos = .notLive ∧ (boardLockedBy .restore).closedList = [] ∧
    (boardLockedBy .restore).image.restores = true ∧ unloadingTest (boardLockedBy .unload) = true ∧
    deadTest (boardLockedBy .unload) = false ∧ (∀ r ∈ calls, (boardLockedBy r).closedList.length < 2) ∧
    (lockedNoted 1).feedingStatus.any SetStatus.dryFlag = true ∧ 5 = (lockedNoted 1).feedingSet ∧
    (lockedNoted 0).feedingStatus.any SetStatus.dryFlag = false ∧ deadTest (lockedNoted 0) = false ∧
    restoreTest (lockedNoted 0) = false ∧ unloadingTest (lockedNoted 0) = false ∧ (lockedNoted 0).closedList.length < 2 := by
  and_intros <;> first | decide | exact listens_of (by decide) | exact settled_of (by decide) | exact calm_of (by decide)

/-! ## The spec's worked cases -/

/-- 05, worked headroom: usable 2250, average 1300, board 9 with 1250: 950; with 1400: 850. -/
def set6 (load : Nat) : State :=
  { setRun with
      image := { setImage with station := some 6, rated := some 2500 }
      meter := { blankMeter with
        channels := blankMeter.channels.set 0 { readingChannel with window := List.replicate 10 130000 } }
      duty := { setRun.duty with feed := [fed 9 load] } }

theorem test_worked_headroom : (set6 1250).headroom = 950 ∧ (set6 1400).headroom = 850 := by decide

/-- 03, a short gap on a board incomer: Ws remainder 2,900, last stamp 119, ten values of 48,000 W. -/
def incomer : State :=
  { boardRun with
      meter := { blankMeter with
        channels := blankMeter.channels.set 0
          { readingChannel with
              stamp := some 119, power := some 48000, ws := 2900, window := List.replicate 10 48000 } } }

/-- A reading for channel 0 with its check. -/
def reading (stamp power : Nat) : Instr :=
  let l := be1 0 ++ be1 stamp ++ be4 power
  .meterReading (165#8 :: l ++ [0#8 - l.foldl (· + ·) 0#8])

theorem test_worked_gap :
    (run incomer [reading 120 48250, reading 121 48610, reading 125 47900]).map (fun t =>
      ((t.channel 0).ws, (t.channel 0).wh, sumOf (t.channel 0).window, t.output,
        t.boardBill.table.map Entry.incomer)) = some (1890, 81, 482590, 482, [121]) := by decide

theorem test_worked_gap_beyond_five :
    (run incomer [reading 120 48250, reading 121 48610, reading 130 47900]).map (fun t => (t.channel 0).unmetered) =
      some 3 := by decide

/-- 07, worked interpolation: 12,160 µA is 612 mm, 100,460 cl. -/
def tank4 : Image :=
  { blankImage with
      span := some 1200, strapCount := some 6
      strap := [(50, 0), (300, 42000), (600, 98000), (700, 118500), (1100, 190000), (1200, 200000)].map
        (fun p => some { level := p.1, volume := p.2 }) }

theorem test_worked_interpolation :
    levelOf tank4 12160 = 612 ∧ volumeAt 612 tank4.table = 100460 ∧ tank4.fullVolume = 200000 := by decide

/-- 08, worked delivery: the verdict of docket 318 of bowser 25. -/
def set4 : State :=
  { setRun with
      image := { tank4 with station := some 4, role := some .set, rated := some 1000 }
      tank := { blankTank with mode := .live, reported := 170600, inletPulses := 24303500, burnPulses := 15018500 }
      delivery := { blankDelivery with
        session := some
          { tanker := some 25, docket := some 318, dispensed := some 120000
            anchor := { time := 1000, inlet := 2310000, burn := 1500000, content := 52400, mode := .live }
            phase := .settling, quiet := 0, settle := 60 } } }

theorem test_worked_delivery :
    (run set4 [.settleTimerExpiry]).map (fun t => (t.delivery.last, t.line.queue)) =
      some (some { tanker := 25, docket := 318, meterCheck := 0, levelCheck := 0, inlet := 120350, rise := 118200 },
        [newFrame 25 (.deliverResult 318 0 0 120350 118200)]) := by decide +kernel

/-- 08, worked delivery: its record ends in the meter check OK, second in the table of R141 (R195). -/
theorem test_worked_delivery_record_codes_its_check :
    (run set4 [.settleTimerExpiry]).map (fun t =>
      t.records.queue.getLast?.bind (fun r => (bodyBytes r.body).getLast?)) = some (some 1#8) ∧
    [meterNoDocket, meterOk, meterMismatch].map deliveryMeterCode = [0, 1, 2] := by decide +kernel

/-- 09, worked apportionment: period 52 with two claims. -/
def set4Closed : State :=
  { setRun with
      setBill := { setRun.setBill with
        closed := some { period := 52, fuel := 3917, energy := 150040, run := 3600, idle := 140, interrupted := false }
        window := some 20
        claims := [{ board := 11, energy := 82500 }, { board := 12, energy := 61210 }] } }

theorem test_worked_apportionment :
    (run set4Closed [.claimWindowEnd]).map (fun t => (t.line.queue, t.records.queue.getLast?.map Record.body)) =
      some ([newFrame 11 (.allot 52 2153 0), newFrame 12 (.allot 52 1597 0)],
        some (.settleSet
          { period := 52, interrupted := false, run := 3600, idle := 140, fuel := 3917, energy := 150040
            claims := [{ board := 11, energy := 82500, share := 2153 }, { board := 12, energy := 61210, share := 1597 }]
            allotted := 3750, retained := 167, late := 0 })) := by decide

/-- 09, worked split: house, then accounts 1 to 3. -/
theorem test_worked_split : splitShares 2153 [5100, 40100, 25300, 12000] = [133, 1047, 660, 313] := by decide

/-- 01, worked arbitration: start, class 1, sender 11; station 12's field parts from it at sender bit 2. -/
theorem test_worked_arbitration :
    ((newFrame 6 (.take 1 0 1)).bits 11).take 8 = [false, false, true, false, true, false, true, true] ∧
    ((newFrame 6 (.take 1 0 1)).bits 12).take 6 = [false, false, true, false, true, true] ∧
    ((newFrame 0 (.status (.set setRun.setBody))).bits 4).take 2 = [false, true] := by decide

/-- 01, section 1.4: a frame with one bit turned is spoilt. -/
theorem test_turned_bit_is_spoilt :
    (Instr.frameSpoilt (((newFrame 6 (.left 1)).bits 11).modify 20 (fun b => !b))).wellFormed = true := by decide

/-- 01, R5, R17: before bus-free no frame is followed; after it the sender joins the peer table. -/
theorem test_frame_before_bus_free_is_not_followed :
    (run { setRun with line := { setRun.line with phase := .waiting } } [.release foreign]).map State.peers = some [] ∧
    ((run { setRun with line := { setRun.line with phase := .waiting } } [.busFree, .release foreign]).map
      (fun t => t.peers.map Peer.station)) = some [7] := by decide

/-- 11, R197: characters before a sync are skipped, and a reading is taken across two events. -/
theorem test_reading_after_noise_and_in_two_parts :
    (run setRun [.meterReading [1#8, 165#8, 0#8, 10#8], .meterReading [0#8, 0#8, 0#8, 100#8, 146#8]]).map
      (fun t => ((t.channel 0).stamp, (t.channel 0).power, t.meter.linkErrors)) = some (some 10, some 100, 0) := by decide

/-- 11, R197: a sync that ends a reading begins the next one. -/
theorem test_the_ending_character_begins_a_reading :
    (run setRun [.meterReading [165#8, 0#8], .meterReadingTimeout, .meterReading [165#8]]).map
      (fun t => (t.meter.link, t.meter.linkErrors)) = some ([165#8], 1) := by decide

/-- 03, R46: a good reading into which a warm restart falls is neither taken nor counted; the next one is taken. -/
theorem test_reading_straddling_a_restart :
    (run setRun [.meterReading [165#8, 0#8, 10#8, 0#8], .warmRestart [],
      .meterReading [0#8, 0#8, 165#8, 81#8], .meterReading [165#8]]).map
        (fun t => ((t.channel 0).stamp, t.meter.linkErrors, t.meter.link, t.meter.linkOld)) =
      some (none, 0, [165#8], false) := by decide

/-- 09, R156, R158: an entry whose period a CLAIMED one of its set holds opens unbound. -/
theorem test_no_period_is_given_twice :
    (run (boardTurned .claimed) [.close (closeOf 0#8)]).map
      (fun t => t.boardBill.table.map (fun e => (e.period, e.state))) =
      some [(3, .claimed), (4, .claimed), (0, .current)] := by decide

/-- 10, R181, R182: a latch set while main supply is off names BACKUP, and one lost by a deeper fall CHECK. -/
theorem test_causes_of_a_lost_retention :
    (run setRun [.mainSupplyLoss, .backupBelowThreshold, .powerUp true]).map State.records = some (lostRecords .backup) ∧
    (run setRun [.mainSupplyLoss, .backupBelowThreshold, .powerUp false]).map State.records = some (lostRecords .check) := by
  decide

/-- 06, R97, R102: a DRY of the target that feeds the stage sets the note and abandons the candidate. -/
theorem test_dry_of_a_feeding_target_abandons_it :
    (run { boardMoved none with peers := boardSeeks.peers, chg := { boardSeeks.chg with ticket := 7 } } [.dry dryOf6]).map
      (fun t => (t.chg.dryNote, t.line.queue.map (fun f => (f.dest, f.body)))) =
      some (some 6, [(6, .release 7), (7, .take 8 100 1)]) := by decide

/-- 04, R49: a second does not cut a pulse short. -/
theorem test_pulse_outlasts_the_second :
    (run { setRun with pulses := { engine := none, breaker := some .brkClose } } [.localSecond aSecond]).map State.pulses =
      some { engine := none, breaker := some .brkClose } := by decide

end Sys2Proof.Tests
end

section
/-! SUPPORT and the proof of O59. ACK_FAULT: who may give it, which entries it names, and what the fault list becomes (R64,
R65, R187). -/

namespace Sys2Proof.Machine

/-! ### Fault codes (section 11.7) -/

theorem faultOf_faultCode (c : FaultClass) : faultOf (faultCode c) = some c := by cases c <;> rfl

theorem faultCode_ne_ackAll (c : FaultClass) : faultCode c ≠ ackAll := by cases c <;> decide

theorem faultOf_of_beyond {n : Nat} (h : 7 < n) : faultOf n = none := by
  unfold faultOf
  split
  case h_9 => rfl
  all_goals omega

theorem listed_iff {s : State} {c : FaultClass} : s.listed c = true ↔ ∃ e ∈ s.duty.faults, e.cls = c := by
  simp [State.listed]

/-! ### Entries that leave the fault list (R64) -/

/-- A STATUS goes out exactly where the list has become shorter. -/
theorem dropSettled_eq (s : State) :
    dropSettled s =
      let kept := { s with duty := { s.duty with faults := s.duty.faults.filter FaultEntry.stays } }
      if kept.duty.faults.length = s.duty.faults.length then kept else postStatus kept :=
  ite_congr (propext (List.all_eq_true.trans List.length_filter_eq_length_iff.symm)) (fun _ => rfl) (fun _ => rfl)

theorem dropSettled_duty (s : State) :
    (dropSettled s).duty = { s.duty with faults := s.duty.faults.filter FaultEntry.stays } := by
  unfold dropSettled
  split <;> rfl

theorem dropSettled_inputs (s : State) : (dropSettled s).inputs = s.inputs := by
  unfold dropSettled
  split <;> rfl

/-! ### Entries acknowledged (R65) -/

/-- Acknowledging marks the entries named, after which the list is shorter only by those that are GONE and acknowledged. -/
theorem acknowledge_eq (s : State) (which : FaultEntry → Bool) :
    acknowledge s which =
      let faults := (s.duty.faults.map (fun e => if which e then { e with acked := true } else e)).filter
        (fun e => e.present || !e.acked)
      let kept := { s with duty := { s.duty with faults := faults } }
      if faults.length = s.duty.faults.length then kept else postStatus kept := by
  rw [acknowledge, dropSettled_eq]
  simp only [List.length_map]
  rfl

/-- Of the duty controller, acknowledging changes the fault list alone. -/
theorem acknowledge_duty (s : State) (which : FaultEntry → Bool) :
    ∃ faults, (acknowledge s which).duty = { s.duty with faults := faults } :=
  ⟨_, dropSettled_duty _⟩

theorem acknowledge_inputs (s : State) (which : FaultEntry → Bool) : (acknowledge s which).inputs = s.inputs :=
  dropSettled_inputs _

/-- Acknowledging touches no condition, input or command, so nothing is left to settle after it. -/
theorem acknowledge_settled {s : State} (h : s.Settled) (which : FaultEntry → Bool) : (acknowledge s which).Settled := by
  obtain ⟨faults, hd⟩ := acknowledge_duty s which
  exact h.of_same (by rw [hd]) (acknowledge_inputs s which) (by rw [hd]) (by rw [hd]; exact id) (.inl (by rw [hd]))

theorem dutyEvent_acknowledge {s : State} (ha : s.awake = true) (hr : s.runs .set = true) (hs : s.Settled)
    (which : FaultEntry → Bool) : dutyEvent s (fun t => acknowledge t which) = acknowledge s which := by
  rw [dutyEvent_of_runs ha hr, (acknowledge_settled hs which).settle]

/-! ### What the operand names (R65, section 11.7) -/

theorem ackOf_all_of_empty {s : State} (h : s.duty.faults = []) : ackOf ackAll s = refuse .none s := by
  simp [ackOf, h]

theorem ackOf_all_of_some {s : State} (h : s.duty.faults ≠ []) :
    ackOf ackAll s = accept (dutyEvent s (fun t => acknowledge t (fun _ => true))) := by
  simp [ackOf, h]

theorem ackOf_of_no_class {s : State} {n : Nat} (h : 7 < n) (hn : n < 255) : ackOf n s = refuse .range s := by
  have hall : n ≠ ackAll := Nat.ne_of_lt hn
  simp only [ackOf, if_neg hall, faultOf_of_beyond h]

theorem ackOf_of_unlisted {s : State} {c : FaultClass} (h : s.listed c = false) :
    ackOf (faultCode c) s = refuse .none s := by
  simp [ackOf, faultCode_ne_ackAll, faultOf_faultCode, h]

theorem ackOf_of_listed {s : State} {c : FaultClass} (h : s.listed c = true) :
    ackOf (faultCode c) s = accept (dutyEvent s (fun t => acknowledge t (fun e => e.cls == c))) := by
  simp [ackOf, faultCode_ne_ackAll, faultOf_faultCode, h]

/-! ### Who may give ACK_FAULT (R187) -/

/-- The port takes the command: its reply stands in the buffer of the state that its rules leave. -/
theorem exec_ackFault_of_answer {s : State} (h : s.listens) {n : Byte} {a : Answer} (ha : ackFaultAct [n] s = a) :
    exec (.ackFault [n]) s = .next (a.state.replied 9 a.code a.payload) := by
  obtain ⟨hawake, hready⟩ := h
  have hx : exec (.ackFault [n]) s = .next (takeCommand 9 (ackFaultAct [n]) s) := rfl
  rw [hx, takeCommand_of_ready hawake hready, ha]
  rfl

theorem ackFaultAct_of_unconfigured {s : State} (h : s.station = .unconfigured) (n : Byte) :
    ackFaultAct [n] s = refuse .state s := by
  simp [ackFaultAct, inRun, h]

theorem ackFaultAct_of_other_role {s : State} (h : s.station = .run) (hr : s.image.role ≠ some .set) (n : Byte) :
    ackFaultAct [n] s = refuse .role s := by
  simp [ackFaultAct, inRun, forRole, h, hr]

theorem ackFaultAct_of_runs {s : State} (h : s.runs .set = true) (n : Byte) :
    ackFaultAct [n] s = ackOf n.toNat s := by
  obtain ⟨hrun, hset⟩ := runs_iff.mp h
  simp [ackFaultAct, inRun, forRole, hrun, hset]

/-- A SET in RUN that accepts ACK_FAULT replies OK, and is otherwise as the entries acknowledged leave it. -/
theorem exec_ackFault_acknowledges {s : State} (h : s.listens) (hr : s.runs .set = true) (hs : s.Settled) {n : Byte}
    {which : FaultEntry → Bool} (ha : ackOf n.toNat s = accept (dutyEvent s (fun t => acknowledge t which))) :
    exec (.ackFault [n]) s = .next ((acknowledge s which).replied 9 .ok []) := by
  rw [exec_ackFault_of_answer h ((ackFaultAct_of_runs hr n).trans ha), accept, dutyEvent_acknowledge h.1 hr hs]

/-- A SET in RUN that refuses ACK_FAULT changes nothing but the reply (R189). -/
theorem exec_ackFault_refuses {s : State} (h : s.listens) (hr : s.runs .set = true) {n : Byte} {c : ReplyCode}
    (ha : ackOf n.toNat s = refuse c s) : exec (.ackFault [n]) s = .next (s.replied 9 c []) :=
  exec_ackFault_of_answer h ((ackFaultAct_of_runs hr n).trans ha)

/-- Settles O59, by the refusals of R187 and, in a SET in RUN, by what the operand names. -/
theorem ackFaultAcknowledgesEntries : Obligations.AckFaultAcknowledgesEntries := by
  intro s n hl
  refine ⟨fun hu => exec_ackFault_of_answer hl (ackFaultAct_of_unconfigured hu n),
    fun hrun hrole => exec_ackFault_of_answer hl (ackFaultAct_of_other_role hrun hrole n), fun hr hs => ?_⟩
  refine ⟨fun hn he => ?_, fun hn he => ?_, fun hlo hhi => ?_, fun c hn => ⟨fun he => ?_, fun he => ?_⟩⟩
  · exact exec_ackFault_refuses hl hr (by rw [hn]; exact ackOf_all_of_empty he)
  · rw [exec_ackFault_acknowledges hl hr hs (by rw [hn]; exact ackOf_all_of_some he), acknowledge_eq]
  · exact exec_ackFault_refuses hl hr (ackOf_of_no_class hlo hhi)
  · have hc : s.listed c = false := Bool.eq_false_iff.mpr (by simpa [listed_iff] using he)
    exact exec_ackFault_refuses hl hr (by rw [hn]; exact ackOf_of_unlisted hc)
  · rw [exec_ackFault_acknowledges hl hr hs (by rw [hn]; exact ackOf_of_listed (listed_iff.mpr he)), acknowledge_eq]

end Sys2Proof.Machine
end

section
/-! SUPPORT and the proof of O45. What a SET does with a tanker's DELIVER_OPEN and DOCKET: a lemma per row of R135 and of
R138, and then the two frames as they come off the line. -/

namespace Sys2Proof.Machine

/-! ### DELIVER_OPEN, by the session held (R135) -/

theorem deliverOpenFrame_zero (s : State) (tanker : Nat) : deliverOpenFrame s tanker 0 = s := rfl

theorem deliverOpenFrame_of_no_session {s : State} (hs : s.delivery.session = none) {docket : Nat} (hd : docket ≠ 0)
    (tanker : Nat) :
    deliverOpenFrame s tanker docket =
      post { s with
        delivery := { s.delivery with
          watch := none
          session := some (openedOn ((s.delivery.watch.map Watch.anchor).getD (anchorNow s)) (some tanker) (some docket)) } }
        tanker (.deliverAck docket ackReady) := by
  simp [deliverOpenFrame, hd, hs]

/-- The session of this tanker and docket: a repeat. -/
theorem deliverOpenFrame_of_own {s : State} {x : Session} (hs : s.delivery.session = some x) {tanker docket : Nat}
    (hd : docket ≠ 0) (ht : x.tanker = some tanker) (hx : x.docket = some docket) :
    deliverOpenFrame s tanker docket = post s tanker (.deliverAck docket ackReady) := by
  simp [deliverOpenFrame, hd, hs, ht, hx]

theorem deliverOpenFrame_of_announced_other {s : State} {x : Session} (hs : s.delivery.session = some x)
    {tanker docket : Nat} (hd : docket ≠ 0) (ha : x.tanker ≠ none)
    (ho : x.tanker ≠ some tanker ∨ x.docket ≠ some docket) :
    deliverOpenFrame s tanker docket = post s tanker (.deliverAck docket ackBusy) := by
  have hn : ¬ (x.tanker = some tanker ∧ x.docket = some docket) := fun ⟨ht, hx⟩ => ho.elim (· ht) (· hx)
  simp only [deliverOpenFrame, if_neg hd, hs, if_neg ha, if_neg hn]

/-- An unannounced session still OPEN: adopted. -/
theorem deliverOpenFrame_of_unannounced_opened {s : State} {x : Session} (hs : s.delivery.session = some x)
    {docket : Nat} (hd : docket ≠ 0) (ha : x.tanker = none) (hp : x.phase = .opened) (tanker : Nat) :
    deliverOpenFrame s tanker docket =
      post (setSession s (some { x with tanker := some tanker, docket := some docket })) tanker
        (.deliverAck docket ackReady) := by
  simp only [deliverOpenFrame, if_neg hd, hs, if_pos ha, if_pos hp]

theorem deliverOpenFrame_of_unannounced_beyond {s : State} {x : Session} (hs : s.delivery.session = some x)
    {docket : Nat} (hd : docket ≠ 0) (ha : x.tanker = none) (hp : x.phase ≠ .opened) (tanker : Nat) :
    deliverOpenFrame s tanker docket = post s tanker (.deliverAck docket ackBusy) := by
  simp only [deliverOpenFrame, if_neg hd, hs, if_pos ha, if_neg hp]

/-! ### DOCKET, by the session and the last result (R138) -/

theorem isOf_iff {x : Session} {tanker docket : Nat} :
    x.isOf tanker docket = true ↔ x.tanker = some tanker ∧ x.docket = some docket := by
  simp [Session.isOf]

theorem docketFrame_zero (s : State) (tanker dispensed : Nat) : docketFrame s tanker 0 dispensed = s := rfl

theorem docketFrame_of_own_counting {s : State} {x : Session} (hs : s.delivery.session = some x) {tanker docket : Nat}
    (hd : docket ≠ 0) (ho : x.isOf tanker docket = true) (hp : x.phase ≠ .settling) (dispensed : Nat) :
    docketFrame s tanker docket dispensed =
      setSession s (some { x with dispensed := some dispensed, phase := .settling, settle := 0 }) := by
  simp only [docketFrame, if_neg hd, hs, if_pos ho, if_neg hp]

/-- A session that settles, with a docket or without, takes no figure any more. -/
theorem docketFrame_of_own_settling {s : State} {x : Session} (hs : s.delivery.session = some x) {tanker docket : Nat}
    (ho : x.isOf tanker docket = true) (hp : x.phase = .settling) (dispensed : Nat) :
    docketFrame s tanker docket dispensed = s := by
  simp [docketFrame, hs, ho, hp]

theorem docketFrame_of_no_own {s : State} {tanker docket : Nat} (hd : docket ≠ 0)
    (hn : ¬ ∃ x, s.delivery.session = some x ∧ x.tanker = some tanker ∧ x.docket = some docket) (dispensed : Nat) :
    docketFrame s tanker docket dispensed = answerDocket s tanker docket := by
  cases hs : s.delivery.session with
  | none => simp only [docketFrame, if_neg hd, hs]
  | some x =>
    have ho : ¬ x.isOf tanker docket = true := fun h => hn ⟨x, hs, isOf_iff.mp h⟩
    simp only [docketFrame, if_neg hd, hs, if_neg ho]

theorem answerDocket_of_last {s : State} {l : LastResult} (hl : s.delivery.last = some l) {tanker docket : Nat}
    (ht : l.tanker = tanker) (hd : l.docket = docket) :
    answerDocket s tanker docket = post s tanker (.deliverResult docket l.meterCheck l.levelCheck l.inlet l.rise) := by
  simp [answerDocket, hl, ht, hd]

theorem answerDocket_of_no_last {s : State} {tanker docket : Nat}
    (hn : ∀ l, s.delivery.last = some l → l.tanker ≠ tanker ∨ l.docket ≠ docket) :
    answerDocket s tanker docket = post s tanker (.deliverResult docket meterUnknownDocket levelUnavailable 0 0) := by
  cases hl : s.delivery.last with
  | none => simp only [answerDocket, hl]
  | some l =>
    have ho : ¬ (l.tanker = tanker ∧ l.docket = docket) := fun ⟨ht, hd⟩ => (hn l hl).elim (· ht) (· hd)
    simp only [answerDocket, hl, if_neg ho]

/-! ### The frames off the line -/

theorem anchorNow_heard (s : State) (f : RxFrame) : anchorNow (s.heard f) = anchorNow s := by simp [anchorNow]

theorem setSession_heard (s : State) (f : RxFrame) (x : Option Session) :
    setSession (s.heard f) x = { s.heard f with delivery := { s.delivery with session := x } } := by
  rw [setSession, heard_delivery]

theorem exec_deliverOpen_of_takes {s : State} {f : RxFrame} (h : s.Takes f) (hr : s.image.role = some .set)
    {d1 d0 : Byte} {rest : List Byte} (hb : f.body = d1 :: d0 :: rest) :
    exec (.deliverOpen f) s = .next (deliverOpenFrame (s.heard f) f.sender (rd2 d1 d0)) := by
  have hx : exec (.deliverOpen f) s = .next (receive (kindByte .deliverOpen) f s) := rfl
  have hp : parseBody .deliverOpen f.body = some (.deliverOpen (rd2 d1 d0)) := by rw [hb]; rfl
  rw [hx, receive_of_takes h (by decide) hp, deliver, (deliver_to_set h hr _).2]

theorem exec_docket_of_takes {s : State} {f : RxFrame} (h : s.Takes f) (hr : s.image.role = some .set)
    {d1 d0 f3 f2 f1 f0 : Byte} {more : List Byte} (hb : f.body = d1 :: d0 :: f3 :: f2 :: f1 :: f0 :: more) :
    exec (.docket f) s = .next (docketFrame (s.heard f) f.sender (rd2 d1 d0) (rd4 f3 f2 f1 f0)) := by
  have hx : exec (.docket f) s = .next (receive (kindByte .docket) f s) := rfl
  have hp : parseBody .docket f.body = some (.docket (rd2 d1 d0) (rd4 f3 f2 f1 f0)) := by rw [hb]; rfl
  rw [hx, receive_of_takes h (by decide) hp, deliver, (deliver_to_set h hr _).2]

/-- Settles O45, row by row: hearing the frame leaves the delivery unit and the figures as they were, so each row is read
off the session and the last result held before it. -/
theorem setAnswersTheTanker : Obligations.SetAnswersTheTanker := by
  intro s f d1 d0 rest ht hr hb
  have hdel : (s.heard f).delivery = s.delivery := heard_delivery s f
  have hopen := exec_deliverOpen_of_takes ht hr hb
  refine ⟨fun hn => ?_, fun hn hs => ?_, fun x hn hs => ⟨fun hx hd => ?_, fun ha ho => ?_, fun ha hp => ?_, fun ha hp => ?_⟩,
    fun f3 f2 f1 f0 more hrest => ?_⟩
  · rw [hopen, hn, deliverOpenFrame_zero]
  · rw [hopen, deliverOpenFrame_of_no_session (hdel ▸ hs) hn, anchorNow_heard, hdel]
    rfl
  · rw [hopen, deliverOpenFrame_of_own (hdel ▸ hs) hn hx hd]
  · rw [hopen, deliverOpenFrame_of_announced_other (hdel ▸ hs) hn ha ho]
  · rw [hopen, deliverOpenFrame_of_unannounced_opened (hdel ▸ hs) hn ha hp, setSession_heard]
  · rw [hopen, deliverOpenFrame_of_unannounced_beyond (hdel ▸ hs) hn ha (by simp [hp])]
  · have hdocket := exec_docket_of_takes ht hr (hb.trans (by rw [hrest]))
    refine ⟨fun hn => ?_, fun x hn hs hx hd => ⟨fun hp => ?_, fun hp => ?_⟩, fun l hn ho hl hlt hld => ?_,
      fun hn ho hl => ?_⟩
    · rw [hdocket, hn, docketFrame_zero]
    · have hcounting : x.phase ≠ .settling := by rcases hp with hp | hp <;> simp [hp]
      rw [hdocket, docketFrame_of_own_counting (hdel ▸ hs) hn (isOf_iff.mpr ⟨hx, hd⟩) hcounting, setSession_heard]
    · rw [hdocket, docketFrame_of_own_settling (hdel ▸ hs) (isOf_iff.mpr ⟨hx, hd⟩) hp]
    · rw [hdocket, docketFrame_of_no_own hn (hdel ▸ ho), answerDocket_of_last (hdel ▸ hl) hlt hld]
    · rw [hdocket, docketFrame_of_no_own hn (hdel ▸ ho), answerDocket_of_no_last (hdel ▸ hl)]

end Sys2Proof.Machine
end

section
/-! SUPPORT and the proof of O26. What a SET does with a board's CLAIM: a lemma per row of R151, and then the frame as it
comes off the line. -/

namespace Sys2Proof.Machine

/-! ### The late-claim count (R148) -/

theorem countLate_of_below_top {s : State} (h : s.setBill.late < 65535) :
    countLate s = { s with setBill := { s.setBill with late := s.setBill.late + 1 } } := by
  have hl : s.setBill.late + 1 < 65536 := Nat.succ_lt_succ h
  simp only [countLate, countOn16, freeAfter, if_pos hl]

/-! ### A claim for the closed period (R151, first three rows) -/

theorem claimsOpen_iff {s : State} {period : Nat} :
    s.claimsOpen period = true ↔
      s.setBill.window ≠ none ∧ ∃ c, s.setBill.closed = some c ∧ c.period = period := by
  simp [State.claimsOpen, Option.isSome_iff_ne_none, Option.any_eq_true]

theorem claims_any_iff {claims : List Claim} {board : Nat} :
    claims.any (fun c => c.board == board) = true ↔ ∃ c ∈ claims, c.board = board := by
  simp

theorem listClaim_of_listed {s : State} {board : Nat} (h : ∃ c ∈ s.setBill.claims, c.board = board)
    (period energy : Nat) :
    listClaim s board period energy = { s with
      setBill := { s.setBill with
        claims := s.setBill.claims.map (fun c => if c.board = board then { c with energy := energy } else c) } } := by
  simp only [listClaim, if_pos (claims_any_iff.mpr h)]

theorem listClaim_of_room {s : State} {board : Nat} (h : ¬ ∃ c ∈ s.setBill.claims, c.board = board)
    (hr : s.setBill.claims.length < 16) (period energy : Nat) :
    listClaim s board period energy = { s with
      setBill := { s.setBill with claims := s.setBill.claims ++ [{ board := board, energy := energy }] } } := by
  simp only [listClaim, if_neg (mt claims_any_iff.mp h), if_pos hr]

theorem listClaim_of_full {s : State} {board : Nat} (h : ¬ ∃ c ∈ s.setBill.claims, c.board = board)
    (hf : 16 ≤ s.setBill.claims.length) (period energy : Nat) :
    listClaim s board period energy = countLate (post s board (.allot period 0 allotFull)) := by
  simp only [listClaim, if_neg (mt claims_any_iff.mp h), if_neg (Nat.not_lt.mpr hf)]

theorem claimFrame_of_open {s : State} {period : Nat} (h : s.claimsOpen period = true) (board energy : Nat) :
    claimFrame s board period energy = listClaim s board period energy := by
  simp only [claimFrame, if_pos h]

/-! ### A claim for another period (R151, last three rows) -/

theorem claimFrame_of_share {s : State} {period : Nat} (h : ¬ s.claimsOpen period = true) {l : LastAllotments}
    (hl : s.setBill.last = some l) (hp : l.period = period) {board : Nat} {x : Nat × Nat}
    (hx : l.shares.find? (fun y => y.1 == board) = some x) (energy : Nat) :
    claimFrame s board period energy = post s board (.allot period x.2 allotAllotted) := by
  simp only [claimFrame, if_neg h, hl, if_pos hp, hx]

theorem claimFrame_of_no_share {s : State} {period : Nat} (h : ¬ s.claimsOpen period = true) {l : LastAllotments}
    (hl : s.setBill.last = some l) (hp : l.period = period) {board : Nat} (hn : ∀ x ∈ l.shares, x.1 ≠ board)
    (energy : Nat) :
    claimFrame s board period energy = countLate (post s board (.allot period 0 allotLate)) := by
  have hx : l.shares.find? (fun y => y.1 == board) = none := List.find?_eq_none.mpr (by simpa using hn)
  simp only [claimFrame, if_neg h, hl, if_pos hp, hx]

theorem claimFrame_of_stale {s : State} {period : Nat} (h : ¬ s.claimsOpen period = true)
    (hn : ∀ l, s.setBill.last = some l → l.period ≠ period) (board energy : Nat) :
    claimFrame s board period energy = post s board (.allot period 0 allotStale) := by
  cases hl : s.setBill.last with
  | none => simp only [claimFrame, if_neg h, hl]
  | some l => simp only [claimFrame, if_neg h, hl, if_neg (hn l hl)]

/-! ### The frame off the line -/

theorem exec_claim_of_takes {s : State} {f : RxFrame} (h : s.Takes f) (hr : s.image.role = some .set)
    {p1 p0 e3 e2 e1 e0 a : Byte} {rest : List Byte} (hb : f.body = p1 :: p0 :: e3 :: e2 :: e1 :: e0 :: a :: rest) :
    exec (.claim f) s = .next (claimFrame (s.heard f) f.sender (rd2 p1 p0) (rd4 e3 e2 e1 e0)) := by
  have hx : exec (.claim f) s = .next (receive (kindByte .claim) f s) := rfl
  have hp : parseBody .claim f.body = some (.claim (rd2 p1 p0) (rd4 e3 e2 e1 e0) a.toNat) := by rw [hb]; rfl
  rw [hx, receive_of_takes h (by decide) hp, deliver, (deliver_to_set h hr _).2]

/-- Counting an answer given after hearing a frame: neither the frame nor the answer touches the settlement unit. -/
theorem countLate_post_heard {s : State} (h : s.setBill.late < 65535) (f : RxFrame) (board : Nat) (b : Body) :
    countLate (post (s.heard f) board b) =
      { post (s.heard f) board b with setBill := { s.setBill with late := s.setBill.late + 1 } } := by
  have hbill : (post (s.heard f) board b).setBill = s.setBill := by rw [post_setBill, heard_setBill]
  rw [countLate_of_below_top (hbill ▸ h), hbill]

/-- Settles O26, row by row: hearing the frame leaves the settlement unit as it was, so each row is read off the window,
the claim list and the last allotments held before it. -/
theorem claimIsAnsweredByTheFirstRow : Obligations.ClaimIsAnsweredByTheFirstRow := by
  intro s f p1 p0 e3 e2 e1 e0 a rest ht hr hb
  have hbill : (s.heard f).setBill = s.setBill := heard_setBill s f
  have hclaim := exec_claim_of_takes ht hr hb
  have hopen : (s.heard f).claimsOpen (rd2 p1 p0) = true ↔
      s.setBill.window ≠ none ∧ ∃ c, s.setBill.closed = some c ∧ c.period = rd2 p1 p0 := by
    rw [claimsOpen_iff, hbill]
  refine ⟨fun hin => ?_, fun hout => ?_⟩
  · rw [hclaim, claimFrame_of_open (hopen.mpr hin)]
    refine ⟨fun hlisted => ?_, fun hnew hroom => ?_, fun hnew hfull hlate => ?_⟩
    · rw [listClaim_of_listed (hbill ▸ hlisted), hbill]
    · rw [listClaim_of_room (hbill ▸ hnew) (hbill ▸ hroom), hbill]
    · rw [listClaim_of_full (hbill ▸ hnew) (hbill ▸ hfull), countLate_post_heard hlate]
  · have hshut := mt hopen.mp hout
    rw [hclaim]
    refine ⟨fun l hl hp => ⟨fun x hx => ?_, fun hnone hlate => ?_⟩, fun hstale => ?_⟩
    · rw [claimFrame_of_share hshut (hbill ▸ hl) hp hx]
    · rw [claimFrame_of_no_share hshut (hbill ▸ hl) hp hnone, countLate_post_heard hlate]
    · rw [claimFrame_of_stale hshut (hbill ▸ hstale)]

end Sys2Proof.Machine
end

section
/-! SUPPORT and the proof of O9. What a cold start leaves of the state, and what retention comes to at a power-up (R181,
R182, R183). -/

namespace Sys2Proof.Machine

/-! ### The retained items (R180) -/

theorem State.RetainedAs.trans {s t u : State} (hst : s.RetainedAs t) (htu : t.RetainedAs u) : s.RetainedAs u where
  records := htu.records.trans hst.records
  stationSeconds := htu.stationSeconds.trans hst.stationSeconds
  energy := htu.energy.trans hst.energy
  pulses := by
    obtain ⟨hburn, hinlet, hdispensed⟩ := hst.pulses
    exact hburn ▸ hinlet ▸ hdispensed ▸ htu.pulses
  duty := by
    obtain ⟨hstarts, hseconds⟩ := hst.duty
    exact hstarts ▸ hseconds ▸ htu.duty
  periods := by
    obtain ⟨hopened, hclosed⟩ := hst.periods
    exact hopened ▸ hclosed ▸ htu.periods
  table := htu.table.trans hst.table
  ticket := htu.ticket.trans hst.ticket
  tanker := by
    obtain ⟨hnext, hfigure, hanchor⟩ := hst.tanker
    exact hnext ▸ hfigure ▸ hanchor ▸ htu.tanker

/-- The supply, the latch, the check value and the power-up count are not among the items compared. -/
theorem retainedAs_of_supply (s : State) (on doubt check : Bool) (n : Nat) :
    s.RetainedAs { s with powerUps := n, mainOn := on, doubt := doubt, checkAgrees := check } :=
  ⟨rfl, rfl, rfl, ⟨rfl, rfl, rfl⟩, ⟨rfl, rfl⟩, ⟨rfl, rfl⟩, rfl, rfl, ⟨rfl, rfl, rfl⟩⟩

/-! ### Cold start -/

@[simp] theorem coldStart_mainOn (s : State) : (coldStart s).mainOn = s.mainOn := rfl
@[simp] theorem coldStart_resetHeld (s : State) : (coldStart s).resetHeld = false := rfl
@[simp] theorem coldStart_station (s : State) : (coldStart s).station = .unconfigured := rfl
@[simp] theorem coldStart_image (s : State) : (coldStart s).image = blankImage := rfl
@[simp] theorem coldStart_doubt (s : State) : (coldStart s).doubt = s.doubt := rfl
@[simp] theorem coldStart_powerUps (s : State) : (coldStart s).powerUps = s.powerUps := rfl
@[simp] theorem coldStart_records (s : State) : (coldStart s).records = s.records := rfl

/-- A restarted channel keeps its watt-seconds and its watt-hours. -/
theorem restartMeter_energy (m : Metering) :
    (restartMeter m).channels.map (fun c => (c.ws, c.wh)) = m.channels.map (fun c => (c.ws, c.wh)) := by
  rw [restartMeter, List.map_map]
  rfl

theorem coldStart_retains (s : State) : s.RetainedAs (coldStart s) where
  records := rfl
  stationSeconds := rfl
  energy := restartMeter_energy s.meter
  pulses := ⟨rfl, rfl, rfl⟩
  duty := ⟨rfl, rfl⟩
  periods := ⟨rfl, rfl⟩
  table := rfl
  ticket := rfl
  tanker := ⟨rfl, rfl, rfl⟩

/-! ### Retention judged (R182) -/

theorem judgeRetention_of_doubt {s : State} (h : s.doubt = true) : judgeRetention s = loseRetention s .backup := by
  simp [judgeRetention, h]

theorem judgeRetention_of_check_failed {s : State} (hd : s.doubt = false) (hc : s.checkAgrees = false) :
    judgeRetention s = loseRetention s .check := by
  simp [judgeRetention, hd, hc]

theorem judgeRetention_of_good {s : State} (hd : s.doubt = false) (hc : s.checkAgrees = true) :
    judgeRetention s = { s with powerUps := min 65535 (s.powerUps + 1) } := by
  simp [judgeRetention, hd, hc, incTo]

@[simp] theorem loseRetention_powerUps (s : State) (c : LossCause) : (loseRetention s c).powerUps = 0 := rfl
@[simp] theorem loseRetention_records (s : State) (c : LossCause) : (loseRetention s c).records = lostRecords c := rfl

/-! ### POWER_UP and RESET_PIN -/

/-- A power-up that finds its latch kept is the judgement, then a cold start with the latch cleared and the check in
order. -/
theorem exec_powerUp_kept {s : State} (h : s.mainOn = false) :
    exec (.powerUp true) s =
      .next (coldStart { judgeRetention s with mainOn := true, doubt := false, checkAgrees := true }) := by
  have hx : exec (.powerUp true) s = .next (powerUp true s) := rfl
  simp [hx, powerUp, h]

theorem exec_resetPin_of_supplied {s : State} (h : s.mainOn = true) : exec .resetPin s = .next (coldStart s) := by
  have hx : exec .resetPin s = .next (releaseReset s) := rfl
  rw [hx, releaseReset, if_pos h]

/-- Settles O9: a power-up is a cold start of what the judgement leaves, and a RESET pin cold start one of the state as it
stands. -/
theorem coldStartsJudgeRetention : Obligations.ColdStartsJudgeRetention := by
  refine ⟨fun s hoff => ⟨_, exec_powerUp_kept hoff, coldStart_mainOn _, coldStart_doubt _, coldStart_station _,
      coldStart_image _, fun hd hc => ?good, fun hd => ?doubt, fun hd hc => ?check⟩,
    fun s hon => ⟨_, exec_resetPin_of_supplied hon, coldStart_station s, coldStart_image s, coldStart_resetHeld s,
      coldStart_retains s, coldStart_powerUps s, coldStart_doubt s⟩⟩
  case good =>
    rw [judgeRetention_of_good hd hc]
    exact ⟨(retainedAs_of_supply s true false true _).trans (coldStart_retains _), coldStart_powerUps _⟩
  case doubt => simp [judgeRetention_of_doubt hd]
  case check => simp [judgeRetention_of_check_failed hd hc]

end Sys2Proof.Machine
end

section
/-! SUPPORT and the proof of O55. REMOVE_RECORD: what it finds at the head of the queue, and the attention line after it
(R179, R193). -/

namespace Sys2Proof.Machine

/-! ### A command taken (R186, R187) -/

/-- The reply to a command taken stands in the buffer of the state that its rules leave. -/
theorem takeCommand_of_listens {s : State} (h : s.listens) (n : Nat) (act : State → Answer) :
    takeCommand n act s = (act s).state.replied n (act s).code (act s).payload := by
  obtain ⟨hawake, hready⟩ := h
  exact takeCommand_of_ready hawake hready n act

theorem exec_removeRecord_of_listens {s : State} (h : s.listens) (a b : Byte) :
    exec (.removeRecord [a, b]) s =
      .next ((removeHead (rd2 a b) s).state.replied 7 (removeHead (rd2 a b) s).code (removeHead (rd2 a b) s).payload) := by
  have hx : exec (.removeRecord [a, b]) s = .next (takeCommand 7 (removeHead (rd2 a b)) s) := rfl
  rw [hx, takeCommand_of_listens h]

/-! ### The head of the queue (R179) -/

theorem removeHead_of_empty {s : State} (h : s.records.queue = []) (seq : Nat) : removeHead seq s = refuse .none s := by
  simp only [removeHead, h]

theorem removeHead_of_own {s : State} {r : Record} {rest : List Record} (h : s.records.queue = r :: rest) :
    removeHead r.seq s = accept { s with records := { s.records with queue := rest } } := by
  simp only [removeHead, h, if_true]

theorem removeHead_of_other {s : State} {r : Record} {rest : List Record} (h : s.records.queue = r :: rest) {seq : Nat}
    (hn : seq ≠ r.seq) : removeHead seq s = refuse .sequence s := by
  simp only [removeHead, h, if_neg hn.symm]

/-! ### The attention line (R193) -/

theorem attn_iff {s : State} (h : s.awake = true) :
    s.attn = true ↔ s.records.queue ≠ [] ∨ ∃ e ∈ s.duty.faults, e.acked = false := by
  simp [State.attn, State.unacked, h]

@[simp] theorem replied_attn (s : State) (n : Nat) (c : ReplyCode) (p : List Byte) :
    (s.replied n c p).attn = s.attn := rfl

/-- Settles O55, by what stands at the head of the queue. -/
theorem removeRecordTakesTheHead : Obligations.RemoveRecordTakesTheHead := by
  intro s a b hl
  refine ⟨fun hempty => ?_, fun r rest hq => ⟨fun hseq => ⟨_, ?_, rfl, ?_⟩, fun hseq => ?_⟩⟩
  · rw [exec_removeRecord_of_listens hl, removeHead_of_empty hempty]
    rfl
  · rw [exec_removeRecord_of_listens hl, hseq, removeHead_of_own hq]
    rfl
  · rw [replied_attn]
    exact attn_iff (s := { s with records := { s.records with queue := rest } }) hl.1
  · rw [exec_removeRecord_of_listens hl, removeHead_of_other hq hseq]
    rfl

end Sys2Proof.Machine
end

section
/-! SUPPORT. What each operation of the station leaves unchanged, and that it keeps the queues: the frame of every operation
but the restarts and the line's own, said once, for the invariants and for the statements on single commands. -/

-- One proof after the other: each proof elaborated at the same time takes a thread's stack of the check's memory.
set_option Elab.async false

namespace Sys2Proof.Machine

/-! ### What an operation leaves in order -/

theorem runs_of_same {s t : State} (hs : t.station = s.station) (hi : t.image = s.image) (r : Role) :
    t.runs r = s.runs r := by simp [State.runs, hs, hi]

theorem State.KeptInOrder.of_same {s t : State} (h : s.KeptInOrder) (hi : t.inputs = s.inputs)
    (hm : t.meter.channels.length = s.meter.channels.length) (hl : t.chg.live = s.chg.live)
    (hst : t.station = s.station) (him : t.image = s.image) (hd : t.duty = s.duty) : t.KeptInOrder := by
  refine ⟨hi ▸ h.sixInputs, hm ▸ h.channels, hl ▸ h.positions, ?_, ?_⟩
  · rw [runs_of_same hst him]
    exact fun hr => (h.settled hr).of_same (by rw [hd]) hi (by rw [hd]) (by rw [hd]; exact id) (.inl (by rw [hd]))
  · rw [runs_of_same hst him, hd]
    exact h.noneElsewhere

/-- In a SET in RUN it is enough that the conditions are settled afterwards. -/
theorem State.KeptInOrder.of_settled {t : State} (hi : t.inputs.length = 6) (hm : t.meter.channels.length = 13)
    (hl : t.chg.live.length = 3) (hr : t.runs .set = true) (hs : t.Settled) : t.KeptInOrder :=
  ⟨hi, hm, hl, fun _ => hs, fun hn => absurd hr (by simp [hn])⟩

/-! ### The parts of the station -/

/-- The parts of the station that a frame speaks of. The transmit queue and the record queue are not among them: every block
may post and record. The last eight are aspects that most operations of a block keep although they touch the
parts behind them. -/
inductive Part where
  | mainOn | resetHeld | station | image | inputs | backupGood | doubt | checkAgrees | powerUps | stationSeconds | pulses
  | listenOnly | phase | peers | meter | duty | reservations | chg | tank | delivery | tanker | setBill | boardBill | port
  | free | pending | lists | live | cmdNone | channelCount | claimList | entries
  | order | silence
  deriving DecidableEq

/-- What the invariants ask of an entry of the settlement table. -/
def Entry.key (e : Entry) : Nat × Nat × Nat × EntryState := (e.set, e.pos, e.period, e.state)

/-- What the invariants ask of a reservation. -/
def Reservation.promise (r : Reservation) : Nat × Nat := (r.board, r.load)

/-- No board joins the feed list or the reservation list, and no promise grows. -/
def ListsShrink (d : Duty) (l : List Reservation) (d' : Duty) (l' : List Reservation) : Prop :=
  (d'.feed.map FeedEntry.board).Sublist (d.feed.map FeedEntry.board) ∧
    (l'.map Reservation.promise).Sublist (l.map Reservation.promise)

/-- A listen-only station whose queue is emptied (R14, R15). -/
def LineCtl.Silent (l : LineCtl) : Prop := l.listenOnly = true ∧ l.queue = []

/-- A part is the same in two states, or an aspect of it is kept. -/
def Part.Same : Part → State → State → Prop
  | .mainOn, s, t => t.mainOn = s.mainOn
  | .resetHeld, s, t => t.resetHeld = s.resetHeld
  | .station, s, t => t.station = s.station
  | .image, s, t => t.image = s.image
  | .inputs, s, t => t.inputs = s.inputs
  | .backupGood, s, t => t.backupGood = s.backupGood
  | .doubt, s, t => t.doubt = s.doubt
  | .checkAgrees, s, t => t.checkAgrees = s.checkAgrees
  | .powerUps, s, t => t.powerUps = s.powerUps
  | .stationSeconds, s, t => t.stationSeconds = s.stationSeconds
  | .pulses, s, t => t.pulses = s.pulses
  | .listenOnly, s, t => t.line.listenOnly = s.line.listenOnly
  | .phase, s, t => t.line.phase = s.line.phase
  | .peers, s, t => t.peers = s.peers
  | .meter, s, t => t.meter = s.meter
  | .duty, s, t => t.duty = s.duty
  | .reservations, s, t => t.reservations = s.reservations
  | .chg, s, t => t.chg = s.chg
  | .tank, s, t => t.tank = s.tank
  | .delivery, s, t => t.delivery = s.delivery
  | .tanker, s, t => t.tanker = s.tanker
  | .setBill, s, t => t.setBill = s.setBill
  | .boardBill, s, t => t.boardBill = s.boardBill
  | .port, s, t => t.port = s.port
  | .free, s, t => t.free = s.free
  | .pending, s, t => t.pending = s.pending
  | .lists, s, t => ListsShrink s.duty s.reservations t.duty t.reservations
  | .live, s, t => t.chg.live = s.chg.live
  | .cmdNone, s, t => s.chg.cmd = none → t.chg.cmd = none
  | .channelCount, s, t => t.meter.channels.length = s.meter.channels.length
  | .claimList, s, t => (t.setBill.claims.map Claim.board).Sublist (s.setBill.claims.map Claim.board)
  | .entries, s, t => t.boardBill.table.map Entry.key = s.boardBill.table.map Entry.key
  | .order, s, t => s.KeptInOrder → t.KeptInOrder
  | .silence, s, t => s.line.Silent → t.line.Silent

theorem Part.Same.refl (p : Part) (s : State) : p.Same s s := by
  cases p
  case lists => exact ⟨.refl _, .refl _⟩
  case cmdNone => exact id
  case claimList => exact List.Sublist.refl _
  case order => exact id
  case silence => exact id
  all_goals rfl

theorem Part.Same.trans {p : Part} {s t u : State} (h : p.Same s t) (g : p.Same t u) : p.Same s u := by
  cases p
  case lists => exact ⟨g.1.trans h.1, g.2.trans h.2⟩
  case cmdNone => exact fun hs => g (h hs)
  case claimList => exact List.Sublist.trans g h
  case order => exact fun hs => g (h hs)
  case silence => exact fun hs => g (h hs)
  all_goals exact Eq.trans g h

/-- `t` comes of `s` by operations that touch the given parts alone, beside what they post and record, and that keep the
queues. -/
structure State.Touches (ps : List Part) (s t : State) : Prop where
  same : ∀ p, p ∉ ps → p.Same s t
  queues : s.QueuesFit → t.QueuesFit

/-- Events of a duty controller, with the arbiter's lists. -/
abbrev dutyParts : List Part := [.pulses, .duty, .reservations, .free]
/-- Operations within such an event, which may leave a condition to be settled. -/
abbrev actParts : List Part := [.order, .pulses, .duty, .reservations, .free]
/-- Operations within such an event by which a board may join the feed list or the reservation list. -/
abbrev joinParts : List Part := [.lists, .order, .pulses, .duty, .reservations, .free]
/-- Operations of a tank monitor, with the duty controller that it hands its conditions to. -/
abbrev tankParts : List Part := [.tank, .delivery, .pulses, .duty, .reservations, .free]
/-- Operations of the SET's settlement unit; a period that opens resets the peak of channel 0. -/
abbrev setBillParts : List Part := [.setBill, .meter, .free]
/-- Operations by which a board may join the claim list. -/
abbrev claimParts : List Part := [.claimList, .setBill, .meter, .free]
/-- Operations of a changeover controller that may issue a switch command. -/
abbrev switchParts : List Part := [.chg, .cmdNone]
/-- Operations of a BOARD's settlement unit. -/
abbrev tableParts : List Part := [.boardBill, .entries, .free]
/-- Operations of the metering unit, with the blocks that it hands its seconds and notices to. -/
abbrev meterParts : List Part := [.meter, .boardBill, .pulses, .duty, .reservations, .free]

namespace State.Touches

variable {ps qs : List Part} {s t u : State}

theorem refl (ps : List Part) (s : State) : s.Touches ps s := ⟨fun p _ => .refl p s, id⟩

theorem trans (h : s.Touches ps t) (g : t.Touches ps u) : s.Touches ps u :=
  ⟨fun p hp => (h.same p hp).trans (g.same p hp), g.queues ∘ h.queues⟩

theorem mono (h : s.Touches ps t) (hq : ps ⊆ qs) : s.Touches qs t :=
  ⟨fun p hp => h.same p (fun hm => hp (hq hm)), h.queues⟩

/-- An operation of fewer parts carries on. -/
theorem andThen (h : s.Touches qs t) (g : t.Touches ps u) (hq : ps ⊆ qs) : s.Touches qs u := h.trans (g.mono hq)

theorem ite {c : Prop} [Decidable c] (h : s.Touches ps t) (g : s.Touches ps u) :
    s.Touches ps (if c then t else u) := by
  split
  · exact h
  · exact g

/-- A fold of operations of the same parts. -/
theorem foldl {α : Type} {f : State → α → State} (hf : ∀ (v : State) x, v.Touches ps (f v x)) (h : s.Touches ps t) (l : List α) :
    s.Touches ps (l.foldl f t) := by
  induction l generalizing t with
  | nil => exact h
  | cons x l ih => exact ih (h.trans (hf t x))

end State.Touches

/-! ### The queues -/

theorem QueuesFit_iff {s : State} :
    s.QueuesFit ↔ (s.line.queue.length ≤ txCap ∧ s.line.queue.Pairwise (fun f g => f.cls ≤ g.cls) ∧
      (s.line.queue.filter TxFrame.isStatus).length ≤ 1) ∧ s.records.queue.length ≤ queueCap :=
  ⟨fun h => ⟨⟨h.frames, h.ordered, h.oneStatus⟩, h.records⟩, fun ⟨⟨h1, h2, h3⟩, h4⟩ => ⟨h1, h2, h3, h4⟩⟩

/-- The queues of a station fit as its lines and records do. -/
theorem State.QueuesFit.of_same {s t : State} (h : s.QueuesFit) (hl : t.line.queue = s.line.queue)
    (hr : t.records.queue = s.records.queue) : t.QueuesFit :=
  ⟨hl ▸ h.frames, hl ▸ h.ordered, hl ▸ h.oneStatus, hr ▸ h.records⟩

/-- Whatever part of the queue stays, it fits. -/
theorem State.QueuesFit.of_sublist {s t : State} (h : s.QueuesFit) (hl : t.line.queue.Sublist s.line.queue)
    (hr : t.records.queue.length ≤ queueCap) : t.QueuesFit :=
  ⟨Nat.le_trans hl.length_le h.frames, h.ordered.sublist hl, Nat.le_trans (hl.filter _).length_le h.oneStatus, hr⟩

theorem filter_isStatus_queueInsert (f : TxFrame) (q : List TxFrame) :
    ((queueInsert f q).filter TxFrame.isStatus).length =
      (q.filter TxFrame.isStatus).length + if f.isStatus then 1 else 0 := by
  induction q with
  | nil => cases h : f.isStatus <;> simp [queueInsert, h]
  | cons g rest ih =>
    unfold queueInsert
    split
    · cases h : g.isStatus
      · simp [h, ih]
      · simp [h, ih]
        omega
    · cases h : f.isStatus <;> simp [List.filter_cons, h]

theorem filter_isStatus_withoutStatus (q : List TxFrame) : (withoutStatus q).filter TxFrame.isStatus = [] := by
  simp [withoutStatus]

theorem acceptFrame_ordered {l : LineCtl} (f : TxFrame) (h : l.queue.Pairwise (fun a b => a.cls ≤ b.cls)) :
    (acceptFrame l f).queue.Pairwise (fun a b => a.cls ≤ b.cls) := by
  have hw : (withoutStatus l.queue).Pairwise (fun a b => a.cls ≤ b.cls) := h.filter _
  unfold acceptFrame
  split
  · split
    · exact queueInsert_ordered hw
    · split
      · exact queueInsert_ordered h
      · exact h
  · split
    · exact queueInsert_ordered h
    · split
      · exact queueInsert_ordered hw
      · exact h

theorem acceptFrame_oneStatus {l : LineCtl} (f : TxFrame) (h : (l.queue.filter TxFrame.isStatus).length ≤ 1) :
    ((acceptFrame l f).queue.filter TxFrame.isStatus).length ≤ 1 := by
  unfold acceptFrame
  split
  · rename_i hf
    split
    · simp [filter_isStatus_queueInsert, filter_isStatus_withoutStatus, hf]
    · rename_i hn
      have hnone : l.queue.filter TxFrame.isStatus = [] :=
        List.filter_eq_nil_iff.mpr (List.find?_eq_none.mp hn)
      split
      · simp [filter_isStatus_queueInsert, hnone, hf]
      · exact h
  · rename_i hf
    split
    · simpa [filter_isStatus_queueInsert, hf] using h
    · split
      · simp [filter_isStatus_queueInsert, filter_isStatus_withoutStatus, hf]
      · exact h

/-- Posting the own STATUS is posting a frame, and the interval counted afresh (R25). -/
theorem postStatus_cases (t : State) :
    postStatus t = t ∨ ∃ b, postStatus t =
      { t with line := { (post t 0 (.status b)).line with statusTimer := some 0 } } := by
  unfold postStatus
  split
  · rename_i b _
    split
    · exact .inr ⟨b, rfl⟩
    · exact .inl rfl
  · exact .inl rfl

namespace State.Touches

variable {ps : List Part} {s t : State}

/-! ### Recording and posting -/

theorem thenAddRecord (h : s.Touches ps t) (b : RecordBody) : s.Touches ps (addRecord t b) :=
  h.trans ⟨fun p _ => by
      have hr := Part.Same.refl p t
      cases p
      case order => exact fun g => g.of_same rfl rfl rfl rfl rfl rfl
      all_goals exact hr,
    fun hq => ⟨hq.frames, hq.ordered, hq.oneStatus, appendTo_length _ _ _ _ hq.records⟩⟩

theorem thenAddEvent (h : s.Touches ps t) (e : Event) : s.Touches ps (addEvent t e) := h.thenAddRecord _

theorem thenPost (h : s.Touches ps t) (n : Nat) (b : Body) : s.Touches ps (post t n b) := by
  refine h.trans ⟨fun p _ => ?_, fun hq => ?_⟩
  · have hr := Part.Same.refl p t
    cases p
    case listenOnly => exact post_listenOnly t n b
    case phase => exact post_phase t n b
    case silence => exact fun hs => by rw [post_of_silent (by simp [State.posts, hs.1])]; exact hs
    case order => exact fun g => g.of_same rfl rfl rfl rfl rfl rfl
    all_goals exact hr
  · have hr : (post t n b).records.queue.length ≤ queueCap := by
      simp only [post]
      split
      · exact appendTo_length _ _ _ _ hq.records
      · exact hq.records
    cases hp : t.posts with
    | false => rw [post_of_silent hp]; exact hq
    | true =>
      have hl := post_line_of_posts hp n b
      exact ⟨hl ▸ acceptFrame_length _ _ hq.frames, hl ▸ acceptFrame_ordered _ hq.ordered,
        hl ▸ acceptFrame_oneStatus _ hq.oneStatus, hr⟩

theorem thenPostStatus (h : s.Touches ps t) : s.Touches ps (postStatus t) := by
  rcases postStatus_cases t with he | ⟨b, he⟩
  · rw [he]; exact h
  · have g := (refl ps t).thenPost 0 (.status b)
    rw [he]
    refine h.trans ⟨fun p hp => ?_, fun hq => ?_⟩
    · have := g.same p hp
      have hr := Part.Same.refl p t
      cases p
      case listenOnly => exact this
      case phase => exact this
      case silence => exact this
      case order => exact fun g => g.of_same rfl rfl rfl rfl rfl rfl
      all_goals exact hr
    · have := g.queues hq
      exact ⟨this.frames, this.ordered, this.oneStatus, hq.records⟩

end State.Touches

end Sys2Proof.Machine
end

section
/-! SUPPORT. The frame of every operation of the duty controller and the headroom arbiter. -/

-- One proof after the other: each proof elaborated at the same time takes a thread's stack of the check's memory.
set_option Elab.async false

namespace Sys2Proof.Machine

/-! ### The two lists -/

theorem listsShrink_commandBy (d : Duty) (o : Output) (l : List Reservation) : ListsShrink d l (commandBy d o) l := by
  cases o <;> exact ⟨.refl _, .refl _⟩

theorem listsShrink_withoutBoard (d : Duty) (board : Nat) (l : List Reservation) :
    ListsShrink d l d (withoutBoard board l) := ⟨.refl _, List.filter_sublist.map _⟩

theorem listsShrink_holds (d : Duty) (l : List Reservation) {f : Reservation → Reservation}
    (hf : ∀ r, (f r).promise = r.promise) : ListsShrink d l d (l.map f) :=
  ⟨.refl _, by simp [Function.comp_def, hf]⟩

theorem listsShrink_feedFilter {d d' : Duty} {q : FeedEntry → Bool} (h : d'.feed = d.feed.filter q)
    (l : List Reservation) : ListsShrink d l d' l := ⟨h ▸ List.filter_sublist.map _, .refl _⟩

theorem listsShrink_feedMap {d d' : Duty} {f : FeedEntry → FeedEntry} (h : d'.feed = d.feed.map f)
    (hf : ∀ e, (f e).board = e.board) (l : List Reservation) : ListsShrink d l d' l :=
  ⟨by simp [h, Function.comp_def, hf], .refl _⟩

namespace State.Touches

variable {s t u : State}

/-- An operation of the duty controller where boards may join. -/
theorem thenDuty (h : s.Touches joinParts t) (g : t.Touches actParts u) : s.Touches joinParts u :=
  h.andThen g (by decide)

/-! ### Steps of the duty controller -/

theorem setDutyParts (h : s.Touches actParts t) (p : Pulses) (d : Duty) (r : List Reservation) (n : Nat)
    (hl : ListsShrink t.duty t.reservations d r := by exact ⟨.refl _, .refl _⟩) :
    s.Touches actParts { t with pulses := p, duty := d, reservations := r, free := n } :=
  h.trans ⟨fun p hp => by
    have hr := Part.Same.refl p t
    cases p
    case order | pulses | duty | reservations | free => simp at hp
    case lists => exact hl
    all_goals exact hr, fun hq => hq.of_same rfl rfl⟩

theorem setJoinParts (h : s.Touches joinParts t) (p : Pulses) (d : Duty) (r : List Reservation) (n : Nat) :
    s.Touches joinParts { t with pulses := p, duty := d, reservations := r, free := n } :=
  h.trans ⟨fun p hp => by
    have hr := Part.Same.refl p t
    cases p
    case lists | order | pulses | duty | reservations | free => simp at hp
    all_goals exact hr, fun hq => hq.of_same rfl rfl⟩

theorem thenPulse (h : s.Touches actParts t) (o : Output) : s.Touches actParts (pulse t o) :=
  h.setDutyParts _ _ _ _ (listsShrink_commandBy t.duty o t.reservations)

theorem thenSetDuty (h : s.Touches actParts t) (d : DutyState) (o : Option Origin) :
    s.Touches actParts (setDuty t d o) := h.setDutyParts ..

theorem thenZeroTimer (h : s.Touches actParts t) : s.Touches actParts (zeroTimer t) := h.setDutyParts ..

theorem thenReplyTo (h : s.Touches actParts t) (board ticket verdict reason hold : Nat) :
    s.Touches actParts (replyTo t board ticket verdict reason hold) := h.thenPost ..

theorem thenRefuseEntry (h : s.Touches actParts t) (reason : Nat) (r : Reservation) :
    s.Touches actParts (refuseEntry reason t r) :=
  (h.setDutyParts _ _ _ _ (listsShrink_withoutBoard ..)).thenReplyTo ..

theorem thenRefuseAll (h : s.Touches actParts t) (reason : Nat) : s.Touches actParts (refuseAll t reason) :=
  foldl (fun v r => (refl _ v).thenRefuseEntry reason r) h _

theorem thenRecheckEntry (h : s.Touches actParts t) (r : Reservation) : s.Touches actParts (recheckEntry t r) :=
  ite ((h.setDutyParts _ _ _ _ (listsShrink_holds _ _ fun q => by split <;> rfl)).thenReplyTo ..)
    (h.thenRefuseEntry ..)

theorem thenRecheckAll (h : s.Touches actParts t) : s.Touches actParts (recheckAll t) :=
  foldl (fun v r => (refl _ v).thenRecheckEntry r) h _

/-! ### Duty states -/

theorem thenEnterReady (h : s.Touches actParts t) (fromWarming : Bool) :
    s.Touches actParts (enterReady t fromWarming) := by
  have hr := ((h.thenSetDuty .ready none).setDutyParts t.pulses
    { (setDuty t .ready none).duty with idle := 0 } t.reservations t.free).thenPulse .brkClose
  exact (ite hr.thenRecheckAll hr).thenPostStatus

theorem thenEnterWarming (h : s.Touches actParts t) : s.Touches actParts (enterWarming t) :=
  have hw := (h.thenSetDuty .warming none).thenZeroTimer.thenPostStatus
  ite (hw.thenEnterReady true) hw

theorem thenStartEngine (h : s.Touches actParts t) : s.Touches actParts (startEngine t) :=
  have hs := (((h.thenSetDuty .starting none).thenZeroTimer.thenPulse .runOn).setDutyParts ..).thenPostStatus
  ite hs.thenEnterWarming hs

theorem thenPrimeStart (h : s.Touches actParts t) : s.Touches actParts (primeStart t) := ite h.thenStartEngine h

theorem thenEnterOff (h : s.Touches actParts t) : s.Touches actParts (enterOff t) :=
  (h.thenSetDuty ..).thenPostStatus.thenPrimeStart

theorem thenEnterCooling (h : s.Touches actParts t) (o : Origin) : s.Touches actParts (enterCooling t o) :=
  have hc := ((h.thenSetDuty .cooling (some o)).thenZeroTimer.thenPulse .brkOpen).thenPostStatus
  ite (hc.thenPulse _).thenEnterOff hc

theorem thenUnloadTest (h : s.Touches actParts t) : s.Touches actParts (unloadTest t) :=
  ite (h.thenEnterCooling _) h

theorem thenEnterUnloading (h : s.Touches actParts t) : s.Touches actParts (enterUnloading t) :=
  (((h.thenSetDuty ..).thenZeroTimer.setDutyParts ..).thenRefuseAll _).thenPostStatus.thenUnloadTest

theorem thenEnterFault (h : s.Touches actParts t) : s.Touches actParts (enterFault t) :=
  ((h.thenSetDuty ..).thenRefuseAll _).thenPostStatus

theorem thenTrip (h : s.Touches actParts t) : s.Touches actParts (trip t) :=
  ((h.thenPulse _).thenPulse _).thenEnterFault

theorem thenAbandonStart (h : s.Touches actParts t) : s.Touches actParts (abandonStart t) :=
  (((h.thenSetDuty ..).thenPulse _).thenRefuseAll _).thenEnterOff

theorem thenAbandonWarming (h : s.Touches actParts t) : s.Touches actParts (abandonWarming t) :=
  ((h.thenSetDuty ..).thenRefuseAll _).thenEnterCooling _

theorem thenActReaction (h : s.Touches actParts t) : s.Touches actParts (actReaction t) := by
  unfold actReaction
  split
  · exact ite h h.thenTrip
  · split
    · exact h
    · exact h.thenAbandonStart
    · exact h.thenAbandonWarming
    · exact h.thenEnterUnloading
    · exact h
    · exact h.thenSetDuty ..
    · exact h
  · exact h
  · exact h

theorem thenActMode (h : s.Touches actParts t) : s.Touches actParts (actMode t) := by
  unfold actMode
  split
  · exact h.thenPrimeStart
  · exact ite h.thenAbandonStart h
  · exact ite h.thenAbandonWarming h
  · exact ite h.thenEnterUnloading h
  · exact h
  · split
    · exact h
    · exact ite (h.thenEnterReady _) h
    · exact h.thenSetDuty ..
  · exact h

/-! ### Conditions -/

theorem thenRaiseEntry (h : s.Touches actParts t) (c : FaultClass) (present : Bool) (e : Event) :
    s.Touches actParts (raiseEntry t c present e) :=
  have hr := (h.setDutyParts ..).thenAddEvent e
  ite hr hr.thenPostStatus

theorem thenRaiseOnly (h : s.Touches actParts t) (c : FaultClass) : s.Touches actParts (raiseOnly t c) :=
  have hr := h.setDutyParts t.pulses { t.duty with conditions := t.duty.conditions ++ [c] } t.reservations t.free
  ite h (ite hr (hr.thenRaiseEntry ..))

theorem thenRaiseCondition (h : s.Touches actParts t) (c : FaultClass) : s.Touches actParts (raiseCondition t c) :=
  ite h (h.thenRaiseOnly c).thenActReaction

theorem thenDropSettled (h : s.Touches actParts t) : s.Touches actParts (dropSettled t) :=
  have hd := h.setDutyParts t.pulses { t.duty with faults := t.duty.faults.filter FaultEntry.stays } t.reservations t.free
  ite hd hd.thenPostStatus

theorem thenClearCondition (h : s.Touches actParts t) (c : FaultClass) : s.Touches actParts (clearCondition t c) := by
  have h1 := h.setDutyParts t.pulses { t.duty with conditions := t.duty.conditions.filter (fun d => d != c) }
    t.reservations t.free
  refine ite ?_ h
  refine ite (thenPrimeStart ?_) ?_ <;> exact ite h1 ((h1.setDutyParts ..).thenAddEvent ..).thenDropSettled

theorem thenSettle (h : s.Touches actParts t) : s.Touches actParts (settle t) := by
  have h1 := ite (c := t.input 3 = false ∧ t.duty.runOn = false) (h.thenClearCondition .engineFault) h
  refine ite ?_ (thenClearCondition ?_ _) <;> exact ite (h1.thenClearCondition _) h1

end State.Touches

theorem input_of_same {s t : State} (h : t.inputs = s.inputs) (n : Nat) : t.input n = s.input n := by
  simp [State.input, h]

theorem State.Touches.image {ps : List Part} {s t : State} (h : s.Touches ps t) (hp : .image ∉ ps) : t.image = s.image :=
  h.same .image hp

/-! ### Clearing a condition -/

@[simp] theorem replyTo_duty (s : State) (board ticket verdict reason hold : Nat) :
    (replyTo s board ticket verdict reason hold).duty = s.duty := rfl

theorem foldl_duty {α : Type} {f : State → α → State} (hf : ∀ v x, (f v x).duty = v.duty) (l : List α) (s : State) :
    (l.foldl f s).duty = s.duty := by
  induction l generalizing s with
  | nil => rfl
  | cons x l ih => exact (ih _).trans (hf s x)

@[simp] theorem refuseAll_duty (s : State) (reason : Nat) : (refuseAll s reason).duty = s.duty :=
  foldl_duty (f := refuseEntry reason) (fun _ _ => rfl) _ _

@[simp] theorem recheckAll_duty (s : State) : (recheckAll s).duty = s.duty :=
  foldl_duty (fun v r => by unfold recheckEntry; split <;> rfl) _ _

theorem enterReady_conditions (s : State) (w : Bool) : (enterReady s w).duty.conditions = s.duty.conditions := by
  cases w <;> simp [enterReady] <;> rfl

theorem enterWarming_conditions (s : State) : (enterWarming s).duty.conditions = s.duty.conditions := by
  unfold enterWarming
  dsimp only
  split
  · rw [enterReady_conditions]; rfl
  · rfl

theorem startEngine_conditions (s : State) : (startEngine s).duty.conditions = s.duty.conditions := by
  unfold startEngine
  dsimp only
  split
  · rw [enterWarming_conditions]; rfl
  · rfl

theorem primeStart_conditions (s : State) : (primeStart s).duty.conditions = s.duty.conditions := by
  unfold primeStart
  split
  · exact startEngine_conditions s
  · rfl

/-- The inhibit is read off the conditions and the image. -/
theorem inhibit_of_same {s t : State} (hc : t.duty.conditions = s.duty.conditions) (hi : t.image = s.image) :
    t.inhibit = s.inhibit := by
  simp [State.inhibit, State.tripPresent, State.unloadPresent, hc, hi]

theorem inhibit_of_trip {s : State} {c : FaultClass} (hp : s.present c = true) (hr : s.image.reaction c = .trip) :
    s.inhibit = true := by
  have : s.tripPresent = true := List.any_eq_true.mpr ⟨c, by simpa [State.present] using hp, by simp [hr]⟩
  simp [State.inhibit, this]

theorem present_of_conditions {s t : State} {c d : FaultClass} (h : t.duty.conditions = s.duty.conditions.filter (· != c)) :
    t.present d = (s.present d && d != c) := by
  rw [Bool.eq_iff_iff]
  simp [State.present, h]

/-- A condition that goes leaves the state and the commands as they were, or starts a set that nothing inhibits. -/
theorem clearCondition_effect (s : State) (c : FaultClass) :
    (clearCondition s c).duty.conditions = s.duty.conditions.filter (· != c) ∧
      (((clearCondition s c).duty.state = s.duty.state ∧ (clearCondition s c).duty.runOn = s.duty.runOn ∧
          (clearCondition s c).duty.brkClosed = s.duty.brkClosed) ∨
        (s.inhibit = true ∧ (clearCondition s c).inhibit = false)) := by
  unfold clearCondition
  split
  · dsimp only
    generalize hu : (if s.image.reaction c = .ignore then _ else _ : State) = u
    have hc : u.duty.conditions = s.duty.conditions.filter (· != c) ∧ u.duty.state = s.duty.state ∧
        u.duty.runOn = s.duty.runOn ∧ u.duty.brkClosed = s.duty.brkClosed := by
      subst hu
      split
      · exact ⟨rfl, rfl, rfl, rfl⟩
      · simp only [dropSettled_duty]
        exact ⟨rfl, rfl, rfl, rfl⟩
    split
    · rename_i hstart
      simp only [Bool.and_eq_true, Bool.not_eq_true'] at hstart
      refine ⟨(primeStart_conditions u).trans hc.1, .inr ⟨hstart.1, ?_⟩⟩
      rw [inhibit_of_same (primeStart_conditions u) (((State.Touches.refl actParts u).thenPrimeStart).image (by decide))]
      exact hstart.2
    · exact ⟨hc.1, .inl hc.2⟩
  · rename_i hp
    refine ⟨(List.filter_eq_self.mpr fun d hd => ?_).symm, .inl ⟨rfl, rfl, rfl⟩⟩
    have : d ≠ c := fun h => hp (by simpa [State.present, h] using hd)
    simpa using this

/-- A condition whose reaction is neither TRIP nor UNLOAD starts nothing when it goes. -/
theorem clearCondition_burnSilent (s : State) : (clearCondition s .burnSilent).duty.state = s.duty.state ∧
    (clearCondition s .burnSilent).duty.runOn = s.duty.runOn ∧
    (clearCondition s .burnSilent).duty.brkClosed = s.duty.brkClosed := by
  obtain ⟨hc, hsame | ⟨hin, hout⟩⟩ := clearCondition_effect s .burnSilent
  · exact hsame
  · exfalso
    have him : (clearCondition s .burnSilent).image = s.image :=
      ((State.Touches.refl actParts s).thenClearCondition _).image (by decide)
    have hr : s.image.reaction .burnSilent ≠ .trip ∧ s.image.reaction .burnSilent ≠ .unload := by
      simp only [Image.reaction, ignoreChoice]
      split <;> simp
    have hkeep : ∀ d, d ∈ s.duty.conditions → d ≠ .burnSilent → d ∈ (clearCondition s .burnSilent).duty.conditions :=
      fun d hd hn => by rw [hc]; simp [hd, hn]
    simp only [State.inhibit, State.tripPresent, State.unloadPresent, Bool.or_eq_false_iff, List.any_eq_false, him] at hout
    simp only [State.inhibit, State.tripPresent, State.unloadPresent, Bool.or_eq_true, List.any_eq_true] at hin
    rcases hin with ⟨d, hd, hdr⟩ | ⟨d, hd, hdr⟩
    · exact hout.1 d (hkeep d hd fun h => hr.1 (by simpa [h] using hdr)) hdr
    · exact hout.2 d (hkeep d hd fun h => hr.2 (by simpa [h] using hdr)) hdr

/-! ### An event of the duty controller leaves its conditions settled -/

/-- The first clause of `settle`: ENGINE_FAULT is gone, or stands on its input or RUN_ON. -/
theorem engineFault_settled (s : State) :
    let t := if s.input 3 = false ∧ s.duty.runOn = false then clearCondition s .engineFault else s
    t.present .engineFault = true → t.input 3 = true ∨ t.duty.runOn = true := by
  intro t
  have ht : t = if s.input 3 = false ∧ s.duty.runOn = false then clearCondition s .engineFault else s := rfl
  split at ht
  · intro hp
    rw [ht, present_of_conditions (clearCondition_effect s .engineFault).1] at hp
    simp at hp
  · rename_i hn
    rw [ht]
    intro _
    cases h3 : s.input 3 <;> cases hr : s.duty.runOn <;> simp_all

theorem settle_settled (s : State) : (settle s).Settled := by
  unfold settle
  have h1 := engineFault_settled s
  generalize (if s.input 3 = false ∧ s.duty.runOn = false then clearCondition s .engineFault else s) = t at h1 ⊢
  dsimp only at h1 ⊢
  -- the second clause
  generalize hu : (if t.input 2 = t.duty.brkClosed then clearCondition t .breaker else t) = u
  have hin : u.inputs = t.inputs := by
    subst hu
    split
    · exact ((State.Touches.refl actParts t).thenClearCondition _).same .inputs (by decide)
    · rfl
  have h2 : (u.present .engineFault = true → u.input 3 = true ∨ u.duty.runOn = true) ∧
      (u.present .breaker = true → u.input 2 ≠ u.duty.brkClosed) := by
    subst hu
    split
    · obtain ⟨hc, hsame | ⟨-, hout⟩⟩ := clearCondition_effect t .breaker
      · refine ⟨fun hp => ?_, fun hp => ?_⟩
        · rw [present_of_conditions hc] at hp
          rw [input_of_same (by simpa [*] using hin), hsame.2.1]
          exact h1 (by simpa using hp)
        · rw [present_of_conditions hc] at hp
          simp at hp
      · refine ⟨fun hp => ?_, fun hp => ?_⟩ <;>
          simp [inhibit_of_trip hp rfl] at hout
    · exact ⟨h1, fun _ => ‹_›⟩
  split
  · exact ⟨h2.1, h2.2, fun _ => ‹_›⟩
  · obtain ⟨-, hrun, hbrk⟩ := clearCondition_burnSilent u
    have hc := (clearCondition_effect u .burnSilent).1
    have hiu : (clearCondition u .burnSilent).inputs = u.inputs :=
      ((State.Touches.refl actParts u).thenClearCondition _).same .inputs (by decide)
    refine ⟨fun hp => ?_, fun hp => ?_, fun hp => ?_⟩ <;> rw [present_of_conditions hc] at hp
    · rw [input_of_same hiu, hrun]; exact h2.1 (by simpa using hp)
    · rw [input_of_same hiu, hbrk]; exact h2.2 (by simpa using hp)
    · simp at hp

namespace State.Touches

variable {s t u : State}

/-- An operation of the duty controller that ends in order touches what an event touches. -/
theorem of_order {ps : List Part} (h : s.Touches (.order :: ps) t) (ho : s.KeptInOrder → t.KeptInOrder) :
    s.Touches ps t :=
  ⟨fun p hp => by
    by_cases hpo : p = .order
    · subst hpo; exact ho
    · exact h.same p (by simp [hpo, hp]), h.queues⟩

/-- What an event of the duty controller settles, it leaves in order. -/
theorem settle_order {ps : List Part} (h : s.Touches ps (settle t)) (hr : s.runs .set = true)
    (hq : ∀ p ∈ [Part.inputs, .channelCount, .live, .station, .image], p ∉ ps) (ho : s.KeptInOrder) :
    (settle t).KeptInOrder := by
  refine .of_settled ?_ ?_ ?_ ?_ (settle_settled t)
  · rw [h.same .inputs (hq _ (by simp))]; exact ho.sixInputs
  · rw [h.same .channelCount (hq _ (by simp))]; exact ho.channels
  · rw [h.same .live (hq _ (by simp))]; exact ho.positions
  · rw [runs_of_same (h.same .station (hq _ (by simp))) (h.same .image (hq _ (by simp)))]; exact hr

/-- An event of the duty controller. -/
theorem thenDutyEvent (h : s.Touches dutyParts t) {f : State → State} (hf : ∀ v : State, v.Touches actParts (f v)) :
    s.Touches dutyParts (dutyEvent t f) := by
  unfold dutyEvent whenRuns
  split
  · rename_i hr
    rw [Bool.and_eq_true] at hr
    have g := (hf t).thenSettle
    exact h.trans (g.of_order (g.settle_order hr.2 (by decide)))
  · exact h

theorem thenWhenRuns {ps : List Part} (h : s.Touches ps t) {f : State → State} (r : Role)
    (hf : ∀ v : State, v.Touches ps (f v)) : s.Touches ps (whenRuns r t f) := ite (h.trans (hf t)) h

theorem thenWhenAwake {ps : List Part} (h : s.Touches ps t) {f : State → State}
    (hf : ∀ v : State, v.Touches ps (f v)) : s.Touches ps (whenAwake t f) := ite (h.trans (hf t)) h

/-! ### The feed list -/

theorem thenFeedRemove (h : s.Touches actParts t) (board : Nat) : s.Touches actParts (feedRemove t board) :=
  ite (h.setDutyParts _ _ _ _ (listsShrink_feedFilter rfl _)).thenUnloadTest h

theorem thenFeedUpdate (h : s.Touches actParts t) (board load : Nat) : s.Touches actParts (feedUpdate t board load) :=
  h.setDutyParts _ _ _ _ (listsShrink_feedMap rfl (fun e => by split <;> rfl) _)

theorem thenFeedJoin (h : s.Touches joinParts t) (board load : Nat) : s.Touches joinParts (feedJoin t board load) :=
  h.setJoinParts ..

theorem thenFeedFull (h : s.Touches actParts t) (board : Nat) : s.Touches actParts (feedFull t board) :=
  ite h ((h.setDutyParts ..).thenAddEvent _)

theorem thenFeedPlace (h : s.Touches joinParts t) (board load : Nat) : s.Touches joinParts (feedPlace t board load) :=
  ite (h.thenDuty ((refl _ t).thenFeedUpdate ..))
    (ite (h.thenFeedJoin ..) (h.thenDuty ((refl _ t).thenFeedFull _)))

theorem thenFeedStatus (h : s.Touches joinParts t) (board : Nat) (b : BoardStatus) :
    s.Touches joinParts (feedStatus t board b) :=
  ite (h.thenDuty (ite (((refl _ t).setDutyParts ..).thenFeedRemove _) ((refl _ t).thenFeedUpdate ..)))
    (ite (ite ((h.thenFeedJoin ..).thenAddEvent _) (h.thenDuty ((refl _ t).thenFeedFull _))) h)

theorem thenFeedLost (h : s.Touches actParts t) (board : Nat) : s.Touches actParts (feedLost t board) :=
  h.setDutyParts _ _ _ _ (listsShrink_feedMap rfl (fun e => by split <;> rfl) _)

/-! ### Adoption and the second -/

theorem listsShrink_adopted (v : State) (mode : RunMode) : ListsShrink v.duty v.reservations (adoptedDuty v mode)
    v.reservations := ⟨List.nil_sublist _, .refl _⟩

theorem thenWarmNow (h : s.Touches actParts t) : s.Touches actParts (warmNow t) := ite (h.thenEnterReady true) h

theorem thenAdoptDuty (h : s.Touches actParts t) (mode : RunMode) : s.Touches actParts (adoptDuty t mode) := by
  have h1 := foldl (fun v c => (refl actParts v).thenRaiseOnly c)
    (h.setDutyParts t.pulses (adoptedDuty t mode) t.reservations t.free (listsShrink_adopted t mode)) (adoptedConditions t)
  exact h1.thenActReaction.thenActMode.thenWarmNow.thenSettle

theorem thenDutyCounts (h : s.Touches actParts t) : s.Touches actParts (dutyCounts t) := h.setDutyParts ..

theorem thenDutySecond (h : s.Touches actParts t) : s.Touches actParts (dutySecond t) :=
  (ite (h.thenDutyCounts.thenClearCondition _) h.thenDutyCounts).thenSettle

/-! ### Inputs and expiries -/

theorem thenEngineReady (h : s.Touches actParts t) (level : Bool) : s.Touches actParts (engineReady t level) := by
  unfold engineReady
  split
  · exact ite h.thenEnterWarming h
  · split
    · exact h.thenRaiseCondition _
    · exact h.thenRaiseCondition _
    · exact h.thenRaiseCondition _
    · exact (h.thenPulse _).thenEnterOff
    · exact h
    · exact h
    · exact h

theorem thenBreakerFeedback (h : s.Touches actParts t) : s.Touches actParts (breakerFeedback t) :=
  ite (h.setDutyParts ..) h

theorem thenEngineFaultInput (h : s.Touches actParts t) (level : Bool) :
    s.Touches actParts (engineFaultInput t level) := ite (h.thenRaiseCondition _) h

theorem thenDutyInput (h : s.Touches actParts t) (n : Nat) (level : Bool) : s.Touches actParts (dutyInput t n level) :=
  ite (h.thenEngineReady _) (ite h.thenBreakerFeedback (h.thenEngineFaultInput _))

theorem thenStartTimeoutStep (h : s.Touches dutyParts t) : s.Touches dutyParts (startTimeoutStep t) :=
  h.thenDutyEvent fun v => ite (((refl _ v).thenPulse _).thenRaiseEntry ..).thenEnterFault (refl _ v)

theorem thenWarmupStep (h : s.Touches dutyParts t) : s.Touches dutyParts (warmupStep t) :=
  h.thenDutyEvent fun v => ite ((refl _ v).thenEnterReady _) (refl _ v)

theorem thenIdleStopStep (h : s.Touches dutyParts t) : s.Touches dutyParts (idleStopStep t) :=
  h.thenDutyEvent fun v => ite ((refl _ v).thenEnterCooling _) (refl _ v)

theorem thenCooldownStep (h : s.Touches dutyParts t) : s.Touches dutyParts (cooldownStep t) :=
  h.thenDutyEvent fun v => ite ((refl _ v).thenPulse _).thenEnterOff (refl _ v)

theorem thenUnloadLimitStep (h : s.Touches dutyParts t) : s.Touches dutyParts (unloadLimitStep t) :=
  h.thenDutyEvent fun v => ite (((refl _ v).setDutyParts ..).thenAddEvent _) (refl _ v)

theorem thenDisagreementStep (h : s.Touches dutyParts t) : s.Touches dutyParts (disagreementStep t) :=
  h.thenDutyEvent fun v => ite ((refl _ v).thenRaiseCondition _) (refl _ v)

theorem thenOverloadStep (h : s.Touches dutyParts t) : s.Touches dutyParts (overloadStep t) :=
  h.thenDutyEvent fun v => ite ((refl _ v).thenRaiseCondition _) (refl _ v)

theorem thenBurnSilenceStep (h : s.Touches dutyParts t) : s.Touches dutyParts (burnSilenceStep t) :=
  h.thenDutyEvent fun v => ite ((refl _ v).thenRaiseCondition _) (refl _ v)

/-! ### The arbiter -/

theorem thenReservationRemove (h : s.Touches actParts t) (board : Nat) :
    s.Touches actParts (reservationRemove t board) := ite (h.setDutyParts _ _ _ _ (listsShrink_withoutBoard ..)).thenUnloadTest h

theorem thenReserve (h : s.Touches joinParts t) (board ticket load : Nat) (hold : Option Nat) :
    s.Touches joinParts (reserve t board ticket load hold) := h.setJoinParts ..

theorem thenGrantTest (h : s.Touches joinParts t) (board ticket load : Nat) :
    s.Touches joinParts (grantTest t board ticket load) :=
  ite (((h.thenDuty (ite ((refl _ t).thenEnterReady _) (refl _ t))).thenReserve ..).thenPost ..) (h.thenPost ..)

theorem thenPendingTest (h : s.Touches joinParts t) (board ticket load : Nat) :
    s.Touches joinParts (pendingTest t board ticket load) :=
  have hp : s.Touches joinParts (replyTo (reserve t board ticket load none) board ticket verdictPending reasonNone 0) :=
    (h.thenReserve ..).thenPost ..
  ite (ite (hp.thenDuty (refl _ _).thenStartEngine) hp) (h.thenPost ..)

theorem thenJudgeTake (h : s.Touches joinParts t) (board ticket load : Nat) :
    s.Touches joinParts (judgeTake t board ticket load) := by
  unfold judgeTake
  split
  · exact h.thenPost ..
  · exact ite (h.thenGrantTest ..) (h.thenPendingTest ..)

theorem thenRepeatAnswer (h : s.Touches joinParts t) (r : Reservation) : s.Touches joinParts (repeatAnswer t r) := by
  unfold repeatAnswer
  split <;> exact h.thenPost ..

theorem thenMatchTake (h : s.Touches joinParts t) (board ticket load : Nat) :
    s.Touches joinParts (matchTake t board ticket load) := by
  unfold matchTake
  split
  · exact ite (h.thenRepeatAnswer _) ((h.setJoinParts ..).thenJudgeTake ..)
  · exact h.thenJudgeTake ..

theorem thenAnswerTake (h : s.Touches joinParts t) (board ticket load : Nat) :
    s.Touches joinParts (answerTake t board ticket load) := by
  unfold answerTake
  split
  · exact (h.thenDuty ((refl _ t).thenReservationRemove _)).thenPost ..
  · exact h.thenMatchTake ..

theorem thenTakeFrame (h : s.Touches joinParts t) (board ticket load : Nat) :
    s.Touches joinParts (takeFrame t board ticket load) :=
  ite h ((h.thenDuty (((refl _ t).setDutyParts ..).thenFeedRemove _)).thenAnswerTake ..)

theorem thenOvercommitTest (h : s.Touches actParts t) (board ticket : Nat) :
    s.Touches actParts (overcommitTest t board ticket) := ite (h.thenAddEvent _) h

theorem thenCommitFrame (h : s.Touches joinParts t) (board ticket load : Nat) :
    s.Touches joinParts (commitFrame t board ticket load) :=
  have hc := (h.setJoinParts t.pulses t.duty (withoutBoard board t.reservations) t.free).thenFeedPlace board load
  ite (hc.thenDuty ((refl _ _).thenOvercommitTest ..))
    ((hc.thenAddEvent _).thenDuty ((refl _ _).thenOvercommitTest ..))

theorem thenReleaseFrame (h : s.Touches actParts t) (board ticket : Nat) :
    s.Touches actParts (releaseFrame t board ticket) := ite (h.thenReservationRemove _) h

theorem thenHoldSecond (h : s.Touches actParts t) : s.Touches actParts (holdSecond t) :=
  h.setDutyParts _ _ _ _ (listsShrink_holds _ _ fun _ => rfl)

theorem thenHoldStep (h : s.Touches dutyParts t) (board : Nat) : s.Touches dutyParts (holdStep t board) :=
  h.thenDutyEvent fun v => ite ((refl _ v).thenReservationRemove _) (refl _ v)

end State.Touches

end Sys2Proof.Machine
end

section
/-! SUPPORT. The frames of the tank monitor, the delivery units, the settlement units, the changeover controller and the
metering unit. -/

-- One proof after the other: each proof elaborated at the same time takes a thread's stack of the check's memory.
set_option Elab.async false

namespace Sys2Proof.Machine

namespace State.Touches

variable {s t : State}

/-! ### The tank monitor -/

theorem setTankParts (h : s.Touches tankParts t) (k : Tank) (d : SetDelivery) :
    s.Touches tankParts { t with tank := k, delivery := d } :=
  h.trans ⟨fun p hp => by
    have hr := Part.Same.refl p t
    cases p
    case tank | delivery | pulses | duty | reservations | free => simp at hp
    case order => exact fun g => g.of_same rfl rfl rfl rfl rfl rfl
    all_goals exact hr, fun hq => hq.of_same rfl rfl⟩

theorem thenTankEvent (h : s.Touches tankParts t) {f : State → State} (hf : ∀ v : State, v.Touches actParts (f v)) :
    s.Touches tankParts (dutyEvent t f) := h.andThen ((refl _ t).thenDutyEvent hf) (by decide)

theorem thenOpenHold (h : s.Touches tankParts t) (cause : BadCause) : s.Touches tankParts (openHold t cause) := by
  unfold openHold
  split
  · exact h.setTankParts ..
  · exact h.setTankParts ..
  · exact h
  · exact h

theorem thenJudgeLoop (h : s.Touches tankParts t) : s.Touches tankParts (judgeLoop t) := by
  unfold judgeLoop
  dsimp only
  split
  · exact ite (((h.setTankParts ..).thenOpenHold _).thenTankEvent fun v => (refl _ v).thenRaiseCondition _)
      (h.setTankParts ..)
  · split <;> exact h.setTankParts ..

theorem thenMatchSecond (h : s.Touches tankParts t) (x : Hold) : s.Touches tankParts (matchSecond t x) := by
  unfold matchSecond
  dsimp only
  split
  · exact ite ((h.setTankParts ..).thenAddEvent _) (ite (h.setTankParts ..) (h.setTankParts ..))
  · exact h.setTankParts ..

theorem thenFormContent (h : s.Touches tankParts t) : s.Touches tankParts (formContent t) := by
  unfold formContent
  split
  · exact h.setTankParts ..
  · exact h
  · exact h.setTankParts ..
  · exact h
  · exact h.setTankParts ..
  · exact h
  · exact h.thenMatchSecond _
  · exact h

theorem thenFormEmpty (h : s.Touches tankParts t) : s.Touches tankParts (formEmpty t) :=
  ite (h.setTankParts ..) ((h.setTankParts ..).thenTankEvent fun v =>
    ite ((refl _ v).thenRaiseCondition _) ((refl _ v).thenClearCondition _))

theorem thenFormDry (h : s.Touches tankParts t) : s.Touches tankParts (formDry t) :=
  ite (ite (h.setTankParts ..).thenPostStatus h) (ite ((h.setTankParts ..).thenPost ..).thenPostStatus h)

theorem thenFinishTank (h : s.Touches tankParts t) : s.Touches tankParts (finishTank t) :=
  (h.setTankParts ..).thenFormEmpty.thenFormDry

theorem thenMinuteSecond (h : s.Touches tankParts t) : s.Touches tankParts (minuteSecond t) :=
  ite (h.setTankParts ..) (h.setTankParts ..).thenFinishTank

theorem thenContentOn (h : s.Touches tankParts t) : s.Touches tankParts (contentOn t) :=
  have hc := (h.setTankParts { t.tank with liveLevel := liveLevelOf t.image t.tank
                                           liveContent := liveContentOf t.image t.tank } t.delivery).thenFormContent
  ite hc hc.thenMinuteSecond

theorem thenMeasureLoop (h : s.Touches tankParts t) (l : List Nat) : s.Touches tankParts (measureLoop l t) :=
  ite (h.setTankParts ..) h

theorem thenTankSecond (h : s.Touches tankParts t) : s.Touches tankParts (tankSecond t) :=
  ite h.thenJudgeLoop h.thenJudgeLoop.thenContentOn

theorem thenLevelStep (h : s.Touches tankParts t) : s.Touches tankParts (levelStep t) := by
  unfold levelStep
  split
  · exact (h.setTankParts ..).thenAddEvent _
  · exact h

theorem thenLoopQualifiedStep (h : s.Touches tankParts t) : s.Touches tankParts (loopQualifiedStep t) :=
  h.thenWhenRuns _ fun v => ite ((((refl _ v).setTankParts ..).thenTankEvent fun u =>
    (refl _ u).thenClearCondition _).thenContentOn.setTankParts ..) (refl _ v)

theorem thenMatchingStep (h : s.Touches tankParts t) : s.Touches tankParts (matchingStep t) :=
  h.thenWhenRuns _ fun v => ite (((refl _ v).thenLevelStep.setTankParts ..).thenMinuteSecond.setTankParts ..) (refl _ v)

theorem thenMinuteStep (h : s.Touches tankParts t) : s.Touches tankParts (minuteStep t) :=
  h.thenWhenRuns _ fun v => ite ((refl _ v).setTankParts ..).thenFinishTank (refl _ v)

theorem thenBurnPulse (h : s.Touches tankParts t) : s.Touches tankParts (burnPulse t) :=
  ite ((h.setTankParts ..).thenTankEvent fun v => ((refl _ v).setDutyParts ..).thenClearCondition _) h

theorem thenInletPulse (h : s.Touches tankParts t) : s.Touches tankParts (inletPulse t) := ite (h.setTankParts ..) h

/-! ### The SET's delivery unit -/

theorem setDelivery (h : s.Touches [.delivery] t) (d : SetDelivery) : s.Touches [.delivery] { t with delivery := d } :=
  h.trans ⟨fun p hp => by
    have hr := Part.Same.refl p t
    cases p
    case delivery => simp at hp
    case order => exact fun g => g.of_same rfl rfl rfl rfl rfl rfl
    all_goals exact hr, fun hq => hq.of_same rfl rfl⟩

theorem thenDeliverySecond (h : s.Touches [.delivery] t) : s.Touches [.delivery] (deliverySecond t) := h.setDelivery _

theorem thenDeliverOpenFrame (h : s.Touches [.delivery] t) (tanker docket : Nat) :
    s.Touches [.delivery] (deliverOpenFrame t tanker docket) := by
  refine ite h ?_
  split
  · exact (h.setDelivery _).thenPost ..
  · exact ite (ite ((h.setDelivery _).thenPost ..) (h.thenPost ..)) (ite (h.thenPost ..) (h.thenPost ..))

theorem thenAnswerDocket (h : s.Touches [.delivery] t) (tanker docket : Nat) :
    s.Touches [.delivery] (answerDocket t tanker docket) := by
  unfold answerDocket
  split
  · exact ite (h.thenPost ..) (h.thenPost ..)
  · exact h.thenPost ..

theorem thenDocketFrame (h : s.Touches [.delivery] t) (tanker docket dispensed : Nat) :
    s.Touches [.delivery] (docketFrame t tanker docket dispensed) := by
  refine ite h ?_
  split
  · exact ite (ite h (h.setDelivery _)) (h.thenAnswerDocket ..)
  · exact h.thenAnswerDocket ..

theorem thenSettleSession (h : s.Touches [.delivery] t) (x : Session) : s.Touches [.delivery] (settleSession t x) := by
  unfold settleSession
  dsimp only
  split
  · exact ((h.thenAddRecord _).thenPost ..).setDelivery _
  · exact (h.thenAddRecord _).setDelivery _

theorem thenEndWatch (h : s.Touches [.delivery] t) : s.Touches [.delivery] (endWatch t) := by
  unfold endWatch
  split
  · exact ite (h.setDelivery _) (h.setDelivery _)
  · exact h

theorem thenQuietMove (h : s.Touches [.delivery] t) : s.Touches [.delivery] (quietMove t) := by
  unfold quietMove
  split
  · split
    · exact h.setDelivery _
    · exact h
  · exact h

theorem thenEndSettling (h : s.Touches [.delivery] t) : s.Touches [.delivery] (endSettling t) := by
  unfold endSettling
  split
  · exact h.thenSettleSession _
  · exact h

theorem thenInletWatchStep (h : s.Touches [.delivery] t) : s.Touches [.delivery] (inletWatchStep t) :=
  h.thenWhenRuns _ fun v => ite (refl _ v).thenEndWatch (refl _ v)

theorem thenQuietCountStep (h : s.Touches [.delivery] t) : s.Touches [.delivery] (quietCountStep t) :=
  h.thenWhenRuns _ fun v => ite (refl _ v).thenQuietMove (refl _ v)

theorem thenSettleTimerStep (h : s.Touches [.delivery] t) : s.Touches [.delivery] (settleTimerStep t) :=
  h.thenWhenRuns _ fun v => ite (refl _ v).thenEndSettling (refl _ v)

/-! ### The TANKER's delivery unit -/

theorem setTanker (h : s.Touches [.tanker] t) (d : Tanker) : s.Touches [.tanker] { t with tanker := d } :=
  h.trans ⟨fun p hp => by
    have hr := Part.Same.refl p t
    cases p
    case tanker => simp at hp
    case order => exact fun g => g.of_same rfl rfl rfl rfl rfl rfl
    all_goals exact hr, fun hq => hq.of_same rfl rfl⟩

theorem thenEndDelivery (h : s.Touches [.tanker] t) (r : DocketRec) : s.Touches [.tanker] (endDelivery t r) :=
  (h.setTanker _).thenAddRecord _

theorem thenDeliverAckFrame (h : s.Touches [.tanker] t) (sender docket answer : Nat) :
    s.Touches [.tanker] (deliverAckFrame t sender docket answer) := by
  unfold deliverAckFrame
  split
  · exact ite (ite (h.setTanker _) (ite (h.thenEndDelivery _) h)) h
  · exact h

theorem thenDeliverResultFrame (h : s.Touches [.tanker] t) (sender docket m l i : Nat) (rise : Int) :
    s.Touches [.tanker] (deliverResultFrame t sender docket m l i rise) := by
  unfold deliverResultFrame
  split
  · exact ite (h.thenEndDelivery _) h
  · exact h

theorem thenEndRun (h : s.Touches [.tanker] t) : s.Touches [.tanker] (endRun t) := by
  unfold endRun
  split
  · exact (h.setTanker _).thenAddEvent _
  · exact h

theorem thenBeginDelivery (h : s.Touches [.tanker] t) (target : Nat) : s.Touches [.tanker] (beginDelivery t target) :=
  (h.thenEndRun.setTanker _).thenPost ..

theorem thenCloseDelivery (h : s.Touches [.tanker] t) : s.Touches [.tanker] (closeDelivery t) := by
  unfold closeDelivery
  split
  · exact (h.setTanker _).thenPost ..
  · exact h

theorem thenTankerSecond (h : s.Touches [.tanker] t) : s.Touches [.tanker] (tankerSecond t) := h.setTanker _

theorem thenDispensePulse (h : s.Touches [.tanker] t) : s.Touches [.tanker] (dispensePulse t) :=
  have hp := h.setTanker { t.tanker with pulses := incTo pulseTop t.tanker.pulses }
  ite (ite (hp.setTanker _) hp) h

theorem thenOpeningStep (h : s.Touches [.tanker] t) : s.Touches [.tanker] (openingStep t) := by
  refine h.thenWhenRuns _ fun v => ite ?_ (refl _ v)
  unfold openingExpired
  split
  · exact ite (((refl _ v).setTanker _).thenPost ..) ((refl _ v).thenEndDelivery _)
  · exact refl _ v

theorem thenDocketRepeatStep (h : s.Touches [.tanker] t) : s.Touches [.tanker] (docketRepeatStep t) := by
  refine h.thenWhenRuns _ fun v => ite ?_ (refl _ v)
  unfold docketAgain
  split
  · exact ((refl _ v).setTanker _).thenPost ..
  · exact refl _ v

theorem thenResultMissingStep (h : s.Touches [.tanker] t) : s.Touches [.tanker] (resultMissingStep t) := by
  refine h.thenWhenRuns _ fun v => ite ?_ (refl _ v)
  unfold resultLost
  split
  · exact (refl _ v).thenEndDelivery _
  · exact refl _ v

theorem thenUnbookedRunStep (h : s.Touches [.tanker] t) : s.Touches [.tanker] (unbookedRunStep t) :=
  h.thenWhenRuns _ fun v => ite (refl _ v).thenEndRun (refl _ v)

/-! ### The SET's settlement unit -/

theorem setSetBillParts (h : s.Touches setBillParts t) (b : SetSettlement) (m : Metering) (n : Nat)
    (hc : (b.claims.map Claim.board).Sublist (t.setBill.claims.map Claim.board) := by
      first | exact .refl _ | exact List.nil_sublist _)
    (hm : m.channels.length = t.meter.channels.length := by first | rfl | exact List.length_set) :
    s.Touches setBillParts { t with setBill := b, meter := m, free := n } :=
  h.trans ⟨fun p hp => by
    have hr := Part.Same.refl p t
    cases p
    case setBill | meter | free => simp at hp
    case claimList => exact hc
    case channelCount => exact hm
    case order => exact fun g => g.of_same rfl hm rfl rfl rfl rfl
    all_goals exact hr, fun hq => hq.of_same rfl rfl⟩

theorem setClaims (h : s.Touches claimParts t) (b : SetSettlement) : s.Touches claimParts { t with setBill := b } :=
  h.trans ⟨fun p hp => by
    have hr := Part.Same.refl p t
    cases p
    case setBill | claimList | meter | free => simp at hp
    case order => exact fun g => g.of_same rfl rfl rfl rfl rfl rfl
    all_goals exact hr, fun hq => hq.of_same rfl rfl⟩

theorem thenOpenPeriod (h : s.Touches setBillParts t) (p : Nat) : s.Touches setBillParts (openPeriod t p) :=
  h.setSetBillParts ..

theorem thenPostClose (h : s.Touches setBillParts t) (c : ClosedPeriod) (again : Nat) :
    s.Touches setBillParts (postClose t c again) := h.thenPost ..

theorem thenApportion (h : s.Touches setBillParts t) : s.Touches setBillParts (apportion t) := by
  unfold apportion
  split
  · rename_i c _
    have ha := foldl (fun v l => (refl setBillParts v).thenPost ..) h (settleSetOf c t.setBill.claims t.setBill.late).claims
      (f := postAllot c.period)
    exact (ite (ha.thenAddRecord _) ha).setSetBillParts ..
  · exact h

theorem thenEndPeriod (h : s.Touches setBillParts t) : s.Touches setBillParts (endPeriod t) := by
  have ha := ite (c := t.setBill.window.isSome) h.thenApportion h
  unfold endPeriod
  dsimp only
  split
  · exact (((ha.setSetBillParts ..).thenPostClose ..).thenOpenPeriod _).setSetBillParts ..
  · exact ha

theorem thenEndWindow (h : s.Touches setBillParts t) : s.Touches setBillParts (endWindow t) :=
  ite h.thenApportion.thenEndPeriod h.thenApportion

theorem thenCountLate (h : s.Touches setBillParts t) : s.Touches setBillParts (countLate t) := h.setSetBillParts ..

theorem thenListClaim (h : s.Touches claimParts t) (board period energy : Nat) :
    s.Touches claimParts (listClaim t board period energy) :=
  ite (h.setClaims _) (ite (h.setClaims _) (h.andThen ((refl _ t).thenPost ..).thenCountLate (by decide)))

theorem thenClaimFrame (h : s.Touches claimParts t) (board period energy : Nat) :
    s.Touches claimParts (claimFrame t board period energy) := by
  refine ite (h.thenListClaim ..) ?_
  split
  · refine ite ?_ (h.thenPost ..)
    split
    · exact h.thenPost ..
    · exact h.andThen ((refl _ t).thenPost ..).thenCountLate (by decide)
  · exact h.thenPost ..

theorem thenSetBillSecond (h : s.Touches setBillParts t) : s.Touches setBillParts (setBillSecond t) :=
  h.setSetBillParts ..

theorem thenPeriodEndStep (h : s.Touches setBillParts t) : s.Touches setBillParts (periodEndStep t) :=
  h.thenWhenRuns _ fun v => ite (refl _ v).thenEndPeriod (refl _ v)

theorem thenWindowEndStep (h : s.Touches setBillParts t) : s.Touches setBillParts (windowEndStep t) :=
  h.thenWhenRuns _ fun v => ite (refl _ v).thenEndWindow (refl _ v)

theorem thenRepeatClose (h : s.Touches setBillParts t) : s.Touches setBillParts (repeatClose t) := by
  unfold repeatClose
  split
  · exact (h.thenPostClose ..).setSetBillParts ..
  · exact h

theorem thenStartSetBill (h : s.Touches setBillParts t) : s.Touches setBillParts (startSetBill t) := by
  unfold startSetBill
  dsimp only
  split
  · exact ((h.setSetBillParts ..).thenOpenPeriod _).thenRepeatClose
  · have hr : s.Touches setBillParts (repeatClose (interrupt
        { t with setBill := { clearClaims t.setBill with putOff := false } })) :=
      ((h.setSetBillParts ..).setSetBillParts ..).thenRepeatClose
    exact ite (ite (hr.setSetBillParts ..) hr.thenEndPeriod) hr

theorem thenRewarmSetBill (h : s.Touches setBillParts t) : s.Touches setBillParts (rewarmSetBill t) :=
  ((h.setSetBillParts ..).setSetBillParts ..).thenRepeatClose

/-! ### The BOARD's settlement unit -/

theorem setTableParts (h : s.Touches tableParts t) (b : BoardSettlement) (n : Nat) :
    s.Touches tableParts { t with boardBill := b, free := n } :=
  h.trans ⟨fun p hp => by
    have hr := Part.Same.refl p t
    cases p
    case boardBill | entries | free => simp at hp
    case order => exact fun g => g.of_same rfl rfl rfl rfl rfl rfl
    all_goals exact hr, fun hq => hq.of_same rfl rfl⟩

theorem thenSetTable (h : s.Touches tableParts t) (l : List Entry) : s.Touches tableParts (setTable t l) :=
  h.setTableParts ..

theorem thenLeaveTable (h : s.Touches tableParts t) (place : Nat) (o : SettleOutcome) (a : Option Nat) :
    s.Touches tableParts (leaveTable t place o a) := by
  unfold leaveTable
  split
  · exact ite (((h.thenSetTable _).setTableParts ..).thenAddRecord _) (h.thenSetTable _)
  · exact h

theorem thenMakeRoom (h : s.Touches tableParts t) : s.Touches tableParts (makeRoom t) := by
  refine ite h ?_
  split
  · exact h.thenLeaveTable ..
  · exact h

theorem thenMakeCurrent (h : s.Touches tableParts t) (set pos period : Nat) :
    s.Touches tableParts (makeCurrent t set pos period) := by
  unfold makeCurrent
  split
  · exact h.thenSetTable _
  · exact h.thenMakeRoom.thenSetTable _

theorem thenOpenFor (h : s.Touches tableParts t) (pos : Nat) : s.Touches tableParts (openFor t pos) :=
  h.thenMakeCurrent ..

theorem thenEndCurrent (h : s.Touches tableParts t) : s.Touches tableParts (endCurrent t) := h.thenSetTable _

theorem thenFeedbackAppears (h : s.Touches tableParts t) (pos : Nat) : s.Touches tableParts (feedbackAppears t pos) :=
  h.thenEndCurrent.thenOpenFor _

theorem thenFeedbackGoes (h : s.Touches tableParts t) (pos : Nat) : s.Touches tableParts (feedbackGoes t pos) := by
  refine ite ?_ h
  split
  · exact h.thenEndCurrent
  · exact h.thenEndCurrent.thenOpenFor _

theorem thenClaimEntry (h : s.Touches tableParts t) (place wait : Nat) :
    s.Touches tableParts (claimEntry t place wait) := by
  unfold claimEntry
  split
  · exact ite ((h.thenSetTable _).thenPost ..) (h.thenSetTable _)
  · exact h

theorem thenTurnOver (h : s.Touches tableParts t) (place wait : Nat) (e : Entry) (following : Nat) :
    s.Touches tableParts (turnOver t place wait e following) := (h.thenClaimEntry ..).thenMakeCurrent ..

theorem thenClaimAgain (h : s.Touches tableParts t) (place window : Nat) (e : Entry) :
    s.Touches tableParts (claimAgain t place window e) := (h.thenSetTable _).thenPost ..

theorem thenCloseActs (h : s.Touches tableParts t) (place window again : Nat) (e : Entry) :
    s.Touches tableParts (closeActs t place window again e) := by
  unfold closeActs
  split
  · exact h.thenTurnOver ..
  · exact h.thenClaimEntry ..
  · exact ite (h.thenClaimAgain ..) h

theorem thenCloseRows (h : s.Touches tableParts t) (set period window again : Nat) :
    s.Touches tableParts (closeRows t set period window again) := by
  unfold closeRows
  split
  · split
    · exact h.thenCloseActs ..
    · exact h
  · exact h

theorem thenCloseFrame (h : s.Touches tableParts t) (set period window again : Nat) :
    s.Touches tableParts (closeFrame t set period window again) :=
  have hh := ite (c := t.namesSet set) (h.setTableParts
    { t.boardBill with lastClosed := t.boardBill.lastClosed.filter (fun x => x.1 != set) ++ [(set, period)] } t.free) h
  ite hh (ite (hh.thenCloseRows ..) (ite ((hh.setTableParts ..).thenCloseRows ..) hh))

theorem thenStatusActs (h : s.Touches tableParts t) (r : Nat) (key : Nat × Nat) :
    s.Touches tableParts (statusActs r t key) := by
  unfold statusActs
  split
  · split
    · exact ite (h.thenTurnOver ..) (h.thenClaimEntry ..)
    · exact h
  · exact h

theorem thenBillStatus (h : s.Touches tableParts t) (set r : Nat) : s.Touches tableParts (billStatus t set r) :=
  foldl (fun v k => (refl _ v).thenStatusActs r k) h _

theorem thenAllotFrame (h : s.Touches tableParts t) (set period fuel outcome : Nat) :
    s.Touches tableParts (allotFrame t set period fuel outcome) := by
  unfold allotFrame
  split
  · refine ite (h.thenLeaveTable ..) ?_
    split
    · exact h.thenLeaveTable ..
    · exact h
  · exact h

theorem thenBoardBillSecond (h : s.Touches tableParts t) : s.Touches tableParts (boardBillSecond t) := h.thenSetTable _

theorem thenClaimWaitStep (h : s.Touches tableParts t) (place : Nat) : s.Touches tableParts (claimWaitStep t place) := by
  refine h.thenWhenRuns _ fun v => ?_
  split
  · exact ite (ite (((refl _ v).thenSetTable _).thenPost ..) ((refl _ v).thenLeaveTable ..)) (refl _ v)
  · exact refl _ v

theorem thenLapseStep (h : s.Touches tableParts t) (place : Nat) : s.Touches tableParts (lapseStep t place) := by
  refine h.thenWhenRuns _ fun v => ?_
  split
  · exact ite ((refl _ v).thenLeaveTable ..) (refl _ v)
  · exact refl _ v

theorem thenReclaim (h : s.Touches tableParts t) (e : Entry) : s.Touches tableParts (reclaim t e) :=
  ite (h.thenPost ..) h

theorem thenStartBoardBill (h : s.Touches tableParts t) : s.Touches tableParts (startBoardBill t) := by
  have h1 := h.thenSetTable (t.boardBill.table.map (settleCurrent t))
  unfold startBoardBill
  dsimp only
  refine foldl (fun v e => (refl _ v).thenReclaim e) (thenSetTable (ite h1 ?_) _) _
  split
  · exact h1
  · exact h1.thenOpenFor _

end State.Touches

end Sys2Proof.Machine
end

section
/-! SUPPORT. The frames of the changeover controller, the metering unit and the peer table. -/

-- One proof after the other: each proof elaborated at the same time takes a thread's stack of the check's memory.
set_option Elab.async false

namespace Sys2Proof.Machine

/-! ### What the metering unit hands to the settlement table keeps its entries (R157) -/

theorem keys_atCurrent {f : Entry → Entry} (hf : ∀ e, (f e).key = e.key) (l : List Entry) :
    (atCurrent f l).map Entry.key = l.map Entry.key := by
  rw [atCurrent, List.map_map]
  refine List.map_congr_left fun e _ => ?_
  by_cases h : e.state = .current <;> simp [h, hf]

theorem keys_placeWh (b : BoardSettlement) (n wh : Nat) :
    (placeWh b n wh).table.map Entry.key = b.table.map Entry.key := by
  unfold placeWh
  split
  · exact keys_atCurrent (fun e => by split <;> rfl) _
  · split <;> rfl

theorem keys_placePeak (b : BoardSettlement) (n p : Nat) :
    (placePeak b n p).table.map Entry.key = b.table.map Entry.key := by
  unfold placePeak
  split
  · rfl
  · exact keys_atCurrent (by exact fun _ => rfl) _

namespace State.Touches

variable {s t : State}

/-! ### The changeover controller -/

theorem setChg (h : s.Touches [.chg] t) (c : Changeover)
    (hc : t.chg.cmd = none → c.cmd = none := by first | exact id | exact fun _ => rfl)
    (hl : c.live = t.chg.live := by rfl) : s.Touches [.chg] { t with chg := c } :=
  h.trans ⟨fun p hp => by
    have hr := Part.Same.refl p t
    cases p
    case chg => simp at hp
    case cmdNone => exact hc
    case live => exact hl
    case order => exact fun g => g.of_same rfl rfl hl rfl rfl rfl
    all_goals exact hr, fun hq => hq.of_same rfl rfl⟩

theorem setSwitch (h : s.Touches switchParts t) (c : Changeover) (hl : c.live = t.chg.live := by rfl) :
    s.Touches switchParts { t with chg := c } :=
  h.trans ⟨fun p hp => by
    have hr := Part.Same.refl p t
    cases p
    case chg | cmdNone => simp at hp
    case live => exact hl
    case order => exact fun g => g.of_same rfl rfl hl rfl rfl rfl
    all_goals exact hr, fun hq => hq.of_same rfl rfl⟩

theorem thenEnterChg (h : s.Touches [.chg] t) (st : ChgState) : s.Touches [.chg] (enterChg t st) :=
  (h.setChg _).thenPostStatus

theorem thenReleaseTarget (h : s.Touches [.chg] t) (a : Attempt) : s.Touches [.chg] (releaseTarget t a) :=
  (h.thenPost ..).setChg _

theorem thenAskCandidate (h : s.Touches [.chg] t) (a : Attempt) : s.Touches [.chg] (askCandidate t a) :=
  (h.setChg _).thenPost ..

theorem thenBeginAttempt (h : s.Touches [.chg] t) (r : Reason) (l : List Nat) :
    s.Touches [.chg] (beginAttempt t r l) := by
  refine ite ?_ (((h.setChg _).thenEnterChg _).thenAskCandidate _)
  exact (ite (h.setChg _) ((h.setChg _).thenAddRecord _)).setChg _

theorem thenTakeTrigger (h : s.Touches [.chg] t) (r : Reason) : s.Touches [.chg] (takeTrigger t r) :=
  h.thenBeginAttempt ..

theorem thenNoteTest (h : s.Touches [.chg] t) : s.Touches [.chg] (noteTest t) := by
  unfold noteTest
  split
  · exact ite (ite (ite h (h.thenTakeTrigger _)) (h.setChg _)) h
  · exact h

theorem thenIdleRows (h : s.Touches [.chg] t) (rows : List Reason) : s.Touches [.chg] (idleRows t rows) := by
  refine ite ?_ h
  split
  · exact h.thenTakeTrigger _
  · exact h.thenNoteTest

theorem thenCloseAttempt (h : s.Touches [.chg] t) (a : Attempt) (o : ChgOutcome) :
    s.Touches [.chg] (closeAttempt t a o) := (h.thenAddRecord _).setChg _

theorem thenEndAttempt (h : s.Touches [.chg] t) (a : Attempt) (o : ChgOutcome) : s.Touches [.chg] (endAttempt t a o) :=
  ((h.thenCloseAttempt a o).thenEnterChg .idle).thenIdleRows allRows

theorem thenNextCandidate (h : s.Touches [.chg] t) (a : Attempt) : s.Touches [.chg] (nextCandidate t a) := by
  unfold nextCandidate
  split
  · exact (ite h (h.thenEnterChg _)).thenAskCandidate _
  · exact h.thenEndAttempt ..

theorem thenAbandonCandidate (h : s.Touches [.chg] t) (a : Attempt) : s.Touches [.chg] (abandonCandidate t a) :=
  (h.thenReleaseTarget _).thenNextCandidate _

theorem thenTakeSwitchFault (h : s.Touches [.chg] t) (cause : SwitchFault) :
    s.Touches [.chg] (takeSwitchFault t cause) := by
  have h2 : s.Touches [.chg] (addEvent { setCmd t none with chg := { (setCmd t none).chg with fault := some cause } }
    (.switchFaultRaised cause (feedbacks t))) := ((h.setChg _).setChg _).thenAddEvent _
  unfold takeSwitchFault
  dsimp only
  split
  · exact ((ite (h2.thenReleaseTarget _) h2).thenCloseAttempt ..).thenEnterChg _
  · exact h2.thenEnterChg _

theorem thenCommitMove (h : s.Touches [.chg] t) (a : Attempt) : s.Touches [.chg] (commitMove t a) :=
  have hc := (h.thenEnterChg .committing).thenPost (t.image.setAt a.target)
    (.commit a.ticket ((enterChg t .committing).chg.lastLive.getD a.estimate))
  (ite (hc.thenPost ..) hc).thenEndAttempt ..

theorem thenEnterDead (h : s.Touches [.chg] t) (a : Attempt) : s.Touches [.chg] (enterDead t a) :=
  (h.setChg _).thenEnterChg _

/-- An operation that issues no switch command, where one may be issued. -/
theorem thenStage {u : State} (h : s.Touches switchParts t) (g : t.Touches [.chg] u) : s.Touches switchParts u :=
  h.andThen g (by decide)

theorem thenMoveSwitch (h : s.Touches switchParts t) (a : Attempt) : s.Touches switchParts (moveSwitch t a) :=
  ite (h.thenStage (((refl _ t).setChg _).thenCommitMove _))
    (ite (((h.setSwitch _).setSwitch _).thenStage ((refl _ _).thenEnterChg _)) (h.thenStage ((refl _ t).thenEnterDead _)))

theorem thenMakeFor (h : s.Touches switchParts t) (a : Attempt) (pos : Nat) (r : Bool) :
    s.Touches switchParts (makeFor t a pos r) :=
  have hm : s.Touches switchParts (enterChg (setAttempt t (some { a with returning := r })) .making) :=
    h.thenStage (((refl _ t).setChg _).thenEnterChg _)
  ite (hm.setSwitch _) (hm.thenStage ((refl _ _).thenTakeSwitchFault _))

theorem thenDeadTimeOver (h : s.Touches switchParts t) (a : Attempt) : s.Touches switchParts (deadTimeOver t a) :=
  have hr := h.thenStage ((refl _ t).thenReleaseTarget a)
  ite (h.thenMakeFor ..) (ite (hr.thenMakeFor ..) (hr.thenStage ((refl _ _).thenEndAttempt ..)))

theorem thenMadeContact (h : s.Touches [.chg] t) (a : Attempt) : s.Touches [.chg] (madeContact t a) :=
  ite ((h.setChg _).thenEndAttempt ..) ((h.setChg _).thenCommitMove _)

theorem thenFollowFeedback (h : s.Touches [.chg] t) (pos : Nat) (level : Bool) :
    s.Touches [.chg] (followFeedback t pos level) := by
  refine ite (h.thenTakeSwitchFault _) ?_
  split
  · exact ite (h.thenIdleRows _) h
  · exact ite ((h.setChg _).thenEnterDead _) h
  · exact ite (h.thenTakeSwitchFault _) h
  · refine ite ?_ h
    split
    · exact ite (h.thenMadeContact _) (h.thenTakeSwitchFault _)
    · exact h.thenTakeSwitchFault _
  · exact h

theorem thenTakeReplyFrame (h : s.Touches switchParts t) (sender ticket verdict : Nat) :
    s.Touches switchParts (takeReplyFrame t sender ticket verdict) := by
  unfold takeReplyFrame
  split
  · refine ite ?_ h
    split
    · exact ite (h.thenMoveSwitch _) (ite (h.thenStage (((refl _ t).setChg _).thenEnterChg _))
        (ite (h.thenStage ((refl _ t).thenNextCandidate _)) h))
    · exact ite (h.thenMoveSwitch _) (ite (h.thenStage ((refl _ t).thenNextCandidate _)) h)
    all_goals exact h
  · exact h

theorem thenDryFrame (h : s.Touches [.chg] t) (sender : Nat) : s.Touches [.chg] (dryFrame t sender) := by
  have hn (c : Prop) [Decidable c] : s.Touches [.chg] (if c then noteDry t sender else t) := ite (h.setChg _) h
  unfold dryFrame
  dsimp only
  split
  · exact ite (ite (h.thenTakeTrigger _) (h.setChg _)) h
  · exact ite ((hn _).thenAbandonCandidate _) (hn _)
  · exact ite ((hn _).thenAbandonCandidate _) (hn _)
  · exact hn _
  · exact hn _
  · exact hn _
  · exact h

theorem thenChgStatus (h : s.Touches [.chg] t) (set : Nat) (b : SetStatus) : s.Touches [.chg] (chgStatus t set b) := by
  unfold chgStatus
  split
  · exact ite (h.thenAbandonCandidate _) h
  · exact ite (h.thenIdleRows _) h
  · exact h

theorem thenChgSecond (h : s.Touches [.chg] t) : s.Touches [.chg] (chgSecond t) := h.setChg _

theorem thenSwitchTimeoutStep (h : s.Touches [.chg] t) : s.Touches [.chg] (switchTimeoutStep t) := by
  refine h.thenWhenRuns _ fun v => ite ?_ (refl _ v)
  unfold cmdOver
  split
  · exact (refl _ v).thenTakeSwitchFault _
  · exact (refl _ v).thenTakeSwitchFault _
  · exact (refl _ v).setChg _

theorem thenTakeResendStep (h : s.Touches [.chg] t) : s.Touches [.chg] (takeResendStep t) := by
  refine h.thenWhenRuns _ fun v => ite ?_ (refl _ v)
  unfold seekOver
  split
  · exact ite (((refl _ v).setChg _).thenPost ..) ((refl _ v).thenAbandonCandidate _)
  · exact refl _ v

theorem thenWaitingTimeoutStep (h : s.Touches [.chg] t) : s.Touches [.chg] (waitingTimeoutStep t) := by
  refine h.thenWhenRuns _ fun v => ite ?_ (refl _ v)
  unfold waitOver180
  split
  · exact (refl _ v).thenAbandonCandidate _
  · exact refl _ v

theorem thenDeadTimeStep (h : s.Touches switchParts t) : s.Touches switchParts (deadTimeStep t) := by
  refine h.thenWhenRuns _ fun v => ite ?_ (refl _ v)
  unfold deadOver
  split
  · exact (refl _ v).thenDeadTimeOver _
  · exact refl _ v

theorem thenRetryStep (h : s.Touches [.chg] t) : s.Touches [.chg] (retryStep t) := by
  refine h.thenWhenRuns _ fun v => ite ?_ (refl _ v)
  have hv := (refl [.chg] v).setChg { v.chg with retry := none }
  refine ite ?_ hv
  split
  · exact hv.thenTakeTrigger _
  · exact ite (hv.thenTakeTrigger _) hv.thenNoteTest

theorem thenDwellStep (h : s.Touches [.chg] t) : s.Touches [.chg] (dwellStep t) :=
  h.thenWhenRuns _ fun v => ite (ite ((refl _ v).setChg _).thenNoteTest ((refl _ v).setChg _)) (refl _ v)

theorem thenAdoptStage (h : s.Touches [.chg] t) : s.Touches [.chg] (adoptStage t) :=
  ite ((h.setChg _).thenTakeSwitchFault _) ((h.setChg _).thenIdleRows _)

theorem thenRewarmStage (h : s.Touches [.chg] t) : s.Touches [.chg] (rewarmStage t) := ite (h.setChg _) h.thenAdoptStage

/-! ### The metering unit -/

theorem setMeterParts (h : s.Touches meterParts t) (m : Metering) (b : BoardSettlement) (n : Nat)
    (hm : m.channels.length = t.meter.channels.length := by first | rfl | exact List.length_set)
    (hb : b.table.map Entry.key = t.boardBill.table.map Entry.key := by rfl) :
    s.Touches meterParts { t with meter := m, boardBill := b, free := n } :=
  h.trans ⟨fun p hp => by
    have hr := Part.Same.refl p t
    cases p
    case meter | boardBill | pulses | duty | reservations | free => simp at hp
    case channelCount => exact hm
    case entries => exact hb
    case order => exact fun g => g.of_same rfl hm rfl rfl rfl rfl
    all_goals exact hr, fun hq => hq.of_same rfl rfl⟩

theorem thenMeterEvent (h : s.Touches meterParts t) {f : State → State} (hf : ∀ v : State, v.Touches actParts (f v)) :
    s.Touches meterParts (dutyEvent t f) := h.andThen ((refl _ t).thenDutyEvent hf) (by decide)

theorem thenHandSecond (h : s.Touches meterParts t) (n wh p : Nat) : s.Touches meterParts (handSecond t n wh p) :=
  ite (h.setMeterParts _ _ _ rfl ((keys_placePeak ..).trans (keys_placeWh ..))) h

theorem thenMeterSecond (h : s.Touches meterParts t) (n p : Nat) : s.Touches meterParts (meterSecond n p t) :=
  (h.setMeterParts ..).thenHandSecond ..

theorem thenAddUnmetered (h : s.Touches meterParts t) (n d : Nat) : s.Touches meterParts (addUnmetered n d t) :=
  ite ((h.setMeterParts ..).setMeterParts _ _ _ rfl (keys_atCurrent (by exact fun _ => rfl) _)) (h.setMeterParts ..)

theorem thenLeaveLost (h : s.Touches meterParts t) (n : Nat) : s.Touches meterParts (leaveLost n t) :=
  ite (ite (h.thenAddEvent _) (ite (h.thenMeterEvent fun v => (refl _ v).thenClearCondition _) h)) h

theorem thenResynchronise (h : s.Touches meterParts t) (n stamp p : Nat) :
    s.Touches meterParts (resynchronise n stamp p t) :=
  (((h.thenLeaveLost n).setMeterParts ..).setMeterParts ..).thenHandSecond ..

theorem thenFillGap (h : s.Touches meterParts t) (n last m : Nat) : s.Touches meterParts (fillGap n last m t) := by
  induction m generalizing t with
  | zero => exact h
  | succ m ih => exact ih (h.thenMeterSecond ..)

theorem thenTakeStep (h : s.Touches meterParts t) (n stamp p k last : Nat) :
    s.Touches meterParts (takeStep n stamp p k last t) :=
  have hg := h.thenFillGap n last (filledSeconds k)
  ((ite (hg.thenAddUnmetered ..) hg).thenMeterSecond ..).setMeterParts ..

theorem thenOfferReading (h : s.Touches meterParts t) (n stamp : Nat) (power : Int) :
    s.Touches meterParts (offerReading n stamp power t) := by
  refine ite ?_ h
  dsimp only
  split
  · exact ite h (h.thenTakeStep ..)
  · exact ite h (h.thenTakeStep ..)
  · exact h.thenResynchronise ..

theorem thenJudgeReading (h : s.Touches meterParts t) (l : List Byte) : s.Touches meterParts (judgeReading l t) := by
  unfold judgeReading
  split
  · exact ite (h.setMeterParts ..) (ite (h.setMeterParts ..) (h.thenOfferReading ..))
  · exact h

theorem thenPassReading (h : s.Touches meterParts t) (l : List Byte) : s.Touches meterParts (passReading l t) := by
  unfold passReading
  split
  · exact ite (h.setMeterParts ..) h
  · exact h

theorem thenCompleteReading (h : s.Touches meterParts t) (l : List Byte) :
    s.Touches meterParts (completeReading l t) :=
  ite ((h.setMeterParts ..).thenPassReading _) ((h.setMeterParts ..).thenJudgeReading _)

theorem thenLinkChar (h : s.Touches meterParts t) (c : Byte) : s.Touches meterParts (linkChar t c) := by
  unfold linkChar
  split
  · exact ite (h.setMeterParts ..) h
  · exact ite (h.setMeterParts ..) (h.thenCompleteReading _)

theorem thenReadMeter (h : s.Touches meterParts t) (l : List Byte) : s.Touches meterParts (readMeter l t) :=
  foldl (fun v c => (refl _ v).thenLinkChar c) h _

theorem thenEndReading (h : s.Touches meterParts t) : s.Touches meterParts (endReading t) :=
  ite h ((h.setMeterParts ..).setMeterParts ..)

theorem thenChannelSecond (h : s.Touches meterParts t) (n : Nat) : s.Touches meterParts (channelSecond t n) :=
  ite (ite ((h.setMeterParts ..).thenAddUnmetered ..) (h.setMeterParts ..)) h

theorem thenMeterTick (h : s.Touches meterParts t) : s.Touches meterParts (meterTick t) :=
  foldl (fun v n => (refl _ v).thenChannelSecond n) h _

theorem thenLostNotices (h : s.Touches meterParts t) (n : Nat) : s.Touches meterParts (lostNotices n t) :=
  ite ((ite (h.setMeterParts _ _ _ rfl (keys_atCurrent (by exact fun _ => rfl) _)) h).thenAddEvent _)
    (ite (h.thenMeterEvent fun v => (refl _ v).thenRaiseCondition _) h)

theorem thenEnterLost (h : s.Touches meterParts t) (n : Nat) : s.Touches meterParts (enterLost n t) :=
  ((h.setMeterParts ..).thenAddUnmetered ..).thenLostNotices _

theorem thenChannelStalledStep (h : s.Touches meterParts t) (n : Nat) : s.Touches meterParts (channelStalledStep t n) :=
  h.thenWhenAwake fun v => ite ((refl _ v).setMeterParts ..) (refl _ v)

theorem thenChannelLostStep (h : s.Touches meterParts t) (n : Nat) : s.Touches meterParts (channelLostStep t n) :=
  h.thenWhenAwake fun v => ite ((refl _ v).thenEnterLost _) (refl _ v)

theorem thenLostAtStart (h : s.Touches meterParts t) : s.Touches meterParts (lostAtStart t) :=
  foldl (fun v n => ite ((refl _ v).thenLostNotices n) (refl _ v)) h _

/-! ### The peer table -/

theorem setPeers (h : s.Touches [.peers] t) (l : List Peer) : s.Touches [.peers] { t with peers := l } :=
  h.trans ⟨fun p hp => by
    have hr := Part.Same.refl p t
    cases p
    case peers => simp at hp
    case order => exact fun g => g.of_same rfl rfl rfl rfl rfl rfl
    all_goals exact hr, fun hq => hq.of_same rfl rfl⟩

theorem thenShowPeer (h : s.Touches [.peers] t) (sender : Nat) (b : Option StatusBody) :
    s.Touches [.peers] (showPeer t sender b) := ite (h.setPeers _) h

theorem thenPeersSecond (h : s.Touches [.peers] t) : s.Touches [.peers] (peersSecond t) := h.setPeers _

theorem thenPeerStaleStep (h : s.Touches [.peers] t) (n : Nat) : s.Touches [.peers] (peerStaleStep t n) :=
  h.thenWhenAwake fun v => ite ((refl _ v).setPeers _) (refl _ v)

theorem thenNoticeLost (h : s.Touches dutyParts t) (n : Nat) : s.Touches dutyParts (noticeLost t n) :=
  ite (h.thenDutyEvent fun v => (refl _ v).thenFeedLost n) h

theorem thenPeerLostStep (h : s.Touches (.peers :: dutyParts) t) (n : Nat) :
    s.Touches (.peers :: dutyParts) (peerLostStep t n) :=
  h.thenWhenAwake fun v => ite
    ((((refl [.peers] v).setPeers _).mono (by decide)).andThen ((refl dutyParts (gradePeer v n .lost)).thenNoticeLost n)
      (by decide)) (refl _ v)

theorem thenStatusSecond {ps : List Part} (h : s.Touches ps t) : s.Touches ps (statusSecond t) :=
  h.trans ⟨fun p _ => by
    have hr := Part.Same.refl p t
    cases p
    case order => exact fun g => g.of_same rfl rfl rfl rfl rfl rfl
    all_goals exact hr, fun hq => hq.of_same rfl rfl⟩

theorem thenStatusStep {ps : List Part} (h : s.Touches ps t) : s.Touches ps (statusStep t) :=
  h.thenWhenAwake fun v => ite (refl _ v).thenPostStatus (refl _ v)

end State.Touches

end Sys2Proof.Machine
end

section
/-! SUPPORT for the five invariants: what each of them asks of an operation. -/

-- One proof after the other: each proof elaborated at the same time takes a thread's stack of the check's memory.
set_option Elab.async false

namespace Sys2Proof.Machine

/-! ### What the invariants read -/

theorem closedList_of_same {s t : State} (h : t.inputs = s.inputs) : t.closedList = s.closedList := by
  have : t.input = s.input := funext (input_of_same h)
  simp [State.closedList, this]

theorem State.Interlocked.of_released {t : State} (hi : t.inputs.length = 6) (hc : t.chg.cmd = none) : t.Interlocked :=
  ⟨hi, fun h => absurd hc h, fun h => absurd hc h, fun h => by simp [hc] at h, fun _ h => by simp [hc] at h⟩

theorem State.Interlocked.of_same {s t : State} (h : s.Interlocked) (hi : t.inputs = s.inputs)
    (hst : t.station = s.station) (him : t.image = s.image) (hc : t.chg = s.chg) : t.Interlocked := by
  refine ⟨hi ▸ h.sixInputs, ?_, ?_, ?_, ?_⟩
  · rw [hc, runs_of_same hst him]; exact h.inBoard
  · rw [hc]; exact h.attempting
  · rw [hc]; exact h.opening
  · rw [hc, closedList_of_same hi]; exact h.closing

theorem sumOf_le_of_sublist {l l' : List Nat} (h : l.Sublist l') : sumOf l ≤ sumOf l' := by
  induction h with
  | slnil => exact Nat.le_refl _
  | cons a _ ih => exact Nat.le_trans ih (Nat.le_add_left _ a)
  | cons_cons a _ ih => exact Nat.add_le_add_left ih a

theorem map_promise_fst (l : List Reservation) : l.map Reservation.board = (l.map Reservation.promise).map Prod.fst := by
  simp [Function.comp_def, Reservation.promise]

theorem map_promise_snd (l : List Reservation) : l.map Reservation.load = (l.map Reservation.promise).map Prod.snd := by
  simp [Function.comp_def, Reservation.promise]

/-- Lists that have only shrunk keep the promises. -/
theorem State.PromisesKept.of_shrink {s t : State} (h : s.PromisesKept)
    (hl : ListsShrink s.duty s.reservations t.duty t.reservations)
    (hc : (t.setBill.claims.map Claim.board).Sublist (s.setBill.claims.map Claim.board))
    (hst : t.station = s.station) (him : t.image = s.image) : t.PromisesKept := by
  obtain ⟨hf, hr⟩ := hl
  have hb : (t.reservations.map Reservation.board).Sublist (s.reservations.map Reservation.board) := by
    rw [map_promise_fst, map_promise_fst]; exact hr.map _
  refine ⟨?_, ?_, ?_, h.feedOnce.sublist hf, h.reservedOnce.sublist hb, h.claimedOnce.sublist hc, ?_, ?_, ?_⟩
  · simpa using Nat.le_trans hf.length_le (by simpa using h.feed)
  · simpa using Nat.le_trans hr.length_le (by simpa using h.reservations)
  · simpa using Nat.le_trans hc.length_le (by simpa using h.claims)
  · intro r hmr e hme heq
    obtain ⟨r', hr', hrb⟩ := List.mem_map.mp (hb.subset (List.mem_map_of_mem hmr))
    obtain ⟨e', he', heb⟩ := List.mem_map.mp (hf.subset (List.mem_map_of_mem hme))
    exact h.apart r' hr' e' he' (by rw [hrb, heb, heq])
  · have : t.reservedSum ≤ s.reservedSum := by
      unfold State.reservedSum
      rw [map_promise_snd, map_promise_snd]
      exact sumOf_le_of_sublist (hr.map _)
    rw [him]; exact Nat.le_trans this h.promised
  · intro hu
    have := hr.length_le
    simpa [h.noneBeforeRun (hst ▸ hu)] using this

/-- A table with the same entries, as far as the invariant looks at them. -/
theorem State.TableFollows.of_keys {s t : State} (h : s.TableFollows)
    (hk : t.boardBill.table.map Entry.key = s.boardBill.table.map Entry.key) (hi : t.inputs = s.inputs)
    (hst : t.station = s.station) (him : t.image = s.image) : t.TableFollows := by
  have hcount (l : List Entry) : (l.filter (fun e => e.state == .current)).length =
      ((l.map Entry.key).filter (fun k => k.2.2.2 == .current)).length := by
    simp [List.filter_map, Function.comp_def, Entry.key]
  have honce (l : List Entry) : (l.filter (fun e => e.period != 0)).map (fun e => (e.set, e.period)) =
      ((l.map Entry.key).filter (fun k => k.2.2.1 != 0)).map (fun k => (k.1, k.2.2.1)) := by
    simp [List.filter_map, Function.comp_def, Entry.key]
  have hmem : ∀ e ∈ t.boardBill.table, ∃ e' ∈ s.boardBill.table, e'.key = e.key := fun e he =>
    List.mem_map.mp (hk ▸ List.mem_map_of_mem he)
  have hcur (l : List Entry) : hasCurrent l = (l.map Entry.key).any (fun k => k.2.2.2 == .current) := by
    simp [hasCurrent, Function.comp_def, Entry.key]
  refine ⟨hi ▸ h.sixInputs, ?_, ?_, ?_, ?_, ?_, ?_⟩
  · have := congrArg List.length hk
    simp only [List.length_map] at this
    rw [this]; exact h.size
  · rw [hcount, hk, ← hcount]; exact h.current
  · rw [honce, hk, ← honce]; exact h.once
  · intro e he
    obtain ⟨e', he', heq⟩ := hmem e he
    have hp : e'.pos = e.pos := congrArg (fun k => k.2.1) heq
    exact hp ▸ h.positions e' he'
  · rw [runs_of_same hst him, closedList_of_same hi]
    intro hr e he hec
    obtain ⟨e', he', heq⟩ := hmem e he
    have hp : e'.pos = e.pos := congrArg (fun k => k.2.1) heq
    have hs : e'.state = e.state := congrArg (fun k => k.2.2.2) heq
    exact hp ▸ h.onClosed hr e' he' (hs.trans hec)
  · rw [runs_of_same hst him, closedList_of_same hi, hcur, hk, ← hcur]
    exact h.whileClosed

/-! ### All five at once -/

/-- An operation keeps each of the five invariants. -/
structure State.Keeps (s t : State) : Prop where
  queues : s.QueuesFit → t.QueuesFit
  interlock : s.Interlocked → t.Interlocked
  promises : s.PromisesKept → t.PromisesKept
  table : s.TableFollows → t.TableFollows
  order : s.KeptInOrder → t.KeptInOrder

theorem State.Keeps.refl (s : State) : s.Keeps s := ⟨id, id, id, id, id⟩

theorem State.Keeps.trans {s t u : State} (h : s.Keeps t) (g : t.Keeps u) : s.Keeps u :=
  ⟨g.queues ∘ h.queues, g.interlock ∘ h.interlock, g.promises ∘ h.promises, g.table ∘ h.table, g.order ∘ h.order⟩

theorem State.Keeps.ite {s t u : State} {c : Prop} [Decidable c] (h : c → s.Keeps t) (g : ¬ c → s.Keeps u) :
    s.Keeps (if c then t else u) := by
  split
  · exact h ‹_›
  · exact g ‹_›

theorem State.Keeps.foldl {α : Type} {f : State → α → State} (hf : ∀ (v : State) x, v.Keeps (f v x)) (l : List α)
    (s : State) : s.Keeps (l.foldl f s) := by
  induction l generalizing s with
  | nil => exact .refl s
  | cons x l ih => exact (hf s x).trans (ih _)

theorem State.Keeps.whenAwake {s : State} {f : State → State} (hf : s.awake = true → s.Keeps (f s)) :
    s.Keeps (whenAwake s f) := .ite hf fun _ => .refl s

theorem State.Keeps.whenRuns {r : Role} {s : State} {f : State → State}
    (hf : s.awake = true → s.runs r = true → s.Keeps (f s)) : s.Keeps (whenRuns r s f) :=
  .ite (fun h => by rw [Bool.and_eq_true] at h; exact hf h.1 h.2) fun _ => .refl s

/-- The parts that the invariants read, beside the queues. -/
abbrev readParts : List Part :=
  [.station, .image, .inputs, .lists, .chg, .claimList, .entries, .order]

/-- An operation that touches nothing the invariants read keeps them. -/
theorem State.Touches.keeps {ps : List Part} {s t : State} (h : s.Touches ps t) (hq : ∀ p ∈ readParts, p ∉ ps) :
    s.Keeps t := by
  have hst : t.station = s.station := h.same _ (hq .station (by decide))
  have him : t.image = s.image := h.same _ (hq .image (by decide))
  have hi : t.inputs = s.inputs := h.same _ (hq .inputs (by decide))
  have hc : t.chg = s.chg := h.same _ (hq .chg (by decide))
  exact ⟨h.queues, fun g => g.of_same hi hst him hc,
    fun g => g.of_shrink (h.same .lists (hq _ (by decide))) (h.same .claimList (hq _ (by decide))) hst him,
    fun g => g.of_keys (h.same .entries (hq _ (by decide))) hi hst him,
    h.same .order (hq _ (by decide))⟩

end Sys2Proof.Machine
end

section
/-! SUPPORT for the five invariants: the promises of a SET through TAKE, COMMIT and a BOARD's STATUS, where a board may join
its lists. -/

-- One proof after the other: each proof elaborated at the same time takes a thread's stack of the check's memory.
set_option Elab.async false

namespace Sys2Proof.Machine

/-! ### A board in neither list -/

/-- The board is neither fed nor promised. -/
def State.Absent (s : State) (board : Nat) : Prop :=
  board ∉ s.duty.feed.map FeedEntry.board ∧ board ∉ s.reservations.map Reservation.board

/-- Lists that only shrink do not take a board in. -/
theorem State.Absent.of_shrink {s t : State} {board : Nat} (h : s.Absent board)
    (hl : ListsShrink s.duty s.reservations t.duty t.reservations) : t.Absent board := by
  refine ⟨fun hm => h.1 (hl.1.subset hm), fun hm => h.2 ?_⟩
  rw [map_promise_fst] at hm ⊢
  exact (hl.2.map _).subset hm

theorem State.Touches.promises {ps : List Part} {s t : State} (h : s.Touches ps t)
    (hq : ∀ p ∈ [Part.lists, .claimList, .station, .image], p ∉ ps) (g : s.PromisesKept) : t.PromisesKept :=
  g.of_shrink (h.same .lists (hq _ (by simp))) (h.same .claimList (hq _ (by simp))) (h.same .station (hq _ (by simp)))
    (h.same .image (hq _ (by simp)))

theorem State.Touches.absent {ps : List Part} {s t : State} (h : s.Touches ps t) (hq : Part.lists ∉ ps) {board : Nat}
    (g : s.Absent board) : t.Absent board := g.of_shrink (h.same .lists hq)

theorem reservedSum_of_shrink {s t : State} (hl : ListsShrink s.duty s.reservations t.duty t.reservations) :
    t.reservedSum ≤ s.reservedSum := by
  unfold State.reservedSum
  rw [map_promise_snd, map_promise_snd]
  exact sumOf_le_of_sublist (hl.2.map _)

@[simp] theorem sumOf_nil : sumOf [] = 0 := rfl

@[simp] theorem sumOf_cons (a : Nat) (l : List Nat) : sumOf (a :: l) = a + sumOf l := rfl

theorem sumOf_append (l m : List Nat) : sumOf (l ++ m) = sumOf l + sumOf m := by
  induction l with
  | nil => simp
  | cons a l ih => rw [List.cons_append, sumOf_cons, sumOf_cons, ih, Nat.add_assoc]

/-! ### Joining -/

/-- A board in neither list joins the feed list where it has room. -/
theorem State.PromisesKept.feedJoin {s : State} (h : s.PromisesKept) {board : Nat} (hn : s.Absent board)
    (hroom : s.duty.feed.length < feedCap) (load : Nat) : (feedJoin s board load).PromisesKept := by
  refine ⟨?_, h.reservations, h.claims, ?_, h.reservedOnce, h.claimedOnce, ?_, h.promised, h.noneBeforeRun⟩
  · simpa [Machine.feedJoin] using Nat.succ_le_of_lt hroom
  · simpa [Machine.feedJoin, List.nodup_append, h.feedOnce] using hn.1
  · intro r hr e he
    rcases List.mem_append.mp he with he | he
    · exact h.apart r hr e he
    · rw [List.mem_singleton.mp he]
      exact fun hb => hn.2 (by rw [← (show r.board = board from hb)]; exact List.mem_map_of_mem hr)

/-- A board in neither list joins the reservation list where it has a place and its load room. -/
theorem State.PromisesKept.reserve {s : State} (h : s.PromisesKept) {board : Nat} (hn : s.Absent board)
    (hrun : s.station = .run) (hroom : s.reservations.length < reservationCap) {load : Nat}
    (hload : load + s.reservedSum ≤ s.image.usable) (ticket : Nat) (hold : Option Nat) :
    (reserve s board ticket load hold).PromisesKept := by
  refine ⟨h.feed, ?_, h.claims, h.feedOnce, ?_, h.claimedOnce, ?_, ?_, ?_⟩
  · simpa [Machine.reserve] using Nat.succ_le_of_lt hroom
  · simpa [Machine.reserve, List.nodup_append, h.reservedOnce] using hn.2
  · intro r hr e he
    rcases List.mem_append.mp hr with hr | hr
    · exact h.apart r hr e he
    · rw [List.mem_singleton.mp hr]
      exact fun hb => hn.1 (by rw [show board = e.board from hb]; exact List.mem_map_of_mem he)
  · have : (Machine.reserve s board ticket load hold).reservedSum = s.reservedSum + load := by
      simp [State.reservedSum, Machine.reserve, sumOf_append]
    rw [this]
    exact Nat.le_trans (Nat.le_of_eq (Nat.add_comm _ _)) hload
  · intro hu
    rw [show (Machine.reserve s board ticket load hold).station = s.station from rfl, hrun] at hu
    cases hu

/-! ### TAKE -/

/-- What a free headroom leaves: the board's load fits beside the promises. -/
theorem fits_of_headroom {s : State} {load : Nat} (h : (load : Int) ≤ s.headroom) :
    load + s.reservedSum ≤ s.image.usable := by
  unfold State.headroom at h
  omega

/-- What the tests on the place leave: room in the reservation list. -/
theorem room_of_placeRefusal {s : State} (h : placeRefusal s = none) : s.reservations.length < reservationCap := by
  unfold placeRefusal at h
  grind

theorem State.PromisesKept.replyTo {s : State} (h : s.PromisesKept) (board ticket verdict reason hold : Nat) :
    (replyTo s board ticket verdict reason hold).PromisesKept :=
  ((State.Touches.refl actParts s).thenReplyTo ..).promises (by decide) h

theorem State.PromisesKept.judgeTake {s : State} (h : s.PromisesKept) {board : Nat} (hn : s.Absent board)
    (hrun : s.station = .run) (ticket load : Nat) : (judgeTake s board ticket load).PromisesKept := by
  unfold Machine.judgeTake
  split
  · exact h.replyTo ..
  · rename_i hplace
    have hroom := room_of_placeRefusal hplace
    split
    · unfold grantTest
      split
      · rename_i hload
        refine State.PromisesKept.replyTo ?_ ..
        have g : s.Touches actParts (if s.duty.state = .cooling then enterReady s false else s) :=
          .ite ((State.Touches.refl _ s).thenEnterReady _) (.refl _ s)
        generalize (if s.duty.state = .cooling then enterReady s false else s) = u at g ⊢
        have hl := g.same .lists (by decide)
        refine (g.promises (by decide) h).reserve (g.absent (by decide) hn) (Eq.trans (g.same .station (by decide)) hrun) ?_ ?_ ..
        · exact Nat.lt_of_le_of_lt (by simpa using hl.2.length_le : u.reservations.length ≤ _) hroom
        · rw [show u.image = s.image from g.same .image (by decide)]
          exact Nat.le_trans (Nat.add_le_add_left (reservedSum_of_shrink hl) load) (fits_of_headroom hload)
      · exact h.replyTo ..
    · unfold pendingTest
      split
      · rename_i hload
        have hr : (Machine.replyTo (Machine.reserve s board ticket load none) board ticket verdictPending reasonNone 0).PromisesKept :=
          (h.reserve hn hrun hroom hload ..).replyTo ..
        dsimp only
        split
        · exact ((State.Touches.refl actParts _).thenStartEngine).promises (by decide) hr
        · exact hr
      · exact h.replyTo ..

/-- A board taken from the reservation list and not fed is in neither list. -/
theorem absent_withoutBoard {s : State} {board : Nat} (hf : board ∉ s.duty.feed.map FeedEntry.board) :
    ({ s with reservations := withoutBoard board s.reservations } : State).Absent board :=
  ⟨hf, by simp [withoutBoard]⟩

theorem promises_withoutBoard {s : State} (h : s.PromisesKept) (board : Nat) :
    ({ s with reservations := withoutBoard board s.reservations } : State).PromisesKept :=
  ((State.Touches.refl actParts s).setDutyParts s.pulses s.duty _ s.free (listsShrink_withoutBoard ..)).promises
    (by decide) h

theorem State.PromisesKept.answerTake {s : State} (h : s.PromisesKept) {board : Nat}
    (hf : board ∉ s.duty.feed.map FeedEntry.board) (hrun : s.station = .run) (ticket load : Nat) :
    (answerTake s board ticket load).PromisesKept := by
  unfold Machine.answerTake
  split
  · exact State.PromisesKept.replyTo
      (((State.Touches.refl actParts s).thenReservationRemove board).promises (by decide) h) ..
  · unfold matchTake
    split
    · split
      · unfold repeatAnswer
        split <;> exact h.replyTo ..
      · exact (promises_withoutBoard h board).judgeTake (absent_withoutBoard hf) hrun ..
    · rename_i hnone
      refine h.judgeTake ⟨hf, fun hm => ?_⟩ hrun ..
      obtain ⟨r, hr, hb⟩ := List.mem_map.mp hm
      exact List.find?_eq_none.mp hnone r hr (by simp [hb])

/-- Whatever a TAKE does, its board has left the feed list first (R77). -/
theorem feedRemove_gone (s : State) (board : Nat) : board ∉ (feedRemove s board).duty.feed.map FeedEntry.board := by
  unfold feedRemove
  split
  · have hl := ((State.Touches.refl actParts
      { s with duty := { s.duty with feed := s.duty.feed.filter (fun e => e.board != board) } }).thenUnloadTest).same .lists
        (by decide)
    intro hm
    obtain ⟨e, he, hb⟩ := List.mem_map.mp (hl.1.subset hm)
    have hne := (List.mem_filter.mp he).2
    simp [hb] at hne
  · rename_i hn
    simpa [State.feeds] using hn

theorem State.PromisesKept.takeFrame {s : State} (h : s.PromisesKept) (hrun : s.station = .run)
    (board ticket load : Nat) : (takeFrame s board ticket load).PromisesKept := by
  unfold Machine.takeFrame
  split
  · exact h
  · have g : s.Touches actParts (feedRemove { s with duty := { s.duty with idle := 0 } } board) :=
      ((State.Touches.refl actParts s).setDutyParts ..).thenFeedRemove board
    exact (g.promises (by decide) h).answerTake (feedRemove_gone _ _) (Eq.trans (g.same .station (by decide)) hrun) ..

/-! ### COMMIT and a BOARD's STATUS -/

theorem absent_of_feeds {s : State} {board : Nat} (hf : ¬ s.feeds board = true)
    (hr : board ∉ s.reservations.map Reservation.board) : s.Absent board :=
  ⟨by simpa [State.feeds] using hf, hr⟩

theorem State.PromisesKept.feedPlace {s : State} (h : s.PromisesKept) {board : Nat}
    (hr : board ∉ s.reservations.map Reservation.board) (load : Nat) : (feedPlace s board load).PromisesKept := by
  unfold Machine.feedPlace
  split
  · exact ((State.Touches.refl actParts s).thenFeedUpdate ..).promises (by decide) h
  · rename_i hf
    split
    · exact h.feedJoin (absent_of_feeds hf hr) ‹_› load
    · exact ((State.Touches.refl actParts s).thenFeedFull _).promises (by decide) h

theorem State.PromisesKept.commitFrame {s : State} (h : s.PromisesKept) (board ticket load : Nat) :
    (commitFrame s board ticket load).PromisesKept := by
  have hp : (Machine.feedPlace { s with reservations := withoutBoard board s.reservations } board load).PromisesKept :=
    (promises_withoutBoard h board).feedPlace (by simp [withoutBoard]) load
  unfold Machine.commitFrame
  dsimp only
  split
  · exact ((State.Touches.refl actParts _).thenOvercommitTest ..).promises (by decide) hp
  · exact (((State.Touches.refl actParts _).thenAddEvent _).thenOvercommitTest ..).promises (by decide) hp

theorem State.PromisesKept.feedStatus {s : State} (h : s.PromisesKept) (board : Nat) (b : BoardStatus) :
    (feedStatus s board b).PromisesKept := by
  unfold Machine.feedStatus
  dsimp only
  split
  · split
    · exact (((State.Touches.refl actParts s).setDutyParts ..).thenFeedRemove board).promises (by decide) h
    · exact ((State.Touches.refl actParts s).thenFeedUpdate ..).promises (by decide) h
  · rename_i hf
    split
    · rename_i hc
      simp only [Bool.and_eq_true, Bool.not_eq_true', List.any_eq_false, beq_iff_eq] at hc
      split
      · refine ((State.Touches.refl actParts _).thenAddEvent _).promises (by decide)
          (h.feedJoin (absent_of_feeds hf fun hm => ?_) ‹_› b.load)
        obtain ⟨r, hr, hb⟩ := List.mem_map.mp hm
        exact hc.2 r hr hb
      · exact ((State.Touches.refl actParts s).thenFeedFull _).promises (by decide) h
    · exact h

/-! ### An event of the duty controller keeps the invariants -/

/-- An event in which a board may join the lists keeps the invariants where its own work keeps the promises. -/
theorem State.Keeps.dutyEvent {s : State} {f : State → State} (hf : ∀ v : State, v.Touches joinParts (f v))
    (hp : s.awake = true → s.runs .set = true → s.PromisesKept → (f s).PromisesKept) : s.Keeps (dutyEvent s f) := by
  refine .whenRuns fun ha hr => ?_
  have g : s.Touches joinParts (settle (f s)) := (hf s).thenDuty (State.Touches.refl actParts _).thenSettle
  have hst : (settle (f s)).station = s.station := g.same .station (by decide)
  have him : (settle (f s)).image = s.image := g.same .image (by decide)
  have hi : (settle (f s)).inputs = s.inputs := g.same .inputs (by decide)
  exact ⟨g.queues, fun k => k.of_same hi hst him (g.same .chg (by decide)),
    fun k => ((State.Touches.refl actParts _).thenSettle).promises (by decide) (hp ha hr k),
    fun k => k.of_keys (g.same .entries (by decide)) hi hst him, g.settle_order hr (by decide)⟩

end Sys2Proof.Machine
end

section
/-! SUPPORT for the five invariants: the interlock of the changeover switch through the operations of its controller. -/

-- One proof after the other: each proof elaborated at the same time takes a thread's stack of the check's memory.
set_option Elab.async false

namespace Sys2Proof.Machine

/-! ### What keeps the interlock -/

/-- Outside BREAKING and MAKING no command is held. -/
theorem State.Interlocked.cmd_none {s : State} (h : s.Interlocked) (hb : s.chg.state ≠ .breaking)
    (hm : s.chg.state ≠ .making) : s.chg.cmd = none := by
  cases hc : s.chg.cmd with
  | none => rfl
  | some c =>
    cases c with
    | openAll => exact absurd (h.opening hc) hb
    | closeTo pos => exact absurd (h.closing pos hc).1 hm

/-- An operation that leaves command, state, attempt and feedbacks keeps the interlock. -/
theorem State.Interlocked.of_command {s t : State} (h : s.Interlocked) (hi : t.inputs = s.inputs)
    (hst : t.station = s.station) (him : t.image = s.image) (hc : t.chg.cmd = s.chg.cmd)
    (hs : t.chg.state = s.chg.state) (ha : t.chg.attempt = none → s.chg.attempt = none) : t.Interlocked := by
  refine ⟨hi ▸ h.sixInputs, ?_, ?_, ?_, ?_⟩
  · rw [hc, runs_of_same hst him]; exact h.inBoard
  · rw [hc]; exact fun hn hat => h.attempting hn (ha hat)
  · rw [hc, hs]; exact h.opening
  · rw [hc, hs, closedList_of_same hi]; exact h.closing

/-- An operation of the stage keeps the invariants where it keeps the interlock. -/
theorem State.Keeps.ofSwitch {s t : State} (h : s.Touches switchParts t) (hi : s.Interlocked → t.Interlocked) :
    s.Keeps t :=
  ⟨h.queues, hi, h.promises (by decide),
    fun g => g.of_keys (h.same .entries (by decide)) (h.same .inputs (by decide)) (h.same .station (by decide))
      (h.same .image (by decide)), h.same .order (by decide)⟩

/-- So does one that issues no command, begun where none is held. -/
theorem State.Keeps.ofStage {s t : State} (h : s.Touches [.chg] t) (hc : s.Interlocked → s.chg.cmd = none) : s.Keeps t :=
  .ofSwitch (h.mono (by decide)) fun hi =>
    .of_released (by rw [show t.inputs = s.inputs from h.same .inputs (by decide)]; exact hi.sixInputs)
      (h.same .cmdNone (by decide) (hc hi))

/-- So does one that releases the command. -/
theorem State.Keeps.ofRelease {s t : State} (h : s.Touches [.chg] t) (hc : t.chg.cmd = none) : s.Keeps t :=
  .ofSwitch (h.mono (by decide)) fun hi =>
    .of_released (by rw [show t.inputs = s.inputs from h.same .inputs (by decide)]; exact hi.sixInputs) hc

/-- A switch fault releases the command (R94). -/
theorem takeSwitchFault_cmd (s : State) (cause : SwitchFault) : (takeSwitchFault s cause).chg.cmd = none := by
  have h0 (t : State) (ht : t.chg.cmd = none) {u : State} (h : t.Touches [.chg] u) : u.chg.cmd = none :=
    h.same .cmdNone (by decide) ht
  unfold takeSwitchFault
  dsimp only
  split
  · refine h0 (addEvent { setCmd s none with chg := { (setCmd s none).chg with fault := some cause } }
      (.switchFaultRaised cause (feedbacks s))) rfl ?_
    exact ((State.Touches.ite ((State.Touches.refl _ _).thenReleaseTarget _) (.refl _ _)).thenCloseAttempt ..).thenEnterChg _
  · rfl

/-! ### The switch moves -/

theorem enterChg_inputs (s : State) (st : ChgState) : (enterChg s st).inputs = s.inputs := rfl

/-- A GRANT opens the switch with an attempt under way, in BREAKING (R105). -/
theorem moveSwitch_interlocked {s : State} (h : s.Interlocked) (hc : s.chg.cmd = none) (hr : s.runs .board = true)
    (a : Attempt) : (moveSwitch s a).Interlocked := by
  unfold moveSwitch
  dsimp only
  split
  · exact (State.Keeps.ofStage (((State.Touches.refl [.chg] s).setChg _).thenCommitMove _) fun _ => hc).interlock h
  · split
    · exact ⟨h.sixInputs, fun _ => hr, by simp [enterChg, setCmd, setAttempt], fun _ => rfl,
        fun pos hp => by simp [enterChg, setCmd] at hp⟩
    · exact (State.Keeps.ofStage ((State.Touches.refl [.chg] s).thenEnterDead _) fun _ => hc).interlock h

/-- CLOSE is issued in MAKING with an attempt under way and no feedback present (R93, R108). -/
theorem makeFor_interlocked {s : State} (h : s.inputs.length = 6) (hr : s.runs .board = true) (a : Attempt) (pos : Nat)
    (returning : Bool) : (makeFor s a pos returning).Interlocked := by
  unfold makeFor
  dsimp only
  split
  · rename_i hn
    exact ⟨h, fun _ => hr, by simp [enterChg, setCmd, setAttempt], fun ho => by simp [setCmd] at ho,
      fun p _ => ⟨rfl, hn.1⟩⟩
  · refine .of_released ?_ (takeSwitchFault_cmd ..)
    rw [show (takeSwitchFault _ _).inputs = _ from
      ((State.Touches.refl [.chg] _).thenTakeSwitchFault .uncommanded).same .inputs (by decide)]
    exact h

theorem deadTimeOver_interlocked {s : State} (h : s.Interlocked) (hc : s.chg.cmd = none) (hr : s.runs .board = true)
    (a : Attempt) : (deadTimeOver s a).Interlocked := by
  unfold deadTimeOver
  dsimp only
  split
  · exact makeFor_interlocked h.sixInputs hr ..
  · split
    · exact makeFor_interlocked (s := releaseTarget s a) h.sixInputs hr ..
    · exact (State.Keeps.ofStage (((State.Touches.refl [.chg] s).thenReleaseTarget _).thenEndAttempt ..)
        fun _ => hc).interlock h

/-! ### Frames and expiries -/

theorem takeReplyFrame_keeps {s : State} (hr : s.runs .board = true) (sender ticket verdict : Nat) :
    s.Keeps (takeReplyFrame s sender ticket verdict) := by
  refine .ofSwitch ((State.Touches.refl _ s).thenTakeReplyFrame ..) fun h => ?_
  have hn (b : Attempt) (hc : s.chg.cmd = none) : (nextCandidate s b).Interlocked :=
    (State.Keeps.ofStage ((State.Touches.refl [.chg] s).thenNextCandidate _) fun _ => hc).interlock h
  unfold takeReplyFrame
  split
  · split
    · split
      · have hc := h.cmd_none (by simp [*]) (by simp [*])
        split
        · exact moveSwitch_interlocked h hc hr _
        · split
          · exact (State.Keeps.ofStage (((State.Touches.refl [.chg] s).setChg _).thenEnterChg _) fun _ => hc).interlock h
          · split
            · exact hn _ hc
            · exact h
      · have hc := h.cmd_none (by simp [*]) (by simp [*])
        split
        · exact moveSwitch_interlocked h hc hr _
        · split
          · exact hn _ hc
          · exact h
      all_goals exact h
    · exact h
  · exact h

theorem noteDry_keeps (s : State) (set : Nat) : s.Keeps (noteDry s set) :=
  .ofSwitch ((State.Touches.refl _ s).setSwitch _) fun h => h.of_command rfl rfl rfl rfl rfl id

theorem dryFrame_keeps (s : State) (sender : Nat) : s.Keeps (dryFrame s sender) := by
  have hs (hb : s.chg.state ≠ .breaking) (hm : s.chg.state ≠ .making) : s.Keeps (dryFrame s sender) :=
    .ofStage ((State.Touches.refl _ s).thenDryFrame _) fun h => h.cmd_none hb hm
  cases hst : s.chg.state
  case breaking | making =>
    unfold dryFrame
    simp only [hst]
    exact .ite (fun _ => noteDry_keeps s sender) fun _ => .refl s
  all_goals exact hs (by simp [hst]) (by simp [hst])

theorem chgStatus_keeps (s : State) (set : Nat) (b : SetStatus) : s.Keeps (chgStatus s set b) := by
  have hs (hb : s.chg.state ≠ .breaking) (hm : s.chg.state ≠ .making) : s.Keeps (chgStatus s set b) :=
    .ofStage ((State.Touches.refl _ s).thenChgStatus ..) fun h => h.cmd_none hb hm
  cases hst : s.chg.state
  case breaking | making =>
    unfold chgStatus
    simp only [hst]
    exact .refl s
  all_goals exact hs (by simp [hst]) (by simp [hst])

theorem chgSecond_keeps (s : State) : s.Keeps (chgSecond s) :=
  .ofSwitch ((State.Touches.refl _ s).setSwitch _) fun h =>
    h.of_command rfl rfl rfl rfl rfl fun ha => by simpa [chgSecond] using ha

/-- An expiry of the step timer is one of SEEKING, WAITING or DEAD, where no command is held. -/
theorem cmd_none_of_stepDue {s : State} {c : ChgState} (h : s.Interlocked) (hd : s.stepDue c = true) (hb : c ≠ .breaking)
    (hm : c ≠ .making) : s.chg.cmd = none := by
  have hs : s.chg.state = c := by
    unfold State.stepDue at hd
    rw [Bool.and_eq_true] at hd
    exact eq_of_beq hd.1
  exact h.cmd_none (hs ▸ hb) (hs ▸ hm)

theorem switchTimeoutStep_keeps (s : State) : s.Keeps (switchTimeoutStep s) := by
  refine .whenRuns fun _ _ => .ite (fun _ => ?_) fun _ => .refl s
  unfold cmdOver
  split
  · exact .ofRelease ((State.Touches.refl _ s).thenTakeSwitchFault _) (takeSwitchFault_cmd ..)
  · exact .ofRelease ((State.Touches.refl _ s).thenTakeSwitchFault _) (takeSwitchFault_cmd ..)
  · exact .ofRelease ((State.Touches.refl _ s).setChg _) rfl

theorem takeResendStep_keeps (s : State) : s.Keeps (takeResendStep s) := by
  refine .whenRuns fun _ _ => .ite (fun hd => ?_) fun _ => .refl s
  refine .ofStage ?_ fun h => cmd_none_of_stepDue h hd (by decide) (by decide)
  unfold seekOver
  split
  · exact .ite (((State.Touches.refl _ s).setChg _).thenPost ..) ((State.Touches.refl _ s).thenAbandonCandidate _)
  · exact .refl _ s

theorem waitingTimeoutStep_keeps (s : State) : s.Keeps (waitingTimeoutStep s) := by
  refine .whenRuns fun _ _ => .ite (fun hd => ?_) fun _ => .refl s
  refine .ofStage ?_ fun h => cmd_none_of_stepDue h hd (by decide) (by decide)
  unfold waitOver180
  split
  · exact (State.Touches.refl _ s).thenAbandonCandidate _
  · exact .refl _ s

theorem deadTimeStep_keeps (s : State) : s.Keeps (deadTimeStep s) := by
  refine .whenRuns fun _ hr => .ite (fun hd => ?_) fun _ => .refl s
  unfold deadOver
  split
  · exact .ofSwitch ((State.Touches.refl _ s).thenDeadTimeOver _) fun h =>
      deadTimeOver_interlocked h (cmd_none_of_stepDue h hd (by decide) (by decide)) hr _
  · exact .refl s

theorem retryStep_keeps (s : State) : s.Keeps (retryStep s) := by
  refine .whenRuns fun _ _ => .ite (fun _ => ?_) fun _ => .refl s
  have hv := (State.Touches.refl [.chg] s).setChg { s.chg with retry := none }
  unfold retryOver
  refine .ite (fun hi => .ofStage ?_ fun h => h.cmd_none ?_ ?_) fun _ => ?_
  · split
    · exact hv.thenTakeTrigger _
    · exact .ite (hv.thenTakeTrigger _) hv.thenNoteTest
  · exact fun hb => by simp [hb] at hi
  · exact fun hb => by simp [hb] at hi
  · exact .ofSwitch (hv.mono (by decide)) fun h => h.of_command rfl rfl rfl rfl rfl id

theorem dwellStep_keeps (s : State) : s.Keeps (dwellStep s) := by
  refine .whenRuns fun _ _ => .ite (fun _ => ?_) fun _ => .refl s
  have hv := (State.Touches.refl [.chg] s).setChg { s.chg with dwell := none }
  unfold dwellOver
  refine .ite (fun hi => .ofStage hv.thenNoteTest fun h => h.cmd_none ?_ ?_) fun _ => ?_
  · exact fun hb => by simp [hb] at hi
  · exact fun hb => by simp [hb] at hi
  · exact .ofSwitch (hv.mono (by decide)) fun h => h.of_command rfl rfl rfl rfl rfl id

/-! ### Live states -/

/-- The live senses are no closed feedback and no input of a duty controller: where they alone change, the invariants are
kept. -/
theorem State.Keeps.ofSenses (s : State) (l : List Bool) (hl : s.inputs.length = 6 → l.length = 6)
    (hin : s.inputs.length = 6 → ∀ n, 1 ≤ n → n ≤ 3 → l.getD (n - 1) false = s.input n) :
    s.Keeps { s with inputs := l } := by
  have hc (h6 : s.inputs.length = 6) : ({ s with inputs := l } : State).closedList = s.closedList :=
    List.filter_congr fun n hn => by
      simp only [List.mem_cons, List.not_mem_nil, or_false] at hn
      exact hin h6 n (by omega) (by omega)
  refine ⟨fun h => h.of_same rfl rfl, fun h => ?_, fun h => h.of_shrink ⟨.refl _, .refl _⟩ (.refl _) rfl rfl,
    fun h => ?_, fun h => ?_⟩
  · refine ⟨hl h.sixInputs, h.inBoard, h.attempting, h.opening, ?_⟩
    rw [hc h.sixInputs]; exact h.closing
  · refine ⟨hl h.sixInputs, h.size, h.current, h.once, h.positions, ?_, ?_⟩
    · rw [hc h.sixInputs]; exact h.onClosed
    · rw [hc h.sixInputs]; exact h.whileClosed
  · refine ⟨hl h.sixInputs, h.channels, h.positions, fun hr => ?_, h.noneElsewhere⟩
    have hs := h.settled hr
    have h3 : ({ s with inputs := l } : State).input 3 = s.input 3 := hin h.sixInputs 3 (by decide) (by decide)
    have h2 : ({ s with inputs := l } : State).input 2 = s.input 2 := hin h.sixInputs 2 (by decide) (by decide)
    refine ⟨?_, ?_, hs.burn⟩
    · rw [h3]; exact hs.engine
    · rw [h2]; exact hs.breaker

theorem senseSecond_keeps (i : SecondInputs) (s : State) : s.Keeps (senseSecond i s) := by
  refine .ofSenses s _ (fun h => by simp [h]) fun h n h1 h3 => ?_
  have htake : n - 1 < (s.inputs.take 3).length := by rw [List.length_take, h]; omega
  rw [State.input, List.getD_eq_getElem?_getD, List.getD_eq_getElem?_getD, List.getElem?_append_left htake,
    List.getElem?_take_of_lt (by omega)]

theorem idleRows_keeps (s : State) (rows : List Reason) : s.Keeps (idleRows s rows) := by
  by_cases hi : s.chg.state = .idle
  · exact .ofStage ((State.Touches.refl _ s).thenIdleRows rows) fun h => h.cmd_none (by simp [hi]) (by simp [hi])
  · rw [idleRows, if_neg hi]; exact .refl s

theorem liveChange_keeps (s : State) {pos : Nat} (hp : 1 ≤ pos) (level : Bool) : s.Keeps (liveChange s pos level) := by
  have h1 : s.Keeps (setInput s (3 + pos) level) :=
    .ofSenses s _ (fun h => by simp [h]) fun _ n _ h3 => by
      rw [State.input, List.getD_eq_getElem?_getD, List.getD_eq_getElem?_getD, List.getElem?_set_ne (by omega)]
  have hlive (v : State) (l : List LiveState) (hl : l.length = v.chg.live.length) :
      v.Keeps { v with chg := { v.chg with live := l } } :=
    ⟨fun h => h.of_same rfl rfl, fun h => h.of_command rfl rfl rfl rfl rfl id,
      fun h => h.of_shrink ⟨.refl _, .refl _⟩ (.refl _) rfl rfl, fun h => h.of_keys rfl rfl rfl rfl, fun h =>
      ⟨h.sixInputs, h.channels, hl.trans h.positions, fun hr => (h.settled hr).of_same rfl rfl rfl id (.inl rfl),
        h.noneElsewhere⟩⟩
  unfold liveChange
  dsimp only
  have h2 := h1.trans (hlive (setInput s (3 + pos) level)
    ((setInput s (3 + pos) level).chg.live.set (pos - 1) (if level then .live else .notLive)) List.length_set)
  exact .ite (fun _ => h2.trans (idleRows_keeps ..)) fun _ => h2

end Sys2Proof.Machine
end

section
/-! SUPPORT for the five invariants: the settlement table of a BOARD through the operations of its settlement unit. -/

-- One proof after the other: each proof elaborated at the same time takes a thread's stack of the check's memory.
set_option Elab.async false

namespace Sys2Proof.Machine

/-! ### Tables -/

/-- What the invariant asks of a table in itself. -/
structure TableFits (t : List Entry) : Prop where
  size : t.length ≤ tableCap
  current : (t.filter (fun e => e.state == .current)).length ≤ 1
  once : ((t.filter (fun e => e.period != 0)).map (fun e => (e.set, e.period))).Nodup
  positions : ∀ e ∈ t, 1 ≤ e.pos ∧ e.pos ≤ 3

/-- What it asks of a table beside the closed feedbacks. -/
structure FollowsSwitch (closed : List Nat) (t : List Entry) : Prop where
  onClosed : ∀ e ∈ t, e.state = .current → e.pos ∈ closed
  whileClosed : closed ≠ [] → hasCurrent t = true

theorem State.TableFollows.fits {s : State} (h : s.TableFollows) : TableFits s.boardBill.table :=
  ⟨h.size, h.current, h.once, h.positions⟩

theorem State.TableFollows.followsSwitch {s : State} (h : s.TableFollows) (hr : s.runs .board = true) :
    FollowsSwitch s.closedList s.boardBill.table := ⟨h.onClosed hr, h.whileClosed hr⟩

theorem State.TableFollows.of_fits {s : State} (hi : s.inputs.length = 6) (hf : TableFits s.boardBill.table)
    (hs : s.runs .board = true → FollowsSwitch s.closedList s.boardBill.table) : s.TableFollows :=
  ⟨hi, hf.size, hf.current, hf.once, hf.positions, fun hr => (hs hr).onClosed, fun hr => (hs hr).whileClosed⟩

/-- No entry is CURRENT. -/
def NoCurrent (t : List Entry) : Prop := ∀ e ∈ t, e.state ≠ .current

theorem hasCurrent_iff {t : List Entry} : hasCurrent t = true ↔ ∃ e ∈ t, e.state = .current := by
  simp [hasCurrent]

theorem noCurrent_iff {t : List Entry} : NoCurrent t ↔ hasCurrent t = false := by
  simp [NoCurrent, hasCurrent]

theorem filter_current_of_noCurrent {t : List Entry} (h : NoCurrent t) :
    t.filter (fun e => e.state == .current) = [] :=
  List.filter_eq_nil_iff.mpr fun e he => by simpa using h e he

/-! ### Entries that end or leave -/

/-- The same set, position and period, CURRENT only where it was before. -/
def Entry.Ends (e' e : Entry) : Prop :=
  e'.set = e.set ∧ e'.pos = e.pos ∧ e'.period = e.period ∧ (e'.state = .current → e.state = .current)

theorem Entry.Ends.refl (e : Entry) : e.Ends e := ⟨rfl, rfl, rfl, id⟩

/-- The entries of two tables, place by place, each the other's or ended since. -/
inductive EachEnds : List Entry → List Entry → Prop where
  | nil : EachEnds [] []
  | cons {e' e : Entry} {t' t : List Entry} (h : e'.Ends e) (ht : EachEnds t' t) : EachEnds (e' :: t') (e :: t)

theorem EachEnds.refl : ∀ t : List Entry, EachEnds t t
  | [] => .nil
  | e :: t => .cons (.refl e) (refl t)

theorem EachEnds.map {f : Entry → Entry} (hf : ∀ e, (f e).Ends e) : ∀ t : List Entry, EachEnds (t.map f) t
  | [] => .nil
  | e :: t => .cons (hf e) (map hf t)

theorem EachEnds.length_eq {t' t : List Entry} (h : EachEnds t' t) : t'.length = t.length := by
  induction h with
  | nil => rfl
  | cons _ _ ih => exact congrArg (· + 1) ih

/-- Entries have ended or left, and none has begun. -/
def Dwindles (t' t : List Entry) : Prop := ∃ m, EachEnds t' m ∧ m.Sublist t

theorem dwindles_of_sublist {t' t : List Entry} (h : t'.Sublist t) : Dwindles t' t := ⟨t', .refl t', h⟩

theorem dwindles_of_ends {t' t : List Entry} (h : EachEnds t' t) : Dwindles t' t := ⟨t, h, .refl t⟩

theorem dwindles_map {f : Entry → Entry} (hf : ∀ e, (f e).Ends e) (t : List Entry) : Dwindles (t.map f) t :=
  dwindles_of_ends (.map hf t)

theorem dwindles_set {t : List Entry} {n : Nat} {e e' : Entry} (he : t[n]? = some e) (h : e'.Ends e) :
    Dwindles (t.set n e') t := by
  refine dwindles_of_ends ?_
  induction t generalizing n with
  | nil => simp at he
  | cons x t ih =>
    cases n with
    | zero =>
      simp only [List.getElem?_cons_zero, Option.some.injEq] at he
      exact .cons (he ▸ h) (.refl t)
    | succ n => exact .cons (.refl x) (ih (by simpa using he))

theorem mem_of_ends {t' m : List Entry} (h : EachEnds t' m) {e' : Entry} (he : e' ∈ t') :
    ∃ e ∈ m, e'.Ends e := by
  induction h with
  | nil => simp at he
  | @cons a b l l' hab _ ih =>
    rcases List.mem_cons.mp he with rfl | he
    · exact ⟨b, by simp, hab⟩
    · obtain ⟨e, he, hr⟩ := ih he
      exact ⟨e, by simp [he], hr⟩

theorem currents_of_ends {t' m : List Entry} (h : EachEnds t' m) :
    (t'.filter (fun e => e.state == .current)).length ≤ (m.filter (fun e => e.state == .current)).length := by
  induction h with
  | nil => exact Nat.le_refl _
  | @cons a b l l' hab _ ih =>
    by_cases hb : b.state = .current
    · by_cases ha : a.state = .current
      · simpa [ha, hb] using ih
      · simpa [ha, hb] using Nat.le_trans ih (Nat.le_succ _)
    · have ha : a.state ≠ .current := fun ha => hb (hab.2.2.2 ha)
      simpa [ha, hb] using ih

theorem bound_of_ends {t' m : List Entry} (h : EachEnds t' m) :
    (t'.filter (fun e => e.period != 0)).map (fun e => (e.set, e.period)) =
      (m.filter (fun e => e.period != 0)).map (fun e => (e.set, e.period)) := by
  induction h with
  | nil => rfl
  | @cons a b l l' hab _ ih => by_cases hb : b.period = 0 <;> simp [hab.1, hab.2.2.1, hb, ih]

theorem Dwindles.mem {t' t : List Entry} (h : Dwindles t' t) {e' : Entry} (he : e' ∈ t') : ∃ e ∈ t, e'.Ends e := by
  obtain ⟨m, hm, hs⟩ := h
  obtain ⟨e, he, hr⟩ := mem_of_ends hm he
  exact ⟨e, hs.subset he, hr⟩

theorem Dwindles.noCurrent {t' t : List Entry} (h : Dwindles t' t) (hn : NoCurrent t) : NoCurrent t' := fun e' he hc => by
  obtain ⟨e, he, hr⟩ := h.mem he
  exact hn e he (hr.2.2.2 hc)

theorem Dwindles.onClosed {t' t : List Entry} (h : Dwindles t' t) {closed : List Nat} (hs : FollowsSwitch closed t) :
    ∀ e ∈ t', e.state = .current → e.pos ∈ closed := fun e' he hc => by
  obtain ⟨e, he, hr⟩ := h.mem he
  exact hr.2.1 ▸ hs.onClosed e he (hr.2.2.2 hc)

theorem TableFits.dwindle {t' t : List Entry} (h : TableFits t) (hd : Dwindles t' t) : TableFits t' := by
  obtain ⟨m, hm, hs⟩ := id hd
  refine ⟨?_, Nat.le_trans (currents_of_ends hm) (Nat.le_trans (hs.filter _).length_le h.current), ?_, ?_⟩
  · rw [hm.length_eq]; exact Nat.le_trans hs.length_le h.size
  · rw [bound_of_ends hm]; exact h.once.sublist ((hs.filter _).map _)
  · intro e' he
    obtain ⟨e, he, hr⟩ := hd.mem he
    exact hr.2.1 ▸ h.positions e he

/-! ### An entry that begins -/

/-- An entry that waited is CURRENT again. -/
theorem TableFits.reopen {before after : List Entry} {e : Entry} (h : TableFits (before ++ e :: after))
    (hn : NoCurrent (before ++ e :: after)) (lost : Bool) {pos : Nat} (hp : 1 ≤ pos ∧ pos ≤ 3) :
    TableFits (before ++ reopen lost pos e :: after) := by
  have hb : NoCurrent before := fun x hx => hn x (by simp [hx])
  have ha : NoCurrent after := fun x hx => hn x (by simp [hx])
  refine ⟨by simpa using h.size, ?_, ?_, ?_⟩
  · simp [List.filter_append, filter_current_of_noCurrent hb, filter_current_of_noCurrent ha,
      Machine.reopen]
  · have := h.once
    by_cases hz : e.period = 0 <;> simpa [List.filter_cons, Machine.reopen, hz] using this
  · intro x hx
    simp only [List.mem_append, List.mem_cons] at hx
    rcases hx with hx | rfl | hx
    · exact h.positions x (by simp [hx])
    · exact hp
    · exact h.positions x (by simp [hx])

/-- A new entry joins at the end, unbound or of a set and period that no other holds. -/
theorem TableFits.append {t : List Entry} (h : TableFits t) (hn : NoCurrent t) (hroom : t.length < tableCap) {x : Entry}
    (hp : 1 ≤ x.pos ∧ x.pos ≤ 3) (hfree : x.period ≠ 0 → ∀ e ∈ t, ¬ (e.set = x.set ∧ e.period = x.period)) :
    TableFits (t ++ [x]) := by
  refine ⟨by simpa using Nat.succ_le_of_lt hroom, ?_, ?_, ?_⟩
  · rw [List.filter_append, filter_current_of_noCurrent hn]
    rw [List.nil_append]
    exact List.length_filter_le _ [x]
  · by_cases hz : x.period = 0
    · simpa [List.filter_append, hz] using h.once
    · simp only [List.filter_append, List.map_append, List.nodup_append, h.once, true_and]
      refine ⟨by simp [hz], fun a ha b hb => ?_⟩
      simp only [List.filter_cons, bne_iff_ne, ne_eq, hz, not_false_eq_true, if_true, List.filter_nil, List.map_cons,
        List.map_nil, List.mem_singleton] at hb
      obtain ⟨e, he, rfl⟩ := List.mem_map.mp ha
      rw [hb]
      exact fun heq => hfree hz e (List.mem_filter.mp he).1 (by simpa using heq)
  · intro e he
    rcases List.mem_append.mp he with he | he
    · exact h.positions e he
    · exact List.mem_singleton.mp he ▸ hp

/-! ### Leaving the table -/

@[simp] theorem leaveTable_table (s : State) (n : Nat) (o : SettleOutcome) (a : Option Nat) :
    (leaveTable s n o a).boardBill.table = s.boardBill.table.eraseIdx n := by
  unfold leaveTable
  split
  · dsimp only
    split <;> rfl
  · rename_i hn
    rw [List.eraseIdx_of_length_le (List.getElem?_eq_none_iff.mp hn)]

/-- With no entry CURRENT a full table always has one to give up (R160). -/
theorem makeRoom_room {s : State} (hn : NoCurrent s.boardBill.table) (hs : s.boardBill.table.length ≤ tableCap) :
    (makeRoom s).boardBill.table.length < tableCap ∧ Dwindles (makeRoom s).boardBill.table s.boardBill.table := by
  unfold makeRoom
  split
  · exact ⟨‹_›, dwindles_of_sublist (.refl _)⟩
  · rename_i hfull
    cases hv : evictPlace s.boardBill.table with
    | some n =>
      have hlt : n < s.boardBill.table.length := by
        unfold evictPlace at hv
        split at hv
        · rename_i m hm
          rw [← Option.some.inj hv]
          exact (List.findIdx?_eq_some_iff_getElem.mp hm).1
        · exact (List.findIdx?_eq_some_iff_getElem.mp hv).1
      refine ⟨?_, ?_⟩
      · simp only [leaveTable_table, List.length_eraseIdx_of_lt hlt]
        omega
      · simpa using dwindles_of_sublist (List.eraseIdx_sublist ..)
    | none =>
      exfalso
      unfold evictPlace at hv
      split at hv
      · cases hv
      · rename_i hw
        rw [List.findIdx?_eq_none_iff] at hv hw
        cases ht : s.boardBill.table with
        | nil => simp [ht] at hfull
        | cons e t =>
          have h1 := hv e (by simp [ht])
          have h2 := hw e (by simp [ht])
          have h3 := hn e (by simp [ht])
          cases hst : e.state <;> simp_all

/-! ### Making an entry CURRENT -/

theorem freePeriod_free (t : List Entry) (set period : Nat) :
    freePeriod t set period ≠ 0 → ∀ e ∈ t, ¬ (e.set = set ∧ e.period = freePeriod t set period) := by
  unfold freePeriod
  split
  · exact fun h => absurd rfl h
  · rename_i hn
    intro _ e he hc
    exact hn (List.any_eq_true.mpr ⟨e, he, by simpa using hc⟩)

/-- Begun on a table with no CURRENT entry, it leaves one, on the position given. -/
theorem makeCurrent_table {s : State} (h : TableFits s.boardBill.table) (hn : NoCurrent s.boardBill.table) (set : Nat)
    {pos : Nat} (hp : 1 ≤ pos ∧ pos ≤ 3) (period : Nat) :
    TableFits (makeCurrent s set pos period).boardBill.table ∧
      hasCurrent (makeCurrent s set pos period).boardBill.table = true ∧
      ∀ e ∈ (makeCurrent s set pos period).boardBill.table, e.state = .current → e.pos = pos := by
  unfold makeCurrent
  split
  · rename_i n hf
    obtain ⟨hlt, -⟩ := List.findIdx?_eq_some_iff_getElem.mp hf
    obtain ⟨before, e, after, ht, -, hm⟩ := List.exists_of_modify (reopen ((s.channel 0).state == .lost) pos) hlt
    rw [ht] at h hn
    simp only [setTable, hm]
    refine ⟨h.reopen hn _ hp, hasCurrent_iff.mpr ⟨_, List.mem_append_right _ (List.mem_cons_self ..), rfl⟩, fun x hx hc => ?_⟩
    simp only [List.mem_append, List.mem_cons] at hx
    rcases hx with hx | rfl | hx
    · exact absurd hc (hn x (by simp [hx]))
    · rfl
    · exact absurd hc (hn x (by simp [hx]))
  · unfold openEntry
    obtain ⟨hroom, hd⟩ := makeRoom_room hn h.size
    have hn' := hd.noCurrent hn
    refine ⟨(h.dwindle hd).append hn' hroom hp (freePeriod_free _ set period), ?_, fun x hx hc => ?_⟩
    · exact hasCurrent_iff.mpr ⟨_, List.mem_append_right _ (List.mem_singleton_self _), rfl⟩
    · rcases List.mem_append.mp hx with hx | hx
      · exact absurd hc (hn' x hx)
      · rw [List.mem_singleton.mp hx]; rfl

/-! ### The table of a BOARD in RUN -/

/-- The table of a BOARD in RUN stands as the invariant asks. -/
def State.Stands (s : State) : Prop :=
  TableFits s.boardBill.table ∧ FollowsSwitch s.closedList s.boardBill.table

theorem mem_closedList {s : State} {pos : Nat} (h : pos ∈ s.closedList) : 1 ≤ pos ∧ pos ≤ 3 := by
  have := (List.mem_filter.mp h).1
  simp only [List.mem_cons, List.not_mem_nil, or_false] at this
  omega

/-- An operation of the settlement unit of a BOARD in RUN keeps the invariants where its table stands as they ask. -/
theorem State.Keeps.ofTable {s t : State} (h : s.Touches tableParts t) (hr : s.runs .board = true)
    (hs : s.Stands → t.Stands) : s.Keeps t := by
  have hi : t.inputs = s.inputs := h.same .inputs (by decide)
  have hst : t.station = s.station := h.same .station (by decide)
  have him : t.image = s.image := h.same .image (by decide)
  refine ⟨h.queues, fun g => g.of_same hi hst him (h.same .chg (by decide)), h.promises (by decide), fun g => ?_,
    h.same .order (by decide)⟩
  obtain ⟨hf, hw⟩ := hs ⟨g.fits, g.followsSwitch hr⟩
  exact .of_fits (hi ▸ g.sixInputs) hf fun _ => hw

/-- Entries that end or leave, the CURRENT one staying, leave the table as it should stand. -/
theorem State.Stands.dwindle {s t : State} (h : s.Stands) (hi : t.inputs = s.inputs)
    (hd : Dwindles t.boardBill.table s.boardBill.table)
    (hc : hasCurrent s.boardBill.table = true → hasCurrent t.boardBill.table = true) : t.Stands := by
  refine ⟨h.1.dwindle hd, ?_⟩
  rw [closedList_of_same hi]
  exact ⟨hd.onClosed h.2, fun hn => hc (h.2.whileClosed hn)⟩

/-- An entry made CURRENT on a closed position, where none was. -/
theorem State.Stands.ofMakeCurrent {s : State} (hf : TableFits s.boardBill.table) (hn : NoCurrent s.boardBill.table)
    {pos : Nat} (hp : pos ∈ s.closedList) (set period : Nat) : (makeCurrent s set pos period).Stands := by
  obtain ⟨h1, h2, h3⟩ := makeCurrent_table hf hn set (mem_closedList hp) period
  have hi : (makeCurrent s set pos period).inputs = s.inputs :=
    ((State.Touches.refl tableParts s).thenMakeCurrent ..).same .inputs (by decide)
  refine ⟨h1, ?_⟩
  rw [closedList_of_same hi]
  exact ⟨fun e he hc => h3 e he hc ▸ hp, fun _ => h2⟩

theorem hasCurrent_eraseIdx {t : List Entry} {n : Nat} {e : Entry} (he : t[n]? = some e) (hn : e.state ≠ .current)
    (h : hasCurrent t = true) : hasCurrent (t.eraseIdx n) = true := by
  obtain ⟨x, hx, hc⟩ := hasCurrent_iff.mp h
  refine hasCurrent_iff.mpr ⟨x, List.mem_eraseIdx_iff_getElem?.mpr ?_, hc⟩
  obtain ⟨m, hm⟩ := List.mem_iff_getElem?.mp hx
  exact ⟨m, fun hmn => hn (by rw [hmn, he] at hm; exact Option.some.inj hm ▸ hc), hm⟩

theorem hasCurrent_set {t : List Entry} {n : Nat} {e e' : Entry} (he : t[n]? = some e) (hn : e.state ≠ .current)
    (h : hasCurrent t = true) : hasCurrent (t.set n e') = true := by
  obtain ⟨x, hx, hc⟩ := hasCurrent_iff.mp h
  obtain ⟨m, hm⟩ := List.mem_iff_getElem?.mp hx
  have hmn : n ≠ m := fun hmn => hn (by rw [← hmn, he] at hm; exact Option.some.inj hm ▸ hc)
  exact hasCurrent_iff.mpr ⟨x, List.mem_iff_getElem?.mpr ⟨m, by rw [List.getElem?_set_ne hmn]; exact hm⟩, hc⟩

theorem hasCurrent_map {f : Entry → Entry} (hf : ∀ e, (f e).state = .current ↔ e.state = .current) (t : List Entry) :
    hasCurrent (t.map f) = hasCurrent t := by
  rw [Bool.eq_iff_iff, hasCurrent_iff, hasCurrent_iff]
  constructor
  · rintro ⟨x, hx, hcurrent⟩
    obtain ⟨e, he, rfl⟩ := List.mem_map.mp hx
    exact ⟨e, he, (hf e).mp hcurrent⟩
  · rintro ⟨e, he, hcurrent⟩
    exact ⟨f e, List.mem_map_of_mem he, (hf e).mpr hcurrent⟩

/-- An entry that is not CURRENT leaves the table. -/
theorem leaveTable_stands {s : State} (h : s.Stands) {n : Nat} {e : Entry} (he : s.boardBill.table[n]? = some e)
    (hn : e.state ≠ .current) (o : SettleOutcome) (a : Option Nat) : (leaveTable s n o a).Stands := by
  refine h.dwindle (((State.Touches.refl tableParts s).thenLeaveTable ..).same .inputs (by decide)) ?_ ?_
  · rw [leaveTable_table]; exact dwindles_of_sublist (List.eraseIdx_sublist ..)
  · rw [leaveTable_table]; exact hasCurrent_eraseIdx he hn

/-! ### CLOSE, ALLOT and the claims -/

/-- An entry that claims stays as CLAIMED, or leaves. -/
theorem claimEntry_table {s : State} {n : Nat} {e : Entry} (he : s.boardBill.table[n]? = some e) (wait : Nat) :
    (∃ e' : Entry, e'.Ends e ∧ e'.state = .claimed ∧ (claimEntry s n wait).boardBill.table = s.boardBill.table.set n e') ∨
      (claimEntry s n wait).boardBill.table = s.boardBill.table.eraseIdx n := by
  unfold claimEntry
  simp only [he]
  split
  · exact .inl ⟨{ e with state := .claimed, claim := some (claimValue s.image e), attempt := some 1, wait := 0,
                          waitLength := wait }, ⟨rfl, rfl, rfl, by simp⟩, rfl, rfl⟩
  · exact .inr rfl

theorem claimEntry_dwindles {s : State} {n : Nat} {e : Entry} (he : s.boardBill.table[n]? = some e) (wait : Nat) :
    Dwindles (claimEntry s n wait).boardBill.table s.boardBill.table := by
  rcases claimEntry_table he wait with ⟨e', hends, -, ht⟩ | ht <;> rw [ht]
  · exact dwindles_set he hends
  · exact dwindles_of_sublist (List.eraseIdx_sublist ..)

theorem claimEntry_inputs (s : State) (n wait : Nat) : (claimEntry s n wait).inputs = s.inputs :=
  ((State.Touches.refl tableParts s).thenClaimEntry ..).same .inputs (by decide)

theorem claimEntry_stands {s : State} (h : s.Stands) {n : Nat} {e : Entry} (he : s.boardBill.table[n]? = some e)
    (hn : e.state ≠ .current) (wait : Nat) : (claimEntry s n wait).Stands := by
  refine h.dwindle (claimEntry_inputs ..) (claimEntry_dwindles he wait) fun hc => ?_
  rcases claimEntry_table he wait with ⟨e', -, -, ht⟩ | ht <;> rw [ht]
  · exact hasCurrent_set he hn hc
  · exact hasCurrent_eraseIdx he hn hc

/-- Beside a CURRENT entry there is no other. -/
theorem TableFits.around {before after : List Entry} {e : Entry} (h : TableFits (before ++ e :: after))
    (hc : e.state = .current) : NoCurrent before ∧ NoCurrent after := by
  have hl := h.current
  simp only [List.filter_append, List.filter_cons, hc, beq_self_eq_true, if_true, List.length_append,
    List.length_cons] at hl
  have hnil (l : List Entry) (h0 : (l.filter (fun e => e.state == .current)).length = 0) : NoCurrent l := fun x hx => by
    simpa using List.filter_eq_nil_iff.mp (List.length_eq_zero_iff.mp h0) x hx
  exact ⟨hnil before (by omega), hnil after (by omega)⟩

/-- Once the CURRENT entry has claimed, none is CURRENT. -/
theorem claimEntry_noCurrent {s : State} (h : TableFits s.boardBill.table) {n : Nat} {e : Entry}
    (he : s.boardBill.table[n]? = some e) (hc : e.state = .current) (wait : Nat) :
    NoCurrent (claimEntry s n wait).boardBill.table := by
  obtain ⟨hlt, hget⟩ := List.getElem?_eq_some_iff.mp he
  obtain ⟨before, after, hsplit, hlen, -⟩ := List.exists_of_set (a' := e) hlt
  rw [hget] at hsplit
  rw [hsplit] at h
  obtain ⟨hb, ha⟩ := h.around hc
  rcases claimEntry_table he wait with ⟨e', -, hcl, ht⟩ | ht <;> rw [ht, hsplit, ← hlen]
  · rw [List.set_append_right _ _ (Nat.le_refl _), Nat.sub_self, List.set_cons_zero]
    intro x hx
    simp only [List.mem_append, List.mem_cons] at hx
    rcases hx with hx | rfl | hx
    · exact hb x hx
    · simp [hcl]
    · exact ha x hx
  · rw [List.eraseIdx_append_of_length_le (Nat.le_refl _), Nat.sub_self, List.eraseIdx_cons_zero]
    exact fun x hx => (List.mem_append.mp hx).elim (hb x) (ha x)

/-- The CURRENT entry claims, and another is CURRENT on its position. -/
theorem turnOver_stands {s : State} (h : s.Stands) {n : Nat} {e : Entry} (he : s.boardBill.table[n]? = some e)
    (hc : e.state = .current) (wait following : Nat) : (turnOver s n wait e following).Stands := by
  refine .ofMakeCurrent (h.1.dwindle (claimEntry_dwindles he wait)) (claimEntry_noCurrent h.1 he hc wait) ?_ ..
  rw [closedList_of_same (claimEntry_inputs ..)]
  exact h.2.onClosed e (List.mem_of_getElem? he) hc

/-- An entry's own figures change, and its state does not. -/
theorem setEntry_stands {s : State} (h : s.Stands) {n : Nat} {e e' : Entry} (he : s.boardBill.table[n]? = some e)
    (hn : e.state ≠ .current) (hs : e'.Ends e) : (setTable s (s.boardBill.table.set n e')).Stands :=
  h.dwindle rfl (dwindles_set he hs) (hasCurrent_set he hn)

theorem closeActs_stands {s : State} (h : s.Stands) {n : Nat} {e : Entry} (he : s.boardBill.table[n]? = some e)
    (window again : Nat) : (closeActs s n window again e).Stands := by
  unfold closeActs
  split
  · exact turnOver_stands h he ‹_› ..
  · exact claimEntry_stands h he (by simp [*]) _
  · split
    · exact setEntry_stands h he (by simp [*]) ⟨rfl, rfl, rfl, id⟩
    · exact h

theorem closeRows_stands {s : State} (h : s.Stands) (set period window again : Nat) :
    (closeRows s set period window again).Stands := by
  unfold closeRows
  split
  · split
    · exact closeActs_stands h ‹_› ..
    · exact h
  · exact h

theorem statusActs_stands {s : State} (h : s.Stands) (r : Nat) (key : Nat × Nat) : (statusActs r s key).Stands := by
  unfold statusActs
  split
  · split
    · split
      · exact turnOver_stands h ‹_› ‹_› ..
      · exact claimEntry_stands h ‹_› ‹_› _
    · exact h
  · exact h

theorem foldl_stands {α : Type} {f : State → α → State} (hf : ∀ v x, State.Stands v → (f v x).Stands) (l : List α)
    {s : State} (h : s.Stands) : (l.foldl f s).Stands := by
  induction l generalizing s with
  | nil => exact h
  | cons x l ih => exact ih (hf s x h)

theorem billStatus_stands {s : State} (h : s.Stands) (set r : Nat) : (billStatus s set r).Stands :=
  foldl_stands (fun _ key hv => statusActs_stands hv r key) _ h

theorem allotFrame_stands {s : State} (h : s.Stands) (set period fuel outcome : Nat) :
    (allotFrame s set period fuel outcome).Stands := by
  unfold allotFrame
  split
  · rename_i n hp
    obtain ⟨hlt, hcl, -⟩ := List.findIdx?_eq_some_iff_getElem.mp hp
    have he : s.boardBill.table[n]? = some s.boardBill.table[n] := List.getElem?_eq_getElem hlt
    have hn : s.boardBill.table[n].state ≠ .current := by
      simp only [Bool.and_eq_true, beq_iff_eq] at hcl
      simp [hcl.2]
    split
    · exact leaveTable_stands h he hn ..
    · split
      · exact leaveTable_stands h he hn ..
      · exact h
  · exact h

/-! ### Unbound entries bind -/

/-- What merging leaves of the older entry, and whence its position comes. -/
theorem mergeEntries_eq (free : Nat) (ys : List Entry) (e : Entry) :
    let m := ys.foldl (mergeEntry free) e
    m.set = e.set ∧ m.period = e.period ∧ (m.state = .current ↔ ∃ x ∈ e :: ys, x.state = .current) ∧
      ∃ x ∈ e :: ys, m.pos = x.pos ∧ (m.state = .current → x.state = .current) := by
  induction ys generalizing e with
  | nil => exact ⟨rfl, rfl, by simp, e, by simp, rfl, id⟩
  | cons y ys ih =>
    obtain ⟨h1, h2, h3, x, hx, hpos, hst⟩ := ih (mergeEntry free e y)
    refine ⟨h1, h2, ?_, ?_⟩
    · rw [List.foldl_cons, h3]
      simp only [List.mem_cons, exists_eq_or_imp]
      by_cases hy : y.state = .current <;> simp [mergeEntry, hy]
    · rcases List.mem_cons.mp hx with rfl | hx
      · by_cases hy : y.state = .current
        · exact ⟨y, by simp, by rw [List.foldl_cons, hpos]; simp [mergeEntry, hy], fun _ => hy⟩
        · refine ⟨e, by simp, by rw [List.foldl_cons, hpos]; simp [mergeEntry, hy], fun hm => ?_⟩
          have := hst hm
          simpa [mergeEntry, hy] using this
      · exact ⟨x, by simp [hx], hpos, hst⟩

theorem placeOf_isSome {t : List Entry} {set period : Nat} :
    (placeOf t set period).isSome = true ↔ ∃ e ∈ t, e.set = set ∧ e.period = period := by
  rw [placeOf, List.findIdx?_isSome]
  simp

/-- The table that binding leaves, where an unbound entry of the set stands in it (R161). -/
theorem bindTable_split (free : Nat) {t : List Entry} (set period : Nat) :
    bindTable free t set period = t ∨ ∃ before e after, t = before ++ e :: after ∧ unbound set e = true ∧
      bindTable free t set period = before ++ (after.filter (unbound set)).foldl (mergeEntry free) { e with period := period }
        :: after.filter (fun x => !unbound set x) := by
  unfold bindTable
  split
  · rename_i n hf
    obtain ⟨hlt, hu, -⟩ := List.findIdx?_eq_some_iff_getElem.mp hf
    have he : t[n]? = some t[n] := List.getElem?_eq_getElem hlt
    simp only [he]
    exact .inr ⟨t.take n, t[n], t.drop (n + 1), by rw [← List.drop_eq_getElem_cons hlt, List.take_append_drop], hu, rfl⟩
  · exact .inl rfl

/-- Binding a period that no entry of the set holds keeps the table as it should stand. -/
theorem bindTable_stands {free : Nat} {t : List Entry} {set period : Nat} {closed : List Nat} (h : TableFits t)
    (hw : FollowsSwitch closed t) (hz : period ≠ 0) (hn : ∀ e ∈ t, ¬ (e.set = set ∧ e.period = period)) :
    TableFits (bindTable free t set period) ∧ FollowsSwitch closed (bindTable free t set period) := by
  rcases bindTable_split free (t := t) set period with hb | ⟨before, e, after, ht, hu, hb⟩
  · rw [hb]; exact ⟨h, hw⟩
  rw [hb]
  obtain ⟨hset, hper, hcur, x, hx, hpos, hst⟩ :=
    mergeEntries_eq free (after.filter (unbound set)) { e with period := period }
  simp only [unbound, Bool.and_eq_true, beq_iff_eq] at hu
  generalize (after.filter (unbound set)).foldl (mergeEntry free) { e with period := period } = m at *
  subst ht
  -- the entry merged takes the place of entries of the old table
  have hfrom : ∀ y ∈ ({ e with period := period } : Entry) :: after.filter (unbound set),
      ∃ z ∈ before ++ e :: after, z.pos = y.pos ∧ z.state = y.state := by
    intro y hy
    rcases List.mem_cons.mp hy with rfl | hy
    · exact ⟨e, by simp, rfl, rfl⟩
    · exact ⟨y, by simp [(List.mem_filter.mp hy).1], rfl, rfl⟩
  have hkept : ∀ y ∈ before ++ m :: after.filter (fun x => !unbound set x), y = m ∨ y ∈ before ++ e :: after := by
    intro y hy
    simp only [List.mem_append, List.mem_cons, List.mem_filter] at hy
    rcases hy with hy | hy | hy
    · exact .inr (by simp [hy])
    · exact .inl hy
    · exact .inr (by simp [hy.1])
  refine ⟨⟨?_, ?_, ?_, ?_⟩, ?_, ?_⟩
  · have := h.size
    have hl := List.length_filter_le (fun x => !unbound set x) after
    simp only [List.length_append, List.length_cons] at this ⊢
    omega
  · have hc := h.current
    have hsplit : (after.filter (fun e => e.state == .current)).length =
        ((after.filter (unbound set)).filter (fun e => e.state == .current)).length +
          ((after.filter (fun x => !unbound set x)).filter (fun e => e.state == .current)).length := by
      simp only [← List.countP_eq_length_filter]
      rw [List.countP_eq_countP_filter_add after (fun e => e.state == .current) (unbound set)]
    simp only [List.filter_append, List.filter_cons, List.length_append] at hc ⊢
    by_cases hm : m.state = .current
    · obtain ⟨y, hy, hyc⟩ := hcur.mp hm
      rcases List.mem_cons.mp hy with rfl | hy
      · have he : e.state = .current := hyc
        simp only [hm, he, beq_self_eq_true, if_true, List.length_cons] at hc ⊢
        omega
      · have hpos : 0 < ((after.filter (unbound set)).filter (fun e => e.state == .current)).length :=
          List.length_pos_of_mem (List.mem_filter.mpr ⟨hy, by simp [hyc]⟩)
        simp only [hm, beq_self_eq_true, if_true, List.length_cons]
        split at hc <;> grind
    · simp only [hm, beq_iff_eq, if_false]
      split at hc <;> grind
  · have hsub : (before ++ after.filter (fun x => !unbound set x)).Sublist (before ++ e :: after) :=
      (List.Sublist.refl before).append (List.filter_sublist.cons e)
    have hold := h.once.sublist ((hsub.filter (fun e => e.period != 0)).map (fun e => (e.set, e.period)))
    have hmz : (m.period != 0) = true := by rw [hper]; simpa using hz
    simp only [List.filter_append, List.filter_cons, hmz, if_true, List.map_append, List.map_cons] at hold ⊢
    refine List.perm_middle.nodup_iff.mpr (List.nodup_cons.mpr ⟨fun hm => ?_, hold⟩)
    rw [← List.map_append, ← List.filter_append] at hm
    obtain ⟨y, hy, heq⟩ := List.mem_map.mp hm
    rw [hset, hper, Prod.mk.injEq] at heq
    exact hn y (hsub.subset (List.mem_filter.mp hy).1) ⟨heq.1.trans hu.1.1, heq.2⟩
  · intro y hy
    rcases hkept y hy with rfl | hy
    · obtain ⟨z, hz, hzp, -⟩ := hfrom x hx
      rw [hpos, ← hzp]
      exact h.positions z hz
    · exact h.positions y hy
  · intro y hy hyc
    rcases hkept y hy with rfl | hy
    · obtain ⟨z, hz, hzp, hzs⟩ := hfrom x hx
      rw [hpos, ← hzp]
      exact hw.onClosed z hz (hzs.trans (hst hyc))
    · exact hw.onClosed y hy hyc
  · intro hne
    obtain ⟨y, hy, hyc⟩ := hasCurrent_iff.mp (hw.whileClosed hne)
    have hmc (hy : y ∈ e :: after.filter (unbound set)) : m.state = .current := by
      refine hcur.mpr ?_
      rcases List.mem_cons.mp hy with rfl | hy
      · exact ⟨{ y with period := period }, by simp, hyc⟩
      · exact ⟨y, by simp [hy], hyc⟩
    simp only [List.mem_append, List.mem_cons] at hy
    rcases hy with hy | hy | hy
    · exact hasCurrent_iff.mpr ⟨y, by simp [hy], hyc⟩
    · exact hasCurrent_iff.mpr ⟨m, by simp, hmc (by simp [hy])⟩
    · by_cases hub : unbound set y = true
      · exact hasCurrent_iff.mpr ⟨m, by simp, hmc (by simp [hy, hub])⟩
      · exact hasCurrent_iff.mpr ⟨y, by simp [hy, hub], hyc⟩

theorem closeFrame_keeps {s : State} (hr : s.runs .board = true) (set period window again : Nat) :
    s.Keeps (closeFrame s set period window again) := by
  refine .ofTable ((State.Touches.refl _ s).thenCloseFrame ..) hr fun h => ?_
  have h1 : (hearClose s set period).Stands := by
    unfold hearClose
    split
    · exact h
    · exact h
  unfold closeFrame
  dsimp only
  generalize hearClose s set period = v at h1
  split
  · exact h1
  · rename_i hz
    split
    · exact closeRows_stands h1 ..
    · rename_i hn
      split
      · exact closeRows_stands (s := { setTable v (bindTable v.free v.boardBill.table set period) with free := v.free + 1 })
          (bindTable_stands h1.1 h1.2 hz fun e he hc => hn (placeOf_isSome.mpr ⟨e, he, hc⟩)) ..
      · exact h1

/-! ### The second, the expiries and the start -/

theorem mapTable_stands {s : State} (h : s.Stands) {f : Entry → Entry}
    (hf : ∀ e, (f e).Ends e ∧ ((f e).state = .current ↔ e.state = .current)) :
    (setTable s (s.boardBill.table.map f)).Stands :=
  h.dwindle rfl (dwindles_map (fun e => (hf e).1) _) fun hc => (hasCurrent_map (fun e => (hf e).2) _).trans hc

theorem boardBillSecond_keeps {s : State} (hr : s.runs .board = true) : s.Keeps (boardBillSecond s) := by
  refine .ofTable ((State.Touches.refl _ s).thenBoardBillSecond) hr fun h => mapTable_stands h fun e => ?_
  unfold entrySecond Entry.Ends
  cases hs : e.state <;> simp [hs]

theorem claimWaitStep_keeps (s : State) (place : Nat) : s.Keeps (claimWaitStep s place) := by
  refine .whenRuns fun _ hr => ?_
  split
  · rename_i e he
    refine .ite (fun hw => .ofTable ?_ hr fun h => ?_) fun _ => .refl s
    · unfold waitRunsOut
      exact .ite (((State.Touches.refl _ s).thenSetTable _).thenPost ..) ((State.Touches.refl _ s).thenLeaveTable ..)
    · have hn : e.state ≠ .current := by
        intro hc
        simp [waitOver, hc] at hw
      unfold waitRunsOut
      split
      · exact setEntry_stands h he hn ⟨rfl, rfl, rfl, id⟩
      · exact leaveTable_stands h he hn ..
  · exact .refl s

theorem lapseStep_keeps (s : State) (place : Nat) : s.Keeps (lapseStep s place) := by
  refine .whenRuns fun _ hr => ?_
  split
  · rename_i e he
    refine .ite (fun hw => .ofTable ((State.Touches.refl _ s).thenLeaveTable ..) hr fun h => ?_) fun _ => .refl s
    refine leaveTable_stands h he (fun hc => ?_) ..
    simp [ageOver, hc] at hw
  · exact .refl s

theorem endCurrent_noCurrent (s : State) : NoCurrent (endCurrent s).boardBill.table := by
  intro e he
  obtain ⟨x, -, rfl⟩ := List.mem_map.mp he
  by_cases hc : x.state = .current <;> simp [hc]

theorem endCurrent_dwindles (s : State) : Dwindles (endCurrent s).boardBill.table s.boardBill.table :=
  dwindles_map (fun e => by by_cases hc : e.state = .current <;> simp [Entry.Ends, hc]) _

/-- An entry opened for a closed position, whatever was CURRENT having ended. -/
theorem feedbackAppears_stands {s : State} (h : TableFits s.boardBill.table) {pos : Nat} (hp : pos ∈ s.closedList) :
    (feedbackAppears s pos).Stands :=
  .ofMakeCurrent (s := endCurrent s) (h.dwindle (endCurrent_dwindles s)) (endCurrent_noCurrent s) hp ..

/-- The entries CURRENT at a start stand on the one closed position. -/
theorem settleCurrent_onClosed {s : State} {e : Entry} (hc : (settleCurrent s e).state = .current) (hp : 1 ≤ e.pos) :
    (settleCurrent s e).pos ∈ s.closedList := by
  unfold settleCurrent at hc ⊢
  split at hc
  · cases hc
  · rename_i hn
    split at hc
    · simp_all
    · simp only [hc, true_and, Decidable.not_not] at hn
      have hcl : s.closedPos = e.pos := hn.1
      simp only [hc, hn, and_self, not_true_eq_false, and_false, if_false, reduceCtorEq]
      unfold State.closedPos at hcl
      split at hcl
      · rename_i p hl; simp [hl, ← hcl]
      · omega

theorem startBoardBill_stands {s : State} (h : TableFits s.boardBill.table) : (startBoardBill s).Stands := by
  have hd : Dwindles (s.boardBill.table.map (settleCurrent s)) s.boardBill.table := by
    refine dwindles_map (fun e => ?_) _
    unfold settleCurrent Entry.Ends
    split
    · simp
    · split
      · simp_all
      · simp
  have h1 := h.dwindle hd
  have hon : ∀ e ∈ s.boardBill.table.map (settleCurrent s), e.state = .current → e.pos ∈ s.closedList := by
    intro e he hc
    obtain ⟨x, hx, rfl⟩ := List.mem_map.mp he
    exact settleCurrent_onClosed hc (h.positions x hx).1
  unfold startBoardBill
  dsimp only
  generalize hu : (if hasCurrent (setTable s (s.boardBill.table.map (settleCurrent s))).boardBill.table then _ else _ : State) = u
  have hsu : u.Stands := by
    subst hu
    split
    · exact ⟨h1, hon, fun _ => ‹_›⟩
    · rename_i hn
      split
      · rename_i hl
        refine ⟨h1, hon, fun hne => absurd hl hne⟩
      · rename_i n l hl
        refine .ofMakeCurrent (s := setTable s (s.boardBill.table.map (settleCurrent s))) h1
          (noCurrent_iff.mpr (by simpa using hn)) ?_ ..
        rw [hl]; exact List.mem_cons_self ..
  refine foldl_stands (fun v e hv => ?_) _ (mapTable_stands hsu fun e => ?_)
  · unfold reclaim
    split
    · exact hv
    · exact hv
  · by_cases hc : e.state = .claimed <;> simp [Entry.Ends, hc]

end Sys2Proof.Machine
end

section
/-! SUPPORT for the five invariants: a change of a field input, which the invariants see before the blocks follow it. -/

-- One proof after the other: each proof elaborated at the same time takes a thread's stack of the check's memory.
set_option Elab.async false

namespace Sys2Proof.Machine

/-! ### The inputs -/

theorem input_setInput {s : State} (h : s.inputs.length = 6) {n m : Nat} (hn : 1 ≤ n ∧ n ≤ 3) (hm : 1 ≤ m) (level : Bool) :
    (setInput s n level).input m = if m = n then level else s.input m := by
  simp only [State.input, setInput, List.getD_eq_getElem?_getD]
  split
  · rename_i he
    rw [he, List.getElem?_set_self (by omega)]; rfl
  · rw [List.getElem?_set_ne (by omega)]

/-- Which positions are closed once the feedback of one has changed. -/
theorem mem_closedList_setInput {s : State} (h : s.inputs.length = 6) {n m : Nat} (hn : 1 ≤ n ∧ n ≤ 3) (level : Bool) :
    m ∈ (setInput s n level).closedList ↔ if m = n then level = true else m ∈ s.closedList := by
  simp only [State.closedList, List.mem_filter, List.mem_cons, List.not_mem_nil, or_false]
  by_cases hm : 1 ≤ m
  · rw [input_setInput h hn hm]
    split
    · rename_i he; subst he; simp; omega
    · rfl
  · have : m ≠ n := by omega
    simp only [this, if_false]
    omega

theorem runs_of_set {s : State} (hs : s.runs .set = true) : s.runs .board = false := by
  unfold State.runs at hs ⊢
  simp only [Bool.and_eq_true, beq_iff_eq] at hs
  simp [hs.2]

/-! ### The stage follows a feedback -/

/-- A feedback that appears or goes opens or ends an entry, and the table stands on what is closed now (R158, R159). -/
theorem entriesFollow {s : State} (h : s.TableFollows) (hr : s.runs .board = true) {pos : Nat} (hp : 1 ≤ pos ∧ pos ≤ 3)
    (level : Bool) :
    (if level then feedbackAppears (setInput s pos level) pos else feedbackGoes (setInput s pos level) pos).Stands := by
  have hfit : TableFits (setInput s pos level).boardBill.table := h.fits
  have hw := h.followsSwitch hr
  cases level with
  | true => exact feedbackAppears_stands hfit ((mem_closedList_setInput h.sixInputs hp true).mpr (by simp))
  | false =>
    simp only [Bool.false_eq_true, if_false]
    unfold feedbackGoes
    split
    · split
      · rename_i hl
        exact ⟨hfit.dwindle (endCurrent_dwindles _), fun e he hc => absurd hc (endCurrent_noCurrent _ e he),
          fun hne => absurd hl hne⟩
      · rename_i n l hl
        refine .ofMakeCurrent (s := endCurrent (setInput s pos false)) (hfit.dwindle (endCurrent_dwindles _))
          (endCurrent_noCurrent _) ?_ ..
        change n ∈ (setInput s pos false).closedList
        rw [hl]; exact List.mem_cons_self ..
    · rename_i hn
      refine ⟨hfit, fun e he hc => (mem_closedList_setInput h.sixInputs hp false).mpr ?_, fun hne => hw.whileClosed ?_⟩
      · have hne : e.pos ≠ pos := fun heq => hn (List.any_eq_true.mpr ⟨e, he, by simp [hc, heq]⟩)
        simpa [hne] using hw.onClosed e he hc
      · obtain ⟨m, hm⟩ := List.exists_mem_of_ne_nil _ hne
        rw [mem_closedList_setInput h.sixInputs hp] at hm
        split at hm
        · cases hm
        · exact List.ne_nil_of_mem hm

/-- Whatever a feedback does, no CLOSE stays beside it, and the commands keep to their states (R93, R94, R105, R108). -/
theorem followFeedback_interlocked {s v : State} (h : s.Interlocked) (hr : s.runs .board = true) {pos : Nat}
    (hi : v.inputs.length = 6) (hst : v.station = s.station) (him : v.image = s.image) (hc : v.chg = s.chg) {level : Bool}
    (hl : level = false → s.closedList = [] → v.closedList = []) : (followFeedback v pos level).Interlocked := by
  have hsix : (followFeedback v pos level).inputs.length = 6 := by
    rw [show (followFeedback v pos level).inputs = v.inputs from
      ((State.Touches.refl [.chg] v).thenFollowFeedback pos level).same .inputs (by decide)]
    exact hi
  have hnone (hv : v.chg.cmd = none) : (followFeedback v pos level).Interlocked :=
    .of_released hsix (((State.Touches.refl [.chg] v).thenFollowFeedback pos level).same .cmdNone (by decide) hv)
  have hcmd (hb : s.chg.state ≠ .breaking) (hm : s.chg.state ≠ .making) : v.chg.cmd = none :=
    hc ▸ h.cmd_none hb hm
  by_cases htwo : v.chg.state ≠ .locked ∧ 2 ≤ v.closedList.length
  · refine .of_released hsix ?_
    rw [followFeedback, if_pos htwo]
    exact takeSwitchFault_cmd ..
  cases hs : s.chg.state
  case breaking =>
    have hsv : v.chg.state = .breaking := by rw [hc, hs]
    cases ha : v.chg.attempt with
    | none =>
      refine hnone ?_
      refine Classical.byContradiction fun hne => ?_
      exact h.attempting (by rwa [← hc]) (by rw [← hc, ha])
    | some a =>
      rw [followFeedback, if_neg htwo]
      simp only [hsv, ha]
      split
      · refine .of_released hi ?_
        exact ((State.Touches.refl [.chg] (setCmd v none)).thenEnterDead a).same .cmdNone (by decide) rfl
      · refine ⟨hi, fun _ => by rw [runs_of_same hst him]; exact hr, fun _ => by simp [ha], fun _ => hsv, fun p hp => ?_⟩
        have := (h.closing p (by rw [← hc]; exact hp)).1
        simp [hs] at this
  case making =>
    have hsv : v.chg.state = .making := by rw [hc, hs]
    cases ha : v.chg.attempt with
    | none =>
      refine hnone ?_
      refine Classical.byContradiction fun hne => ?_
      exact h.attempting (by rwa [← hc]) (by rw [← hc, ha])
    | some a =>
      cases level with
      | true =>
        refine .of_released hsix ?_
        rw [followFeedback, if_neg htwo]
        simp only [hsv, ha, if_true]
        split
        · split
          · unfold madeContact
            dsimp only
            split
            · exact ((State.Touches.refl [.chg] (setCmd v none)).thenEndAttempt ..).same .cmdNone (by decide) rfl
            · exact ((State.Touches.refl [.chg] (setCmd v none)).thenCommitMove _).same .cmdNone (by decide) rfl
          · exact takeSwitchFault_cmd ..
        · exact takeSwitchFault_cmd ..
      | false =>
        rw [followFeedback, if_neg htwo]
        simp only [hsv, ha, Bool.false_eq_true, if_false]
        refine ⟨hi, fun _ => by rw [runs_of_same hst him]; exact hr, fun _ => by simp [ha], fun ho => ?_, fun p hp => ?_⟩
        · have := h.opening (by rw [← hc]; exact ho)
          simp [hs] at this
        · exact ⟨hsv, hl rfl (h.closing p (by rw [← hc]; exact hp)).2⟩
  all_goals exact hnone (hcmd (by simp [hs]) (by simp [hs]))

/-- A closed feedback that changes in a BOARD in RUN. -/
theorem closedFeedback_keeps {s : State} (hr : s.runs .board = true) {pos : Nat} (hp : 1 ≤ pos ∧ pos ≤ 3) (level : Bool) :
    s.Keeps (closedFeedback (setInput s pos level) pos level) := by
  have hb : (setInput s pos level).Touches tableParts
      (if level then feedbackAppears (setInput s pos level) pos else feedbackGoes (setInput s pos level) pos) :=
    .ite ((State.Touches.refl _ _).thenFeedbackAppears _) ((State.Touches.refl _ _).thenFeedbackGoes _)
  unfold closedFeedback
  have hstands := fun h : s.TableFollows => entriesFollow h hr hp level
  generalize (if level then feedbackAppears (setInput s pos level) pos else feedbackGoes (setInput s pos level) pos) = v
    at hb hstands
  have hf := (State.Touches.refl [.chg] v).thenFollowFeedback pos level
  have hi : v.inputs = (setInput s pos level).inputs := hb.same .inputs (by decide)
  have hst : v.station = s.station := hb.same .station (by decide)
  have him : v.image = s.image := hb.same .image (by decide)
  have hlen (h : s.inputs.length = 6) : v.inputs.length = 6 := by rw [hi]; simpa [setInput] using h
  refine ⟨fun h => hf.queues (hb.queues (h.of_same rfl rfl)), fun h => ?_, fun h => ?_, fun h => ?_, fun h => ?_⟩
  · refine followFeedback_interlocked h hr (hlen h.sixInputs) hst him (hb.same .chg (by decide)) fun hlev hnil => ?_
    rw [closedList_of_same hi]
    refine List.eq_nil_iff_forall_not_mem.mpr fun m hm => ?_
    rw [mem_closedList_setInput h.sixInputs hp, hnil, hlev] at hm
    split at hm <;> simp at hm
  · exact hf.promises (by decide) (hb.promises (by decide)
      (h.of_shrink (t := setInput s pos level) ⟨.refl _, .refl _⟩ (.refl _) rfl rfl))
  · have hv : v.TableFollows := .of_fits (hlen h.sixInputs) (hstands h).1 fun _ => (hstands h).2
    exact hv.of_keys (hf.same .entries (by decide)) (hf.same .inputs (by decide)) (hf.same .station (by decide))
      (hf.same .image (by decide))
  · refine hf.same .order (by decide) (hb.same .order (by decide) ⟨by simpa [setInput] using h.sixInputs, h.channels,
      h.positions, fun hset => ?_, h.noneElsewhere⟩)
    rw [show (setInput s pos level).runs .set = s.runs .set from rfl] at hset
    rw [runs_of_set hset] at hr
    cases hr

/-! ### Every role -/

theorem pinChange_keeps {s : State} (ha : s.awake = true) (n : Nat) (level : Bool) : s.Keeps (pinChange s n level) := by
  unfold pinChange
  split
  · exact .refl s
  rename_i hno
  have hp : 1 ≤ n ∧ n ≤ 3 := by omega
  by_cases hb : s.runs .board = true
  · have hset : (setInput s n level).runs .set = false := by
      cases hs : (setInput s n level).runs .set with
      | false => rfl
      | true =>
        rw [show (setInput s n level).runs .set = s.runs .set from rfl] at hs
        rw [runs_of_set hs] at hb
        cases hb
    have he : dutyEvent (setInput s n level) (fun t => dutyInput t n level) = setInput s n level := by
      simp [dutyEvent, whenRuns, hset]
    rw [he, whenRuns_of_runs (s := setInput s n level) ha hb]
    exact closedFeedback_keeps hb hp level
  · have ht : (setInput s n level).Touches dutyParts (dutyEvent (setInput s n level) (fun t => dutyInput t n level)) :=
      (State.Touches.refl _ _).thenDutyEvent fun v => (State.Touches.refl _ v).thenDutyInput n level
    have hset (hs : s.runs .set = true) : (dutyEvent (setInput s n level) (fun t => dutyInput t n level)).Settled := by
      rw [dutyEvent_of_runs (s := setInput s n level) ha hs]
      exact settle_settled _
    have hnone (hs : s.runs .set = false) : (dutyEvent (setInput s n level) (fun t => dutyInput t n level)).duty = s.duty := by
      rw [dutyEvent, whenRuns_of_not_runs (s := setInput s n level) hs]
      rfl
    generalize dutyEvent (setInput s n level) (fun t => dutyInput t n level) = t at ht hset hnone
    have hi : t.inputs = (setInput s n level).inputs := ht.same .inputs (by decide)
    have hst : t.station = s.station := ht.same .station (by decide)
    have him : t.image = s.image := ht.same .image (by decide)
    have hlen (h : s.inputs.length = 6) : t.inputs.length = 6 := by rw [hi]; simpa [setInput] using h
    have hrt : t.runs .board = false := by rw [runs_of_same hst him]; simpa using hb
    rw [whenRuns_of_not_runs hrt]
    refine ⟨fun h => ht.queues (h.of_same rfl rfl), fun h => ?_, fun h => ?_, fun h => ?_, fun h => ?_⟩
    · refine .of_released (hlen h.sixInputs) ?_
      rw [show t.chg = s.chg from ht.same .chg (by decide)]
      refine Classical.byContradiction fun hne => ?_
      exact hb (h.inBoard hne)
    · exact ht.promises (by decide) (h.of_shrink (t := setInput s n level) ⟨.refl _, .refl _⟩ (.refl _) rfl rfl)
    · refine .of_fits (hlen h.sixInputs) ?_ fun hr => absurd hr (by simp [hrt])
      rw [show t.boardBill = s.boardBill from ht.same .boardBill (by decide)]
      exact h.fits
    · refine ⟨hlen h.sixInputs, ?_, ?_, fun hr => hset ?_, fun hr => ?_⟩
      · rw [show t.meter = s.meter from ht.same .meter (by decide)]; exact h.channels
      · rw [show t.chg = s.chg from ht.same .chg (by decide)]; exact h.positions
      · rwa [runs_of_same hst him] at hr
      · rw [runs_of_same hst him] at hr
        rw [hnone hr]; exact h.noneElsewhere hr

end Sys2Proof.Machine
end

section
/-! SUPPORT for the five invariants: every operation of the blocks, the line and the port keeps them. -/

-- One proof after the other: each proof elaborated at the same time takes a thread's stack of the check's memory.
set_option Elab.async false

namespace Sys2Proof.Machine

/-! ### The line's own queue -/

/-- Frames whose attempts or place on the line change keep the queue in order. -/
theorem State.QueuesFit.of_map {s t : State} (h : s.QueuesFit) {f : TxFrame → TxFrame} (hc : ∀ x, (f x).cls = x.cls)
    (hs : ∀ x, (f x).isStatus = x.isStatus) (hl : t.line.queue = s.line.queue.map f)
    (hr : t.records.queue = s.records.queue) : t.QueuesFit := by
  refine ⟨?_, ?_, ?_, hr ▸ h.records⟩
  · simpa [hl] using h.frames
  · rw [hl, List.pairwise_map]; simpa only [hc] using h.ordered
  · rw [hl, List.filter_map, List.length_map]
    simpa only [Function.comp_def, hs] using h.oneStatus

/-- The head of the queue alone changes. -/
theorem State.QueuesFit.of_head {s t : State} (h : s.QueuesFit) (hl : t.line.queue = startHead s.line.queue)
    (hr : t.records.queue = s.records.queue) : t.QueuesFit := by
  cases hq : s.line.queue with
  | nil => exact h.of_same (by rw [hl, hq]; rfl) hr
  | cons f rest =>
    have h1 := h.frames
    have h2 := h.ordered
    have h3 := h.oneStatus
    rw [hq] at h1 h2 h3
    rw [hq] at hl
    refine ⟨by rw [hl]; exact h1, ?_, ?_, hr ▸ h.records⟩
    · rw [hl]; exact List.pairwise_cons.mpr (List.pairwise_cons.mp h2)
    · rw [hl]
      by_cases hk : f.body.kind = .status <;> simpa [startHead, TxFrame.isStatus, List.filter_cons, hk] using h3

/-- The line alone has changed, and its queue fits. -/
theorem State.Keeps.ofLine {s : State} {l : LineCtl} (h : s.QueuesFit → ({ s with line := l } : State).QueuesFit) :
    s.Keeps { s with line := l } := by
  refine State.Touches.keeps (ps := [.phase, .listenOnly, .silence]) ⟨fun p hp => ?_, h⟩ (by decide)
  have hr := Part.Same.refl p s
  cases p
  case phase | listenOnly | silence => simp at hp
  case order => exact fun g => g.of_same rfl rfl rfl rfl rfl rfl
  all_goals exact hr

theorem setPhase_keeps (s : State) (p : LinePhase) : s.Keeps (setPhase s p) := .ofLine fun h => h.of_same rfl rfl

theorem offLine_fits {s t : State} (h : s.QueuesFit) (hl : t.line.queue = offLine s.line.queue)
    (hr : t.records.queue = s.records.queue) : t.QueuesFit :=
  h.of_map (f := fun f => { f with onLine := false }) (fun _ => rfl) (fun _ => rfl) hl hr

theorem busFree_keeps (s : State) : s.Keeps (busFree s) :=
  .ite (fun _ => .refl s) fun _ => .ite (fun _ => .ofLine fun h => h.of_head rfl rfl) fun _ => setPhase_keeps s _

theorem arbitrationLost_keeps (s : State) : s.Keeps (arbitrationLost s) :=
  .ite (fun _ => .ofLine fun h => offLine_fits h rfl rfl) fun _ => .refl s

theorem addEvent_keeps (s : State) (e : Event) : s.Keeps (addEvent s e) :=
  ((State.Touches.refl [] s).thenAddEvent e).keeps (by decide)

theorem bitErrorSeen_keeps (s : State) : s.Keeps (bitErrorSeen s) := by
  refine .ite (fun _ => ?_) fun _ => .refl s
  split
  · exact .ofLine fun h => h.of_same rfl rfl
  · have h1 : s.Keeps { s with line := { s.line with queue := countAttempt s.line.queue, phase := .burst } } :=
      .ofLine fun h => State.QueuesFit.of_map (s := { s with line := { s.line with
          queue := s.line.queue.filter (fun f => !(f.onLine && decide (2 ≤ f.attempts))) } })
        (h.of_sublist List.filter_sublist h.records) (fun f => by split <;> rfl) (fun f => by split <;> rfl) rfl rfl
    dsimp only
    split
    · exact .ite (fun _ => h1.trans (addEvent_keeps _ _)) fun _ => h1
    · exact h1

theorem frameGone_keeps (s : State) : s.Keeps (frameGone s) := by
  refine .ite (fun _ => ?_) fun _ => .refl s
  split
  · exact .ofLine fun h => h.of_same rfl rfl
  · exact .ofLine fun h => h.of_sublist List.filter_sublist h.records

theorem goListenOnly_keeps (s : State) (own : Nat) : s.Keeps (goListenOnly s own) :=
  (State.Keeps.ofLine fun h => h.of_sublist (List.nil_sublist _) h.records).trans (addEvent_keeps _ _)

/-! ### Events of a SET -/

/-- An event of the duty controller in which no board joins its lists keeps the invariants. -/
theorem State.Touches.keepsDuty {s t : State} (h : s.Touches dutyParts t) : s.Keeps t := h.keeps (by decide)

theorem dutyEvent_keeps (s : State) {f : State → State} (hf : ∀ v : State, v.Touches actParts (f v)) :
    s.Keeps (dutyEvent s f) := ((State.Touches.refl _ s).thenDutyEvent hf).keepsDuty

theorem runs_station {s : State} {r : Role} (h : s.runs r = true) : s.station = .run := by
  unfold State.runs at h
  rw [Bool.and_eq_true] at h
  exact eq_of_beq h.1

theorem takeFrame_keeps (s : State) (board ticket load : Nat) :
    s.Keeps (dutyEvent s (fun t => takeFrame t board ticket load)) :=
  .dutyEvent (fun v => (State.Touches.refl _ v).thenTakeFrame ..) fun _ hr h => h.takeFrame (runs_station hr) ..

theorem commitFrame_keeps (s : State) (board ticket load : Nat) :
    s.Keeps (dutyEvent s (fun t => commitFrame t board ticket load)) :=
  .dutyEvent (fun v => (State.Touches.refl _ v).thenCommitFrame ..) fun _ _ h => h.commitFrame ..

theorem feedStatus_keeps (s : State) (board : Nat) (b : BoardStatus) :
    s.Keeps (dutyEvent s (fun t => feedStatus t board b)) :=
  .dutyEvent (fun v => (State.Touches.refl _ v).thenFeedStatus ..) fun _ _ h => h.feedStatus ..

/-- A claim that is listed names its board once, in a list that has room (R148, R151). -/
theorem listClaim_promises {s : State} (h : s.PromisesKept) (board period energy : Nat) :
    (listClaim s board period energy).PromisesKept := by
  unfold listClaim
  split
  · have hsame : ∀ f : Claim → Claim, (∀ c, (f c).board = c.board) →
        (s.setBill.claims.map f).map Claim.board = s.setBill.claims.map Claim.board := fun f hf =>
      List.map_map.trans (List.map_congr_left fun c _ => hf c)
    refine h.of_shrink ⟨.refl _, .refl _⟩ ?_ rfl rfl
    refine (hsame _ fun c => ?_) ▸ List.Sublist.refl _
    split <;> rfl
  · rename_i hn
    split
    · rename_i hroom
      refine ⟨h.feed, h.reservations, by simpa using Nat.succ_le_of_lt hroom, h.feedOnce, h.reservedOnce, ?_, h.apart, h.promised,
        h.noneBeforeRun⟩
      have hnew : board ∉ s.setBill.claims.map Claim.board := by simpa using hn
      simpa [List.nodup_append, h.claimedOnce] using hnew
    · exact h.of_shrink ⟨.refl _, .refl _⟩ (.refl _) rfl rfl

theorem claimFrame_keeps (s : State) (board period energy : Nat) :
    s.Keeps (claimFrame s board period energy) := by
  have g := (State.Touches.refl claimParts s).thenClaimFrame board period energy
  have hi := g.same .inputs (by decide)
  have hst := g.same .station (by decide)
  have him := g.same .image (by decide)
  refine ⟨g.queues, fun h => h.of_same hi hst him (g.same .chg (by decide)), fun h => ?_,
    fun h => h.of_keys (g.same .entries (by decide)) hi hst him, g.same .order (by decide)⟩
  unfold claimFrame
  have hp (n : Nat) (b : Body) : (post s n b).PromisesKept := h.of_shrink ⟨.refl _, .refl _⟩ (.refl _) rfl rfl
  split
  · exact listClaim_promises h ..
  · split
    · split
      · split
        · exact hp ..
        · exact h.of_shrink ⟨.refl _, .refl _⟩ (.refl _) rfl rfl
      · exact hp ..
    · exact hp ..

/-! ### Frames -/

theorem allotFrame_keeps {s : State} (hr : s.runs .board = true) (set period fuel outcome : Nat) :
    s.Keeps (allotFrame s set period fuel outcome) :=
  .ofTable ((State.Touches.refl _ s).thenAllotFrame ..) hr fun h => allotFrame_stands h ..

theorem deliver_keeps (s : State) (sender : Nat) (b : Body) : s.Keeps (deliver s sender b) := by
  unfold deliver
  split
  · exact .whenRuns fun _ _ => dryFrame_keeps ..
  · exact takeFrame_keeps ..
  · exact .whenRuns fun _ hr => takeReplyFrame_keeps hr ..
  · exact commitFrame_keeps ..
  · exact dutyEvent_keeps s fun v => (State.Touches.refl _ v).thenFeedRemove _
  · exact dutyEvent_keeps s fun v => (State.Touches.refl _ v).thenReleaseFrame ..
  · exact .whenRuns fun _ hr => closeFrame_keeps hr ..
  · exact .whenRuns fun _ _ => claimFrame_keeps ..
  · exact .whenRuns fun _ hr => allotFrame_keeps hr ..
  · exact .whenRuns fun _ _ => ((State.Touches.refl _ s).thenDeliverOpenFrame ..).keeps (by decide)
  · exact .whenRuns fun _ _ => ((State.Touches.refl _ s).thenDeliverAckFrame ..).keeps (by decide)
  · exact .whenRuns fun _ _ => ((State.Touches.refl _ s).thenDocketFrame ..).keeps (by decide)
  · exact .whenRuns fun _ _ => ((State.Touches.refl _ s).thenDeliverResultFrame ..).keeps (by decide)
  · exact .refl s

theorem billStatus_keeps {s : State} (hr : s.runs .board = true) (set r : Nat) : s.Keeps (billStatus s set r) :=
  .ofTable ((State.Touches.refl _ s).thenBillStatus ..) hr fun h => billStatus_stands h ..

theorem noticeStatus_keeps (s : State) (sender : Nat) (b : StatusBody) : s.Keeps (noticeStatus s sender b) := by
  unfold noticeStatus
  split
  · exact feedStatus_keeps ..
  · rename_i x
    refine .whenRuns fun _ hr => (chgStatus_keeps s sender x).trans (billStatus_keeps ?_ ..)
    have g := (State.Touches.refl [.chg] s).thenChgStatus sender x
    rw [runs_of_same (g.same .station (by decide)) (g.same .image (by decide))]
    exact hr
  · exact .refl s

theorem showPeer_keeps (s : State) (sender : Nat) (b : Option StatusBody) : s.Keeps (showPeer s sender b) :=
  ((State.Touches.refl _ s).thenShowPeer ..).keeps (by decide)

theorem peerFrame_keeps (s : State) (kind : Byte) (f : RxFrame) : s.Keeps (peerFrame s kind f) := by
  unfold peerFrame
  dsimp only
  split
  · exact .ite (fun _ => (showPeer_keeps ..).trans (noticeStatus_keeps ..)) fun _ => showPeer_keeps ..
  · exact showPeer_keeps ..

theorem goodFrameSeen_keeps (s : State) (kind : Byte) (f : RxFrame) : s.Keeps (goodFrameSeen s kind f) := by
  have h1 : s.Keeps (if s.duplicate f then goListenOnly s f.sender else s) :=
    .ite (fun _ => goListenOnly_keeps ..) fun _ => .refl s
  have h2 := h1.trans (peerFrame_keeps _ kind f)
  unfold goodFrameSeen
  refine .ite (fun _ => ?_) fun _ => h2
  split
  · exact h2.trans (deliver_keeps ..)
  · exact h2

theorem receive_keeps (kind : Byte) (f : RxFrame) (s : State) : s.Keeps (receive kind f s) :=
  .whenAwake fun _ => .ite (fun _ => .ite (fun _ => (setPhase_keeps ..).trans (goodFrameSeen_keeps ..))
    fun _ => setPhase_keeps ..) fun _ => .refl s

theorem receiveBits_keeps (bits : List Bool) (s : State) : s.Keeps (receiveBits bits s) := by
  unfold receiveBits
  split
  · exact receive_keeps ..
  · exact .whenAwake fun _ => .ite (fun _ => setPhase_keeps ..) fun _ => .refl s

end Sys2Proof.Machine
end

section
/-! SUPPORT for the five invariants: the supplies, the restarts, the local second and the port, and so every step. -/

-- One proof after the other: each proof elaborated at the same time takes a thread's stack of the check's memory.
set_option Elab.async false

namespace Sys2Proof.Machine

/-! ### The supplies and the cold start -/

theorem lostRecords_length (cause : LossCause) : (lostRecords cause).queue.length ≤ queueCap := by
  cases cause <;> decide

theorem State.PromisesKept.of_empty {t : State} (hf : t.duty.feed = []) (hr : t.reservations = [])
    (hc : t.setBill.claims = []) : t.PromisesKept :=
  ⟨by simp [hf], by simp [hr], by simp [hc], by simp [hf], by simp [hr], by simp [hc], by simp [hr],
    by simp [State.reservedSum, hr], fun _ => hr⟩

theorem not_runs_of_unconfigured {s : State} (h : s.station = .unconfigured) (r : Role) : s.runs r = false := by
  simp [State.runs, h]

/-- A cold start leaves queue, lists and conditions empty; what it takes of the retained items has to fit. -/
theorem coldStart_keeps {s u : State} (hi : u.inputs = s.inputs) (hq : s.QueuesFit → u.records.queue.length ≤ queueCap)
    (ht : s.TableFollows → TableFits u.boardBill.table) (hm : s.KeptInOrder → u.meter.channels.length = 13) :
    s.Keeps (coldStart u) where
  queues h := ⟨Nat.zero_le _, .nil, Nat.zero_le _, hq h⟩
  interlock h := .of_released (by rw [show (coldStart u).inputs = u.inputs from rfl, hi]; exact h.sixInputs) rfl
  promises _ := .of_empty rfl rfl rfl
  table h := .of_fits (by rw [show (coldStart u).inputs = u.inputs from rfl, hi]; exact h.sixInputs) (ht h) fun hr => by
    rw [not_runs_of_unconfigured rfl] at hr; cases hr
  order h := ⟨by rw [show (coldStart u).inputs = u.inputs from rfl, hi]; exact h.sixInputs,
    by simpa [coldStart, restartMeter] using hm h, rfl, fun hr =>
      absurd (hr.symm.trans (not_runs_of_unconfigured rfl _)) (by decide), fun _ => rfl⟩

theorem blankTable_fits : TableFits blankBoardBill.table := ⟨Nat.zero_le _, Nat.zero_le _, .nil, fun _ h => by cases h⟩

theorem judgeRetention_cases (s : State) :
    judgeRetention s = { s with powerUps := incTo 65535 s.powerUps } ∨ ∃ cause, judgeRetention s = loseRetention s cause := by
  unfold judgeRetention
  split
  · exact .inr ⟨_, rfl⟩
  · split
    · exact .inl rfl
    · exact .inr ⟨_, rfl⟩

/-- Power-up, whatever it makes of the retained items. -/
theorem powerUp_keeps (latchKept : Bool) (s : State) : s.Keeps (powerUp latchKept s) := by
  refine .ite (fun _ => .refl s) fun _ => ?_
  have hf : ∃ d c, (if latchKept then s else loseLatch s) = { s with doubt := d, checkAgrees := c } := by
    cases latchKept with
    | true => exact ⟨s.doubt, s.checkAgrees, rfl⟩
    | false => exact ⟨_, _, rfl⟩
  obtain ⟨d, c, hf⟩ := hf
  rw [hf]
  dsimp only
  rcases judgeRetention_cases { s with doubt := d, checkAgrees := c } with hj | ⟨cause, hj⟩ <;> rw [hj]
  · exact coldStart_keeps rfl (fun h => h.records) (fun h => h.fits) (fun h => h.channels)
  · exact coldStart_keeps rfl (fun _ => lostRecords_length cause) (fun _ => blankTable_fits) fun _ => rfl

theorem releaseReset_keeps (s : State) : s.Keeps (releaseReset s) :=
  .ite (fun _ => coldStart_keeps rfl (fun h => h.records) (fun h => h.fits) (fun h => h.channels)) fun _ => .refl s

/-- Outputs let go: pulses and the command end, and the queue is off the line (R199). -/
theorem letGo_keeps (s : State) : s.Keeps (letGo s) where
  queues h := offLine_fits h rfl rfl
  interlock h := .of_released h.sixInputs rfl
  promises h := h.of_shrink ⟨.refl _, .refl _⟩ (.refl _) rfl rfl
  table h := h.of_keys rfl rfl rfl rfl
  order h := h.of_same rfl rfl rfl rfl rfl rfl

/-- Parts that no invariant reads. -/
abbrev supplyParts : List Part := [.mainOn, .resetHeld, .backupGood, .doubt, .checkAgrees, .stationSeconds, .meter, .port]

theorem setSupply (s : State) (m r b d c : Bool) (n : Nat) (k : Metering) (p : Port)
    (hk : k.channels.length = s.meter.channels.length := by rfl) :
    s.Keeps { s with
      mainOn := m, resetHeld := r, backupGood := b, doubt := d, checkAgrees := c, stationSeconds := n, meter := k
      port := p } := by
  refine State.Touches.keeps (ps := supplyParts) ⟨fun q hq => ?_, fun h => h.of_same rfl rfl⟩ (by decide)
  have hr := Part.Same.refl q s
  cases q
  case mainOn | resetHeld | backupGood | doubt | checkAgrees | stationSeconds | meter | port => simp at hq
  case channelCount => exact hk
  case order => exact fun g => g.of_same rfl hk rfl rfl rfl rfl
  all_goals exact hr

theorem supplyLoss_keeps (s : State) : s.Keeps (supplyLoss s) :=
  .ite (fun _ => (letGo_keeps s).trans (setSupply (letGo s) _ _ _ _ _ _ _ _)) fun _ => .refl s

theorem backupFalls_keeps (s : State) : s.Keeps (backupFalls s) :=
  .ite (fun _ => .refl s) fun _ => setSupply s _ _ _ _ _ _ _ _

theorem holdReset_keeps (s : State) : s.Keeps (holdReset s) :=
  .ite (fun _ => (letGo_keeps s).trans (setSupply (letGo s) _ _ _ _ _ _ _ _)) fun _ => .refl s

/-! ### START and the warm restart -/

/-- Work of the duty controller that settles what it leaves, in a SET in RUN. -/
theorem keeps_of_settle {s t : State} (h : s.Touches actParts (settle t)) (hr : s.runs .set = true) : s.Keeps (settle t) :=
  (h.of_order (h.settle_order hr (by decide))).keepsDuty

theorem adoptDuty_keeps {s : State} (hr : s.runs .set = true) (mode : RunMode) : s.Keeps (adoptDuty s mode) :=
  keeps_of_settle ((State.Touches.refl _ s).thenAdoptDuty mode) hr

theorem startTank_touches (s : State) : s.Touches tankParts (startTank s) := (State.Touches.refl _ s).setTankParts ..

theorem startDelivery_keeps (s : State) : s.Keeps (startDelivery s) :=
  ((State.Touches.refl _ s).setDelivery _).keeps (by decide)

/-- The start of a SET's blocks, whatever its settlement unit does first. -/
theorem startBlocks_keeps {s : State} (hr : s.runs .set = true) {f : State → State}
    (hf : (startTank s).Touches setBillParts (f (startTank s))) (mode : RunMode) :
    s.Keeps (startDelivery (adoptDuty (f (startTank s)) mode)) := by
  have h1 := ((startTank_touches s).keeps (by decide)).trans (hf.keeps (by decide))
  refine (h1.trans (adoptDuty_keeps ?_ mode)).trans (startDelivery_keeps _)
  rw [runs_of_same (hf.same .station (by decide)) (hf.same .image (by decide))]
  exact hr

theorem startBoardBill_keeps {s : State} (hr : s.runs .board = true) : s.Keeps (startBoardBill s) :=
  .ofTable (State.Touches.refl _ s).thenStartBoardBill hr fun h => startBoardBill_stands h.1

theorem postStatus_keeps (s : State) : s.Keeps (postStatus s) :=
  ((State.Touches.refl [] s).thenPostStatus).keeps (by decide)

theorem stage_runs {s t : State} (h : s.Touches [.chg] t) (r : Role) : t.runs r = s.runs r :=
  runs_of_same (h.same .station (by decide)) (h.same .image (by decide)) r

theorem warmRestart_keeps {s : State} (hs : s.station = .run) : s.Keeps (warmRestart s) := by
  refine State.Keeps.trans ?_ (postStatus_keeps _)
  generalize hu : ({ endPulses s with
    line := restartLine s.line, peers := [], meter := restartMeter s.meter, reservations := [],
    chg := dropCmd s.chg } : State) = u
  have h1 : s.Keeps u := by
    subst hu
    exact ⟨fun h => h.of_sublist (List.nil_sublist _) h.records, fun h => .of_released h.sixInputs rfl,
      fun h => h.of_shrink ⟨.refl _, List.nil_sublist _⟩ (.refl _) rfl rfl, fun h => h.of_keys rfl rfl rfl rfl,
      fun h => h.of_same rfl (List.length_map _) rfl rfl rfl rfl⟩
  have hcmd : u.chg.cmd = none := by subst hu; rfl
  have hstation : u.station = .run := by subst hu; exact hs
  refine h1.trans ?_
  unfold rewarmRole
  split
  · rename_i hrole
    exact startBlocks_keeps (by simp [State.runs, hstation, hrole]) (State.Touches.refl _ _).thenRewarmSetBill _
  · rename_i hrole
    have hg := (State.Touches.refl [.chg] u).thenRewarmStage
    refine (State.Keeps.ofStage hg fun _ => hcmd).trans (startBoardBill_keeps ?_)
    rw [stage_runs hg]
    simp [State.runs, hstation, hrole]
  · exact ((State.Touches.refl _ u).setTanker _).keeps (by decide)
  · exact .refl u

/-- START begins in UNCONFIGURED: no command, no promise, no condition, and whatever table is retained. -/
theorem enterRun_keeps {s : State} (hs : s.station = .unconfigured) : s.Keeps (enterRun s) := by
  refine State.Keeps.trans ?_ (postStatus_keeps _)
  generalize hu : narrowMeter
    { s with station := .run, stationSeconds := 0, port := { s.port with startRefusal := none } } = u
  obtain ⟨kq, ki, kp, kf, ko⟩ : (s.QueuesFit → u.QueuesFit) ∧ (s.Interlocked → u.inputs.length = 6 ∧ u.chg.cmd = none) ∧
      (s.PromisesKept → u.PromisesKept) ∧ (s.TableFollows → u.inputs.length = 6 ∧ TableFits u.boardBill.table) ∧
      (s.KeptInOrder → u.KeptInOrder) := by
    have hnone := not_runs_of_unconfigured hs
    subst hu
    refine ⟨fun h => h.of_same rfl rfl, fun h => ⟨h.sixInputs, ?_⟩, fun h => ?_, fun h => ⟨h.sixInputs, h.fits⟩, fun h => ?_⟩
    · refine Classical.byContradiction fun hne => ?_
      have hb := h.inBoard hne
      rw [hnone] at hb
      cases hb
    · have hr := h.noneBeforeRun hs
      exact ⟨h.feed, h.reservations, h.claims, h.feedOnce, h.reservedOnce, h.claimedOnce, h.apart, h.promised, fun _ => hr⟩
    · have hc : s.duty.conditions = [] := h.noneElsewhere (hnone .set)
      refine ⟨h.sixInputs, (List.length_mapIdx ..).trans h.channels, h.positions, fun _ => ?_, fun _ => hc⟩
      refine ⟨fun hp => ?_, fun hp => ?_, fun hp => ?_⟩ <;> simp [State.present, narrowMeter, hc] at hp
  have hstation : u.station = .run := by subst hu; rfl
  have hall (hb : u.runs .board = false) : s.Keeps u :=
    ⟨kq, fun h => .of_released (ki h).1 (ki h).2, kp, fun h => .of_fits (kf h).1 (kf h).2 fun hr => absurd hr (by simp [hb]), ko⟩
  unfold startRole
  split
  · rename_i hrole
    exact (hall (by simp [State.runs, hrole])).trans
      (startBlocks_keeps (by simp [State.runs, hstation, hrole]) (State.Touches.refl _ _).thenStartSetBill _)
  · rename_i hrole
    have hr : u.runs .board = true := by simp [State.runs, hstation, hrole]
    have hg := (State.Touches.refl [.chg] u).thenAdoptStage
    have hb := (State.Touches.refl _ (adoptStage u)).thenStartBoardBill
    have hw : (adoptStage u).runs .board = true := (stage_runs hg _).trans hr
    have k2 := startBoardBill_keeps hw
    have k3 : (startBoardBill (adoptStage u)).Keeps (startBoard u) :=
      ((State.Touches.refl _ _).thenLostAtStart).keeps (by decide)
    refine ⟨fun h => k3.queues (k2.queues (hg.queues (kq h))), fun h => ?_, fun h => ?_, fun h => ?_, fun h => ?_⟩
    · exact k3.interlock (k2.interlock ((State.Keeps.ofStage hg fun _ => (ki h).2).interlock (.of_released (ki h).1 (ki h).2)))
    · exact k3.promises (k2.promises (hg.promises (by decide) (kp h)))
    · have hfit : TableFits (adoptStage u).boardBill.table := by
        rw [show (adoptStage u).boardBill = u.boardBill from hg.same .boardBill (by decide)]
        exact (kf h).2
      have hlen : (startBoardBill (adoptStage u)).inputs.length = 6 := by
        rw [show (startBoardBill (adoptStage u)).inputs = (adoptStage u).inputs from hb.same .inputs (by decide),
          show (adoptStage u).inputs = u.inputs from hg.same .inputs (by decide)]
        exact (kf h).1
      exact k3.table (.of_fits hlen (startBoardBill_stands hfit).1 fun _ => (startBoardBill_stands hfit).2)
    · exact k3.order (k2.order (hg.same .order (by decide) (ko h)))
  · rename_i hrole
    exact hall (by simp [State.runs, hrole])
  · rename_i hrole
    exact hall (by simp [State.runs, hrole])

/-! ### The local second -/

theorem clockSecond_keeps (b : Bool) (s : State) : s.Keeps (clockSecond b s) := setSupply s _ _ _ _ _ _ _ _

theorem statusSecond_keeps (s : State) : s.Keeps (statusSecond s) :=
  ((State.Touches.refl [] s).thenStatusSecond).keeps (by decide)

theorem holdSecond_keeps (s : State) : s.Keeps (holdSecond s) :=
  (((State.Touches.refl actParts s).thenHoldSecond).of_order fun h => h.of_same rfl rfl rfl rfl rfl rfl).keepsDuty

theorem dutySecond_keeps {s : State} (hr : s.runs .set = true) : s.Keeps (dutySecond s) :=
  keeps_of_settle ((State.Touches.refl _ s).thenDutySecond) hr

theorem setSecond_keeps {s : State} (hr : s.runs .set = true) : s.Keeps (setSecond s) :=
  ((((dutySecond_keeps hr).trans (holdSecond_keeps _)).trans
    ((State.Touches.refl _ _).thenTankSecond.keeps (by decide))).trans
    ((State.Touches.refl _ _).thenSetBillSecond.keeps (by decide))).trans
    ((State.Touches.refl _ _).thenDeliverySecond.keeps (by decide))

theorem boardSecond_keeps {s : State} (hr : s.runs .board = true) : s.Keeps (boardSecond s) :=
  (chgSecond_keeps s).trans (boardBillSecond_keeps hr)

theorem roleSecond_keeps (s : State) : s.Keeps (roleSecond s) := by
  unfold roleSecond
  split
  · exact .refl s
  · exact setSecond_keeps (by simp [State.runs, *])
  · exact boardSecond_keeps (by simp [State.runs, *])
  · exact (State.Touches.refl _ s).thenTankerSecond.keeps (by decide)
  · exact .refl s

theorem secondWork_keeps (i : SecondInputs) (s : State) : s.Keeps (secondWork i s) :=
  ((((((clockSecond_keeps i.backupGood s).trans (senseSecond_keeps i _)).trans
    (((State.Touches.refl _ _).thenMeasureLoop i.loop).keeps (by decide))).trans
    ((State.Touches.refl _ _).thenPeersSecond.keeps (by decide))).trans (statusSecond_keeps _)).trans
    ((State.Touches.refl _ _).thenMeterTick.keeps (by decide))).trans (roleSecond_keeps _)

/-! ### Expiries left due -/

theorem takeDuePeers_keeps (s : State) : s.Keeps (takeDuePeers s) :=
  ((State.Keeps.foldl (fun v n => ((State.Touches.refl _ v).thenPeerStaleStep n).keeps (by decide)) _ s).trans
    (.foldl (fun v n => ((State.Touches.refl _ v).thenPeerLostStep n).keeps (by decide)) _ _)).trans
    (((State.Touches.refl [] _).thenStatusStep).keeps (by decide))

theorem takeDueChannels_keeps (s : State) : s.Keeps (takeDueChannels s) :=
  (State.Keeps.foldl (fun v n => ((State.Touches.refl _ v).thenChannelStalledStep n).keeps (by decide)) _ s).trans
    (.foldl (fun v n => ((State.Touches.refl _ v).thenChannelLostStep n).keeps (by decide)) _ _)

theorem takeDueDuty_keeps (s : State) : s.Keeps (takeDueDuty s) :=
  ((State.Touches.refl _ s).thenStartTimeoutStep.thenWarmupStep.thenIdleStopStep.thenCooldownStep.thenUnloadLimitStep
    |>.thenDisagreementStep.thenOverloadStep.thenBurnSilenceStep.keepsDuty).trans
    (.foldl (fun v b => ((State.Touches.refl _ v).thenHoldStep b).keepsDuty) _ _)

theorem takeDueStage_keeps (s : State) : s.Keeps (takeDueStage s) :=
  (((((switchTimeoutStep_keeps s).trans (takeResendStep_keeps _)).trans (waitingTimeoutStep_keeps _)).trans
    (deadTimeStep_keeps _)).trans (retryStep_keeps _)).trans (dwellStep_keeps _)

theorem takeDueFuel_keeps (s : State) : s.Keeps (takeDueFuel s) :=
  (((State.Touches.refl _ s).thenLoopQualifiedStep.thenMatchingStep.thenMinuteStep.keeps (by decide)).trans
    ((State.Touches.refl _ _).thenInletWatchStep.thenQuietCountStep.thenSettleTimerStep.keeps (by decide))).trans
    ((State.Touches.refl _ _).thenOpeningStep.thenDocketRepeatStep.thenResultMissingStep.thenUnbookedRunStep.keeps (by decide))

theorem takeDueEntries_keeps {act : State → Nat → State} (ha : ∀ (v : State) n, v.Keeps (act v n)) (test : Entry → Bool)
    (m : Nat) (s : State) : s.Keeps (takeDueEntries test act m s) := by
  induction m generalizing s with
  | zero => exact .refl s
  | succ m ih =>
    unfold takeDueEntries
    split
    · exact (ha s _).trans (ih _)
    · exact .refl s

theorem takeDueBill_keeps (s : State) : s.Keeps (takeDueBill s) :=
  (((State.Touches.refl _ s).thenPeriodEndStep.thenWindowEndStep.keeps (by decide)).trans
    (takeDueEntries_keeps claimWaitStep_keeps ..)).trans (takeDueEntries_keeps lapseStep_keeps ..)

theorem replyDone_keeps (s : State) : s.Keeps (replyDone s) := setSupply s _ _ _ _ _ _ _ _

theorem takeDue_keeps (s : State) : s.Keeps (takeDue s) :=
  (((((State.Keeps.whenAwake fun _ => replyDone_keeps s).trans (takeDuePeers_keeps _)).trans
    (takeDueChannels_keeps _)).trans (takeDueDuty_keeps _)).trans (takeDueStage_keeps _)).trans
    ((takeDueFuel_keeps _).trans (takeDueBill_keeps _))

theorem localSecond_keeps (i : SecondInputs) (s : State) : s.Keeps (localSecond i s) :=
  .ite (fun _ => .ite (fun _ => clockSecond_keeps ..) fun _ => (takeDue_keeps s).trans (secondWork_keeps ..))
    fun _ => .refl s

/-! ### The port -/

theorem takeCommand_keeps (command : Nat) {act : State → Answer} (s : State) (h : s.Keeps (act s).state) :
    s.Keeps (takeCommand command act s) :=
  .ite (fun _ => h.trans (setSupply (act s).state _ _ _ _ _ _ _ _)) fun _ => .refl s

theorem ofLength_keeps {n : Nat} {l : List Byte} {act : State → Answer} {s : State} (h : s.Keeps (act s).state) :
    s.Keeps (ofLength n l act s).state := by
  unfold ofLength
  split
  · exact h
  · exact .refl s

theorem inRun_keeps {act : State → Answer} {s : State} (h : s.station = .run → s.Keeps (act s).state) :
    s.Keeps (inRun act s).state := by
  unfold inRun
  split
  · exact h ‹_›
  · exact .refl s

theorem beforeRun_keeps {act : State → Answer} {s : State} (h : s.station = .unconfigured → s.Keeps (act s).state) :
    s.Keeps (beforeRun act s).state := by
  unfold beforeRun
  cases hs : s.station with
  | run => exact .refl s
  | unconfigured => exact h hs

theorem forRole_keeps {r : Role} {act : State → Answer} {s : State} (h : s.image.role = some r → s.Keeps (act s).state) :
    s.Keeps (forRole r act s).state := by
  unfold forRole
  split
  · exact h ‹_›
  · exact .refl s

theorem request_keeps {r : Role} {arg : List Byte} {act : Nat → State → Answer} {s : State}
    (h : s.runs r = true → ∀ v, s.Keeps (act v s).state) : s.Keeps (request r arg act s).state := by
  unfold request
  split
  · exact inRun_keeps fun hs => forRole_keeps fun hr => h (by simp [State.runs, hs, hr]) _
  · exact .refl s

/-- A write in UNCONFIGURED, where no invariant reads the image but by what it promises nothing. -/
theorem writeAct_keeps {s : State} (hs : s.station = .unconfigured) (params : List Byte) :
    s.Keeps (writeAct params s).state := by
  unfold writeAct
  split
  · rename_i i _
    have hn (r : Role) : s.runs r = false := not_runs_of_unconfigured hs r
    have hi (r : Role) : ({ s with image := i } : State).runs r = false :=
      not_runs_of_unconfigured (s := { s with image := i }) hs r
    have h1 : s.Keeps { s with image := i } := by
      refine ⟨fun h => h.of_same rfl rfl, fun h => .of_released h.sixInputs ?_, fun h => ?_,
        fun h => .of_fits h.sixInputs h.fits fun hr => absurd hr (by simp [hi]), fun h =>
          ⟨h.sixInputs, h.channels, h.positions, fun hr => absurd hr (by simp [hi]), fun _ => h.noneElsewhere (hn _)⟩⟩
      · refine Classical.byContradiction fun hne => ?_
        exact absurd (h.inBoard hne) (by simp [hn])
      · have hr := h.noneBeforeRun hs
        exact ⟨h.feed, h.reservations, h.claims, h.feedOnce, h.reservedOnce, h.claimedOnce, h.apart,
          by simp [State.reservedSum, hr], fun _ => hr⟩
    refine h1.trans ?_
    unfold accept actOnWrite
    dsimp only
    refine .ite (fun _ => ?_) fun _ => .ite (fun _ => setPhase_keeps ..) fun _ => .refl _
    exact ((State.Touches.refl _ ({ s with image := i } : State)).setPeers _).keeps (by decide)
  · exact .refl s

theorem startUp_keeps {s : State} (hs : s.station = .unconfigured) : s.Keeps (startUp s).state := by
  unfold startUp
  split
  · exact setSupply s _ _ _ _ _ _ _ _
  · exact enterRun_keeps hs

theorem removeHead_keeps (seq : Nat) (s : State) : s.Keeps (removeHead seq s).state := by
  unfold removeHead
  split
  · rename_i r rest hq
    split
    · have hrec : rest.length ≤ s.records.queue.length := by rw [hq]; exact Nat.le_succ _
      refine State.Touches.keeps (ps := []) ⟨fun p _ => ?_, fun h =>
        ⟨h.frames, h.ordered, h.oneStatus, Nat.le_trans hrec h.records⟩⟩ (by decide)
      have hr := Part.Same.refl p s
      cases p
      case order => exact fun g => g.of_same rfl rfl rfl rfl rfl rfl
      all_goals exact hr
    · exact .refl s
  · exact .refl s

theorem changeoverAct_keeps (pos : Nat) (s : State) : s.Keeps (changeoverAct pos s).state := by
  unfold changeoverAct
  split
  · exact .refl s
  · split
    · exact .refl s
    · rename_i hi
      rw [Decidable.not_not] at hi
      split
      · exact .refl s
      · exact State.Keeps.ofStage (t := beginAttempt s .planned [pos]) ((State.Touches.refl _ s).thenBeginAttempt ..) 
          fun h => h.cmd_none (by simp [hi]) (by simp [hi])

theorem abortAct_keeps (s : State) : s.Keeps (abortAct s).state := by
  have hk (hb : s.chg.state ≠ .breaking) (hm : s.chg.state ≠ .making) : s.Keeps (abortAttempt s) := by
    refine .ofStage ?_ fun h => h.cmd_none hb hm
    unfold abortAttempt
    split
    · exact ((State.Touches.refl _ s).thenReleaseTarget _).thenEndAttempt ..
    · exact .refl _ s
  unfold abortAct
  split
  · exact hk (by simp [*]) (by simp [*])
  · exact hk (by simp [*]) (by simp [*])
  all_goals exact .refl s

theorem modeAct_keeps (v : Nat) (s : State) : s.Keeps (modeAct v s).state := by
  unfold modeAct
  split
  · rename_i m _
    exact dutyEvent_keeps s fun t =>
      ((State.Touches.refl _ t).setDutyParts t.pulses { t.duty with mode := m, idle := 0 } t.reservations t.free).thenActMode
  · exact .refl s

theorem stopForceAct_keeps (s : State) : s.Keeps (stopForceAct s).state := by
  unfold stopForceAct
  split
  · exact dutyEvent_keeps s fun t => (State.Touches.refl _ t).thenEnterCooling _
  · exact .refl s

theorem ackOf_keeps (n : Nat) (s : State) : s.Keeps (ackOf n s).state := by
  have hk (w : FaultEntry → Bool) : s.Keeps (dutyEvent s (fun t => acknowledge t w)) :=
    dutyEvent_keeps s fun t => ((State.Touches.refl _ t).setDutyParts ..).thenDropSettled
  unfold ackOf
  split
  · split
    · exact .refl s
    · exact hk _
  · split
    · split
      · exact hk _
      · exact .refl s
    · exact .refl s

theorem unlock_touches (s : State) : s.Touches [.chg] (unlock s) :=
  ((((State.Touches.refl [.chg] s).setChg { s.chg with fault := none, retry := none, dwell := none }).thenAddEvent
    .switchFaultCleared).thenEnterChg .idle).thenIdleRows allRows

theorem clearFault_keeps (s : State) : s.Keeps (clearFault s).state := by
  unfold clearFault
  split
  · unfold clearDuty
    split
    · split
      · exact .refl s
      · exact dutyEvent_keeps s fun t => (State.Touches.refl _ t).thenEnterOff
    · exact .refl s
  · unfold clearSwitch
    split
    · rename_i hl
      split
      · exact .refl s
      · exact State.Keeps.ofStage (unlock_touches s) fun h => h.cmd_none (by simp [hl]) (by simp [hl])
    · exact .refl s
  · exact .refl s
  · exact .refl s

/-! ### The commands -/

theorem modeRequest_keeps (arg : List Byte) (s : State) : s.Keeps (modeRequest arg s).state :=
  request_keeps fun _ v => modeAct_keeps v s

theorem stopForceRequest_keeps (arg : List Byte) (s : State) : s.Keeps (stopForceRequest arg s).state :=
  request_keeps fun _ _ => stopForceAct_keeps s

theorem changeoverRequest_keeps (arg : List Byte) (s : State) : s.Keeps (changeoverRequest arg s).state :=
  request_keeps fun _ v => changeoverAct_keeps v s

theorem abortRequest_keeps (arg : List Byte) (s : State) : s.Keeps (abortRequest arg s).state :=
  request_keeps fun _ _ => abortAct_keeps s

theorem deliveryBeginRequest_keeps (arg : List Byte) (s : State) : s.Keeps (deliveryBeginRequest arg s).state :=
  request_keeps fun _ v => by
    unfold deliveryBeginAct
    split
    · exact .refl s
    · split
      · exact .refl s
      · exact ((State.Touches.refl _ s).thenBeginDelivery v).keeps (by decide)

theorem deliveryEndRequest_keeps (arg : List Byte) (s : State) : s.Keeps (deliveryEndRequest arg s).state :=
  request_keeps fun _ _ => by
    unfold deliveryEndAct
    split
    · exact (State.Touches.refl _ s).thenCloseDelivery.keeps (by decide)
    · exact .refl s

theorem loadRequest_keeps (arg : List Byte) (s : State) : s.Keeps (loadRequest arg s).state :=
  request_keeps fun _ _ => ((State.Touches.refl _ s).setTanker _).keeps (by decide)

theorem requestAct_keeps (params : List Byte) (s : State) : s.Keeps (requestAct params s).state := by
  unfold requestAct
  split
  · split
    · exact modeRequest_keeps ..
    · exact stopForceRequest_keeps ..
    · exact changeoverRequest_keeps ..
    · exact abortRequest_keeps ..
    · exact deliveryBeginRequest_keeps ..
    · exact deliveryEndRequest_keeps ..
    · exact loadRequest_keeps ..
    · exact inRun_keeps fun _ => .refl s
  · exact .refl s

theorem writeConfigAct_keeps (params : List Byte) (s : State) : s.Keeps (writeConfigAct params s).state :=
  ofLength_keeps (beforeRun_keeps fun hs => writeAct_keeps hs params)

theorem startAct_keeps (params : List Byte) (s : State) : s.Keeps (startAct params s).state :=
  ofLength_keeps (beforeRun_keeps fun hs => startUp_keeps hs)

theorem readPeerAct_keeps (params : List Byte) (s : State) : s.Keeps (readPeerAct params s).state := by
  unfold readPeerAct
  split
  · unfold readPeerOf
    split
    · exact .refl s
    · split
      · exact .refl s
      · split <;> exact .refl s
  · exact .refl s

theorem readRecordAct_keeps (params : List Byte) (s : State) : s.Keeps (readRecordAct params s).state := by
  refine ofLength_keeps ?_
  unfold readHead
  split <;> exact .refl s

theorem removeRecordAct_keeps (params : List Byte) (s : State) : s.Keeps (removeRecordAct params s).state := by
  unfold removeRecordAct
  split
  · exact removeHead_keeps ..
  · exact .refl s

theorem ackFaultAct_keeps (params : List Byte) (s : State) : s.Keeps (ackFaultAct params s).state := by
  unfold ackFaultAct
  split
  · exact inRun_keeps fun _ => forRole_keeps fun _ => ackOf_keeps ..
  · exact .refl s

theorem clearFaultAct_keeps (params : List Byte) (s : State) : s.Keeps (clearFaultAct params s).state :=
  ofLength_keeps (inRun_keeps fun _ => clearFault_keeps s)

theorem warmRestartAct_keeps (params : List Byte) (s : State) : s.Keeps (warmRestartAct params s).state :=
  ofLength_keeps (inRun_keeps fun hs => warmRestart_keeps hs)

theorem commandAct_keeps (code : Nat) (params : List Byte) (s : State) : s.Keeps (commandAct code params s).state := by
  unfold commandAct
  split
  · exact writeConfigAct_keeps ..
  · exact startAct_keeps ..
  · exact ofLength_keeps (.refl s)
  · exact readPeerAct_keeps ..
  · exact ofLength_keeps (.refl s)
  · exact readRecordAct_keeps ..
  · exact removeRecordAct_keeps ..
  · exact requestAct_keeps ..
  · exact ackFaultAct_keeps ..
  · exact clearFaultAct_keeps ..
  · exact warmRestartAct_keeps ..
  · exact .refl s

theorem hostCommand_keeps (code : Nat) (params : List Byte) (s : State) : s.Keeps (hostCommand code params s) :=
  .ite (fun _ => .refl s) fun _ => takeCommand_keeps _ s (commandAct_keeps ..)

theorem frameIn_keeps (bytes : List Byte) (s : State) : s.Keeps (frameIn bytes s) := by
  unfold frameIn
  split
  · exact .ite (fun _ => .refl s) fun _ => hostCommand_keeps ..
  · exact .refl s

end Sys2Proof.Machine
end

section
/-! The five invariants: every command keeps them, and so does every step. -/

-- One proof after the other: each proof elaborated at the same time takes a thread's stack of the check's memory.
set_option Elab.async false

namespace Sys2Proof.Machine

theorem pulseEnd_keeps (s : State) (coil : Output) : s.Keeps (pulseEnd s coil) :=
  (((State.Touches.refl actParts s).setDutyParts
    { engine := if s.pulses.engine = some coil then none else s.pulses.engine
      breaker := if s.pulses.breaker = some coil then none else s.pulses.breaker } s.duty s.reservations s.free).of_order fun h => h.of_same rfl rfl rfl rfl rfl rfl).keepsDuty

/-- Every command's arm gives a state that keeps the invariants of the one before. -/
theorem exec_keeps (i : Instr) (s : State) : ∃ t, exec i s = .next t ∧ s.Keeps t := by
  cases i with
  | powerUp _ => exact ⟨_, rfl, powerUp_keeps ..⟩
  | resetPin => exact ⟨_, rfl, releaseReset_keeps s⟩
  | mainSupplyLoss => exact ⟨_, rfl, supplyLoss_keeps s⟩
  | backupBelowThreshold => exact ⟨_, rfl, backupFalls_keeps s⟩
  | localSecond _ => exact ⟨_, rfl, localSecond_keeps ..⟩
  | busFree => exact ⟨_, rfl, .whenAwake fun _ => busFree_keeps s⟩
  | arbitrationLoss => exact ⟨_, rfl, .whenAwake fun _ => arbitrationLost_keeps s⟩
  | bitError => exact ⟨_, rfl, .whenAwake fun _ => bitErrorSeen_keeps s⟩
  | frameSent => exact ⟨_, rfl, .whenAwake fun _ => frameGone_keeps s⟩
  | frameSpoilt _ => exact ⟨_, rfl, receiveBits_keeps ..⟩
  | goodFrame _ _ => exact ⟨_, rfl, receive_keeps ..⟩
  | dry _ => exact ⟨_, rfl, receive_keeps ..⟩
  | take _ => exact ⟨_, rfl, receive_keeps ..⟩
  | takeReply _ => exact ⟨_, rfl, receive_keeps ..⟩
  | commit _ => exact ⟨_, rfl, receive_keeps ..⟩
  | left _ => exact ⟨_, rfl, receive_keeps ..⟩
  | release _ => exact ⟨_, rfl, receive_keeps ..⟩
  | close _ => exact ⟨_, rfl, receive_keeps ..⟩
  | claim _ => exact ⟨_, rfl, receive_keeps ..⟩
  | allot _ => exact ⟨_, rfl, receive_keeps ..⟩
  | deliverOpen _ => exact ⟨_, rfl, receive_keeps ..⟩
  | deliverAck _ => exact ⟨_, rfl, receive_keeps ..⟩
  | docket _ => exact ⟨_, rfl, receive_keeps ..⟩
  | deliverResult _ => exact ⟨_, rfl, receive_keeps ..⟩
  | status _ => exact ⟨_, rfl, receive_keeps ..⟩
  | peerStale _ => exact ⟨_, rfl, ((State.Touches.refl _ s).thenPeerStaleStep _).keeps (by decide)⟩
  | peerLost _ => exact ⟨_, rfl, ((State.Touches.refl _ s).thenPeerLostStep _).keeps (by decide)⟩
  | statusIntervalExpiry => exact ⟨_, rfl, ((State.Touches.refl [] s).thenStatusStep).keeps (by decide)⟩
  | meterReading _ => exact ⟨_, rfl, .ite (fun _ => ((State.Touches.refl _ s).thenReadMeter _).keeps (by decide)) fun _ => .refl s⟩
  | meterReadingTimeout => exact ⟨_, rfl, .ite (fun _ => ((State.Touches.refl _ s).thenEndReading).keeps (by decide)) fun _ => .refl s⟩
  | channelStalled _ => exact ⟨_, rfl, ((State.Touches.refl _ s).thenChannelStalledStep _).keeps (by decide)⟩
  | channelLost _ => exact ⟨_, rfl, ((State.Touches.refl _ s).thenChannelLostStep _).keeps (by decide)⟩
  | engineReadyChange _ => exact ⟨_, rfl, .whenAwake fun ha => pinChange_keeps ha ..⟩
  | breakerFeedbackChange _ => exact ⟨_, rfl, .whenAwake fun ha => pinChange_keeps ha ..⟩
  | engineFaultInputChange _ => exact ⟨_, rfl, .whenAwake fun ha => pinChange_keeps ha ..⟩
  | relayPulseEnd _ => exact ⟨_, rfl, .whenAwake fun _ => pulseEnd_keeps ..⟩
  | startTimeoutExpiry => exact ⟨_, rfl, ((State.Touches.refl _ s).thenStartTimeoutStep).keepsDuty⟩
  | warmupExpiry => exact ⟨_, rfl, ((State.Touches.refl _ s).thenWarmupStep).keepsDuty⟩
  | idleStopExpiry => exact ⟨_, rfl, ((State.Touches.refl _ s).thenIdleStopStep).keepsDuty⟩
  | cooldownExpiry => exact ⟨_, rfl, ((State.Touches.refl _ s).thenCooldownStep).keepsDuty⟩
  | unloadLimitExpiry => exact ⟨_, rfl, ((State.Touches.refl _ s).thenUnloadLimitStep).keepsDuty⟩
  | disagreementCountExpiry => exact ⟨_, rfl, ((State.Touches.refl _ s).thenDisagreementStep).keepsDuty⟩
  | overloadCountExpiry => exact ⟨_, rfl, ((State.Touches.refl _ s).thenOverloadStep).keepsDuty⟩
  | burnSilenceExpiry => exact ⟨_, rfl, ((State.Touches.refl _ s).thenBurnSilenceStep).keepsDuty⟩
  | resHoldExpiry _ => exact ⟨_, rfl, ((State.Touches.refl _ s).thenHoldStep _).keepsDuty⟩
  | closedFeedbackChange _ _ => exact ⟨_, rfl, .whenAwake fun ha => pinChange_keeps ha ..⟩
  | liveStateChange _ _ => exact ⟨_, rfl, .whenAwake fun _ => .ite (fun hp => liveChange_keeps s hp.1 _) fun _ => .refl s⟩
  | switchCommandTimeout => exact ⟨_, rfl, switchTimeoutStep_keeps s⟩
  | takeResend => exact ⟨_, rfl, takeResendStep_keeps s⟩
  | waitingTimeout => exact ⟨_, rfl, waitingTimeoutStep_keeps s⟩
  | deadTimeExpiry => exact ⟨_, rfl, deadTimeStep_keeps s⟩
  | retryTimerExpiry => exact ⟨_, rfl, retryStep_keeps s⟩
  | dwellTimerExpiry => exact ⟨_, rfl, dwellStep_keeps s⟩
  | burnPulse => exact ⟨_, rfl, ((State.Touches.refl _ s).thenBurnPulse).keeps (by decide)⟩
  | inletPulse => exact ⟨_, rfl, ((State.Touches.refl _ s).thenInletPulse).keeps (by decide)⟩
  | dispensePulse => exact ⟨_, rfl, ((State.Touches.refl _ s).thenDispensePulse).keeps (by decide)⟩
  | loopQualified => exact ⟨_, rfl, ((State.Touches.refl _ s).thenLoopQualifiedStep).keeps (by decide)⟩
  | matchingExpiry => exact ⟨_, rfl, ((State.Touches.refl _ s).thenMatchingStep).keeps (by decide)⟩
  | minuteEnd => exact ⟨_, rfl, ((State.Touches.refl _ s).thenMinuteStep).keeps (by decide)⟩
  | inletWatchExpiry => exact ⟨_, rfl, ((State.Touches.refl _ s).thenInletWatchStep).keeps (by decide)⟩
  | quietCountExpiry => exact ⟨_, rfl, ((State.Touches.refl _ s).thenQuietCountStep).keeps (by decide)⟩
  | settleTimerExpiry => exact ⟨_, rfl, ((State.Touches.refl _ s).thenSettleTimerStep).keeps (by decide)⟩
  | openingTimeout => exact ⟨_, rfl, ((State.Touches.refl _ s).thenOpeningStep).keeps (by decide)⟩
  | docketRepeat => exact ⟨_, rfl, ((State.Touches.refl _ s).thenDocketRepeatStep).keeps (by decide)⟩
  | resultMissing => exact ⟨_, rfl, ((State.Touches.refl _ s).thenResultMissingStep).keeps (by decide)⟩
  | unbookedRunEnd => exact ⟨_, rfl, ((State.Touches.refl _ s).thenUnbookedRunStep).keeps (by decide)⟩
  | periodEnd => exact ⟨_, rfl, ((State.Touches.refl _ s).thenPeriodEndStep).keeps (by decide)⟩
  | claimWindowEnd => exact ⟨_, rfl, ((State.Touches.refl _ s).thenWindowEndStep).keeps (by decide)⟩
  | claimWaitExpiry _ => exact ⟨_, rfl, claimWaitStep_keeps ..⟩
  | waitingCloseLapse _ => exact ⟨_, rfl, lapseStep_keeps ..⟩
  | nop _ => exact ⟨_, rfl, frameIn_keeps ..⟩
  | commandFrameDiscarded _ => exact ⟨_, rfl, frameIn_keeps ..⟩
  | unknownCommand _ _ => exact ⟨_, rfl, hostCommand_keeps ..⟩
  | replyReady => exact ⟨_, rfl, .whenAwake fun _ => replyDone_keeps s⟩
  | writeConfig _ => exact ⟨_, rfl, takeCommand_keeps _ s (writeConfigAct_keeps ..)⟩
  | start _ => exact ⟨_, rfl, takeCommand_keeps _ s (startAct_keeps ..)⟩
  | readStatus _ => exact ⟨_, rfl, takeCommand_keeps _ s (ofLength_keeps (.refl s))⟩
  | readPeer _ => exact ⟨_, rfl, takeCommand_keeps _ s (readPeerAct_keeps ..)⟩
  | readTotals _ => exact ⟨_, rfl, takeCommand_keeps _ s (ofLength_keeps (.refl s))⟩
  | readRecord _ => exact ⟨_, rfl, takeCommand_keeps _ s (readRecordAct_keeps ..)⟩
  | removeRecord _ => exact ⟨_, rfl, takeCommand_keeps _ s (removeRecordAct_keeps ..)⟩
  | mode _ => exact ⟨_, rfl, takeCommand_keeps _ s (modeRequest_keeps ..)⟩
  | stopForce _ => exact ⟨_, rfl, takeCommand_keeps _ s (stopForceRequest_keeps ..)⟩
  | changeover _ => exact ⟨_, rfl, takeCommand_keeps _ s (changeoverRequest_keeps ..)⟩
  | abort _ => exact ⟨_, rfl, takeCommand_keeps _ s (abortRequest_keeps ..)⟩
  | deliveryBegin _ => exact ⟨_, rfl, takeCommand_keeps _ s (deliveryBeginRequest_keeps ..)⟩
  | deliveryEnd _ => exact ⟨_, rfl, takeCommand_keeps _ s (deliveryEndRequest_keeps ..)⟩
  | load _ => exact ⟨_, rfl, takeCommand_keeps _ s (loadRequest_keeps ..)⟩
  | ackFault _ => exact ⟨_, rfl, takeCommand_keeps _ s (ackFaultAct_keeps ..)⟩
  | clearFault _ => exact ⟨_, rfl, takeCommand_keeps _ s (clearFaultAct_keeps ..)⟩
  | warmRestart _ => exact ⟨_, rfl, takeCommand_keeps _ s (warmRestartAct_keeps ..)⟩
  | resetHeldLow => exact ⟨_, rfl, holdReset_keeps s⟩
  | requestCodeOutOfRange _ => exact ⟨_, rfl, takeCommand_keeps _ s (requestAct_keeps ..)⟩

/-- A step keeps the invariants, the command that it takes off the queue included. -/
theorem step_keeps {s t : State} (h : step s = .next t) : s.Keeps t := by
  unfold step at h
  split at h
  · cases h; exact .refl s
  · rename_i c rest _
    obtain ⟨u, hu, hk⟩ := exec_keeps c { s with pending := rest }
    rw [hu] at h
    cases h
    have h1 : s.Keeps { s with pending := rest } := by
      refine State.Touches.keeps (ps := [.pending]) ⟨fun p hp => ?_, fun g => g.of_same rfl rfl⟩ (by decide)
      have hr := Part.Same.refl p s
      cases p
      case pending => simp at hp
      case order => exact fun g => g.of_same rfl rfl rfl rfl rfl rfl
      all_goals exact hr
    exact h1.trans hk

/-- Settles O2, by the operations' frames: posting and recording keep the queues, and nothing else adds to them. -/
theorem queuesStayWithinCapacity : Obligations.QueuesStayWithinCapacity := by
  unfold Obligations.QueuesStayWithinCapacity
  exact fun s t h hs => (step_keeps hs).queues h

/-- Settles O3: a command is issued in the two places where the interlock allows it, and released where a state is left. -/
theorem switchInterlockIsKept : Obligations.SwitchInterlockIsKept := by
  unfold Obligations.SwitchInterlockIsKept
  exact fun s t h hs => (step_keeps hs).interlock h

/-- Settles O4: the lists shrink but for a TAKE, a COMMIT, a BOARD's STATUS and a CLAIM, each of which tests for room. -/
theorem promisesStayWithinCapacity : Obligations.PromisesStayWithinCapacity := by
  unfold Obligations.PromisesStayWithinCapacity
  exact fun s t h hs => (step_keeps hs).promises h

/-- Settles O5: an entry becomes CURRENT only where none is, and at the closed position that asks for it. -/
theorem settlementTableFollowsTheSwitch : Obligations.SettlementTableFollowsTheSwitch := by
  unfold Obligations.SettlementTableFollowsTheSwitch
  exact fun s t h hs => (step_keeps hs).table h

/-- Settles O6: every event of the duty controller ends by settling its conditions, whatever it did. -/
theorem conditionsStaySettled : Obligations.ConditionsStaySettled := by
  unfold Obligations.ConditionsStaySettled
  exact fun s t h hs => (step_keeps hs).order h

/-! ### The machine as a whole -/

/-- Settles O1: both clauses are the branches of `step`. -/
theorem stepTakesTheFrontCommand : Obligations.StepTakesTheFrontCommand := by
  unfold Obligations.StepTakesTheFrontCommand
  exact ⟨fun _ _ _ => rfl, fun s h => by simp only [step, h]⟩

/-- Settles O7: the reset state is a cold start, with nothing in its queues and lists. -/
theorem resetMeetsTheInvariants : Obligations.ResetMeetsTheInvariants := by
  unfold Obligations.ResetMeetsTheInvariants
  have hrun (r : Role) : State.reset.runs r = false := not_runs_of_unconfigured rfl r
  refine ⟨⟨by decide, .nil, by decide, by decide⟩, .of_released rfl rfl, .of_empty rfl rfl rfl,
    .of_fits rfl blankTable_fits fun hr => ?_, ⟨rfl, rfl, rfl, fun hr => ?_, fun _ => rfl⟩⟩ <;>
    exact absurd hr (by simp [hrun])

/-- Settles O8: each field is read off the reset state, and ATTN off its one record. -/
theorem resetLeavesAnUnconfiguredStation : Obligations.ResetLeavesAnUnconfiguredStation := by
  unfold Obligations.ResetLeavesAnUnconfiguredStation
  decide

end Sys2Proof.Machine
end

section
/-! The supplies and the site line: what a loss of supply, a held RESET and the line's own events leave. -/

set_option Elab.async false

namespace Sys2Proof.Machine

/-! ### Supplies and RESET -/

/-- Nothing is driven by a station that takes no event. -/
theorem drives_nothing {s : State} (h : s.awake = false) :
    s.lineBits = [] ∧ (∀ n, s.fieldOut n = false) ∧ (∀ n, s.misoByte n = 0#8) ∧ s.attn = false := by
  refine ⟨by simp [State.lineBits, h], fun n => by simp [State.fieldOut, h], fun n => by simp [State.misoByte, h], ?_⟩
  simp [State.attn, h]

/-- Settles O10: a supply lost and a RESET held both let the outputs go and put the station to sleep. -/
theorem supplyLossAndResetReleaseTheOutputs : Obligations.SupplyLossAndResetReleaseTheOutputs := by
  unfold Obligations.SupplyLossAndResetReleaseTheOutputs
  refine ⟨fun s h => ⟨?_, ?_⟩, fun s => ⟨fun h => ⟨?_, ?_, ?_⟩, fun h => ⟨?_, fun kept => ?_⟩⟩⟩
  · have hx : exec .mainSupplyLoss s = .next (supplyLoss s) := rfl
    rw [supplyLoss, if_pos h] at hx
    obtain ⟨hl, hf, -, hat⟩ := drives_nothing (s := { setLink (letGo s) [] false with
      mainOn := false, resetHeld := false, doubt := s.doubt || !s.backupGood }) rfl
    exact ⟨_, hx, rfl, ⟨rfl, rfl, rfl, ⟨rfl, rfl, rfl⟩, ⟨rfl, rfl⟩, ⟨rfl, rfl⟩, rfl, rfl, ⟨rfl, rfl, rfl⟩⟩, rfl, rfl, hat,
      hl, hf, rfl, by simp, rfl⟩
  · have hx : exec .resetHeldLow s = .next (holdReset s) := rfl
    rw [holdReset, if_pos h] at hx
    obtain ⟨hl, hf, hm, hat⟩ := drives_nothing (s := { letGo s with resetHeld := true }) (by simp [State.awake])
    exact ⟨_, hx, rfl, ⟨rfl, rfl, rfl, ⟨rfl, rfl, rfl⟩, ⟨rfl, rfl⟩, ⟨rfl, rfl⟩, rfl, rfl, ⟨rfl, rfl, rfl⟩⟩, rfl, rfl, hat,
      hl, hf, hm, rfl, rfl, rfl⟩
  · change Host.Outcome.next (backupFalls s) = _
    simp [backupFalls, h]
  · have hx : exec (.powerUp false) s = .next (powerUp false s) := rfl
    simp only [powerUp, h, Bool.false_eq_true, if_false, judgeRetention, loseLatch] at hx
    exact ⟨_, hx, rfl, rfl, rfl, rfl, rfl, rfl⟩
  · have hx : exec (.powerUp true) s = .next (powerUp true s) := rfl
    simp only [powerUp, h, Bool.false_eq_true, if_false] at hx
    exact ⟨_, hx, rfl⟩
  · change Host.Outcome.next (backupFalls s) = _
    simp [backupFalls, h]
  · change Host.Outcome.next (powerUp kept s) = _
    simp [powerUp, h]

/-! ### The own frames -/

/-- A station that sends drives the bits of the frame at the head of its queue. -/
theorem lineBits_of_sending {s : State} (h : s.awake = true) (hp : s.line.phase = .sending) (ho : s.line.older = none)
    {f : TxFrame} {rest : List TxFrame} (hq : s.line.queue = f :: rest) (hf : f.onLine = true) :
    s.lineBits = TxFrame.bits (s.image.station.getD 0) f := by
  simp [State.lineBits, h, hp, LineCtl.current, ho, onLineFrame, hq, hf]

/-- Settles O12, by the branches of `busFree`. -/
theorem busFreeBeginsTheHeadFrame : Obligations.BusFreeBeginsTheHeadFrame := by
  unfold Obligations.BusFreeBeginsTheHeadFrame
  intro s ha hp
  have hx : exec .busFree s = .next (busFree s) := by
    change Host.Outcome.next (whenAwake s busFree) = _
    rw [whenAwake_of_awake ha]
  refine ⟨fun f rest hposts hq => ?_, fun hn => ?_⟩
  · rw [busFree, if_neg hp, if_pos ⟨hposts, by simp [hq]⟩, hq] at hx
    refine ⟨_, hx, rfl, ?_⟩
    exact lineBits_of_sending (f := { f with onLine := true }) (rest := rest) (by exact ha) rfl rfl rfl rfl
  · have hc : ¬ (s.posts = true ∧ s.line.queue ≠ []) := by
      rintro ⟨h1, h2⟩
      rcases hn with hn | hn
      · simp [hn] at h1
      · exact h2 hn
    rw [busFree, if_neg hp, if_neg hc] at hx
    exact hx

/-- The one frame of the queue that is on the line. -/
theorem onLineFrame_of_split {a b : List TxFrame} {f : TxFrame} (hf : f.onLine = true) (hn : ∀ g ∈ a ++ b, g.onLine = false) :
    onLineFrame (a ++ f :: b) = some f := by
  have ha : a.find? TxFrame.onLine = none := List.find?_eq_none.mpr fun g hg => by simp [hn g (by simp [hg])]
  simp [onLineFrame, List.find?_append, ha, hf]

/-- Counting an attempt changes that one frame, or takes it out (R7). -/
theorem countAttempt_of_split {a b : List TxFrame} {f : TxFrame} (hf : f.onLine = true) (hn : ∀ g ∈ a ++ b, g.onLine = false) :
    countAttempt (a ++ f :: b) =
      if 2 ≤ f.attempts then a ++ b else a ++ { f with attempts := f.attempts + 1, onLine := false } :: b := by
  have hsame (l : List TxFrame) (hl : ∀ g ∈ l, g.onLine = false) : countAttempt l = l := by
    unfold countAttempt
    rw [List.filter_eq_self.mpr fun g hg => by simp [hl g hg]]
    conv => rhs; rw [← List.map_id l]
    exact List.map_congr_left fun g hg => by simp [hl g hg]
  have happ (l m : List TxFrame) : countAttempt (l ++ m) = countAttempt l ++ countAttempt m := by simp [countAttempt]
  have hcons : countAttempt (f :: b) = countAttempt [f] ++ countAttempt b := happ [f] b
  rw [happ, hcons, hsame a fun g hg => hn g (by simp [hg]), hsame b fun g hg => hn g (by simp [hg])]
  split
  · simp [countAttempt, *]
  · simp [countAttempt, *]

/-- Settles O13, by the branches of the line's own events. -/
theorem ownFrameIsLostSentOrCounted : Obligations.OwnFrameIsLostSentOrCounted := by
  unfold Obligations.OwnFrameIsLostSentOrCounted
  intro s ha hp
  have hx : exec .arbitrationLoss s = .next (arbitrationLost s) ∧ exec .frameSent s = .next (frameGone s) ∧
      exec .bitError s = .next (bitErrorSeen s) := by
    refine ⟨?_, ?_, ?_⟩
    · change Host.Outcome.next (whenAwake s arbitrationLost) = _
      rw [whenAwake_of_awake ha]
    · change Host.Outcome.next (whenAwake s frameGone) = _
      rw [whenAwake_of_awake ha]
    · change Host.Outcome.next (whenAwake s bitErrorSeen) = _
      rw [whenAwake_of_awake ha]
  obtain ⟨h1, h2, h3⟩ := hx
  have hburst (l : LineCtl) (r : RecordStore) (hl : l.phase = .burst) :
      ({ s with line := l, records := r } : State).lineBits = List.replicate 10 false := by
    have haw : ({ s with line := l, records := r } : State).awake = true := ha
    simp [State.lineBits, haw, hl, burstBits]
  refine ⟨?_, fun ho => ?_, fun f ho => ⟨?_, ?_⟩, fun a b f ho hq hf hn => ⟨fun hlt => ?_, fun hge => ?_⟩⟩
  · rw [h1, arbitrationLost, if_pos hp]; rfl
  · rw [h2, frameGone, if_pos hp, ho]
  · rw [h2, frameGone, if_pos hp, ho]
  · rw [h3, bitErrorSeen, if_pos hp, ho]
  · have hlt' : ¬ 2 ≤ f.attempts := by omega
    rw [bitErrorSeen, if_pos hp, ho, hq] at h3
    simp only [onLineFrame_of_split hf hn, countAttempt_of_split hf hn, hlt', if_false] at h3
    exact ⟨_, h3, hburst _ _ rfl, rfl⟩
  · rw [bitErrorSeen, if_pos hp, ho, hq] at h3
    simp only [onLineFrame_of_split hf hn, countAttempt_of_split hf hn, hge, if_true] at h3
    exact ⟨_, h3, hburst _ _ rfl, rfl⟩

end Sys2Proof.Machine
end

section
/-! PROOFS. The line code and the frame bodies: bits and bytes are read back as they were driven (O17, O18). -/
set_option Elab.async false

namespace Sys2Proof.Machine

/-! ## Bits of a number -/

@[simp] theorem bitsOf_length (w n : Nat) : (bitsOf w n).length = w := by
  induction w with
  | zero => rfl
  | succ w ih => simp [bitsOf, ih]

theorem ofBits_acc (acc : Nat) (l : List Bool) : ofBits acc l = acc * 2 ^ l.length + ofBits 0 l := by
  induction l generalizing acc with
  | nil => simp [ofBits]
  | cons b l ih =>
    have hcons : ∀ a, ofBits a (b :: l) = ofBits (a * 2 + b.toNat) l := fun _ => rfl
    rw [hcons, hcons, ih, ih (0 * 2 + b.toNat), List.length_cons, Nat.pow_succ, Nat.zero_mul, Nat.zero_add,
      Nat.add_mul, Nat.mul_assoc, Nat.mul_comm 2, Nat.add_assoc]

/-- The bits of a number are read back, modulo their count. -/
theorem ofBits_bitsOf (w n : Nat) : ofBits 0 (bitsOf w n) = n % 2 ^ w := by
  induction w with
  | zero => simp [bitsOf, ofBits, Nat.mod_one]
  | succ w ih =>
    have hcons : ofBits 0 (bitsOf (w + 1) n) = ofBits (0 * 2 + (n.testBit w).toNat) (bitsOf w n) := rfl
    rw [hcons, ofBits_acc, bitsOf_length, ih, Nat.mod_pow_succ]
    rw [Nat.testBit_eq_decide_div_mod_eq]
    rcases Nat.mod_two_eq_zero_or_one (n / 2 ^ w) with h | h
    · simp [h]
    · simp only [h, decide_true, Nat.zero_mul, Nat.zero_add, Bool.toNat_true, Nat.one_mul, Nat.mul_one]
      exact Nat.add_comm ..

theorem ofBits_bitsOf_of_lt {w n : Nat} (h : n < 2 ^ w) : ofBits 0 (bitsOf w n) = n := by
  rw [ofBits_bitsOf, Nat.mod_eq_of_lt h]

@[simp] theorem byteBits_length (l : List Byte) : (byteBits l).length = 8 * l.length := by
  induction l with
  | nil => rfl
  | cons b l ih =>
    have hcons : byteBits (b :: l) = bitsOf 8 b.toNat ++ byteBits l := rfl
    rw [hcons, List.length_append, ih, bitsOf_length, List.length_cons]
    omega

/-- The bytes of a run of bits are read back, whatever bits follow. -/
theorem bytesOf_byteBits (l : List Byte) (rest : List Bool) : bytesOf l.length (byteBits l ++ rest) = l := by
  induction l with
  | nil => rfl
  | cons b l ih =>
    have hcons : byteBits (b :: l) ++ rest = bitsOf 8 b.toNat ++ (byteBits l ++ rest) := by
      simp [byteBits]
    rw [hcons, List.length_cons, bytesOf, List.take_left' (bitsOf_length ..), List.drop_left' (bitsOf_length ..), ih,
      ofBits_bitsOf_of_lt (by simpa using b.isLt)]
    simp

/-! ## Bit stuffing -/

/-- The stuff bits that a sender inserts are the ones a receiver removes (R2). -/
theorem unstuffFrom_stuffFrom (l : List Bool) (last : Bool) (run : Nat) :
    unstuffFrom last run false (stuffFrom last run l) = some l := by
  induction l generalizing last run with
  | nil => rfl
  | cons b l ih =>
    by_cases hfive : (if b = last then run + 1 else 1) = 5
    · rw [stuffFrom, if_pos hfive, unstuffFrom, decide_eq_true hfive, unstuffFrom, if_neg (by simp), ih]
      rfl
    · rw [stuffFrom, if_neg hfive, unstuffFrom, decide_eq_false hfive, ih]
      rfl

theorem unstuff_stuff (l : List Bool) : unstuff (stuff l) = some l := unstuffFrom_stuffFrom l true 0

/-! ## The frame's fields on the line -/

theorem kindCode_lt (k : Kind) : kindCode k < 256 := by cases k <;> decide

theorem kindClass_lt (k : Kind) : kindClass k < 4 := by cases k <;> decide

@[simp] theorem be1_length (n : Nat) : (be1 n).length = 1 := rfl
@[simp] theorem be2_length (n : Nat) : (be2 n).length = 2 := rfl
@[simp] theorem be4_length (n : Nat) : (be4 n).length = 4 := rfl
@[simp] theorem be4Fit_length (n : Nat) : (be4Fit n).length = 4 := rfl
@[simp] theorem beInt_length (x : Int) : (beInt x).length = 4 := rfl

/-- No body is longer than a STATUS of a SET: 16 bytes, the limit of R3. -/
theorem bytes_length_le (b : Body) : b.bytes.length ≤ 16 := by
  cases b with
  | status b => cases b <;> simp [Body.bytes, statusFields]
  | _ => simp [Body.bytes]

@[simp] theorem checkedBits_length (dest kind : Nat) (body : List Byte) :
    (checkedBits dest kind body).length = 24 + 8 * body.length := by
  simp [checkedBits]; omega

/-- The pieces of a frame's bits, in the order in which R3 has them. -/
theorem plainBits_pieces (cls sender dest kind : Nat) (body : List Byte) :
    plainBits cls sender dest kind body = false :: (bitsOf 2 cls ++ (bitsOf 5 sender ++ (bitsOf 8 dest ++
      (bitsOf 8 kind ++ (bitsOf 8 body.length ++ (byteBits body ++
        bitsOf 16 (crc16 (checkedBits dest kind body)).toNat)))))) := by
  simp [plainBits, checkedBits]

/-- The bits that follow a beginning of known length. -/
theorem drop_past {α : Type} {n m k : Nat} {l₁ l₂ : List α} (hlen : l₁.length = n) (hk : k = n + m) :
    (l₁ ++ l₂).drop k = l₂.drop m := by
  subst hk hlen; simp [List.drop_append]

/-- A frame's bits, its fields within their widths, are judged good with the fields that they carry (R9). -/
theorem judgePlain_plainBits {cls sender dest kind : Nat} {body : List Byte} (hcls : cls < 4) (hlow : 1 ≤ sender)
    (hhigh : sender ≤ 30) (hdest : dest < 256) (hkind : kind < 256) (hbody : body.length ≤ 16) :
    judgePlain (plainBits cls sender dest kind body) =
      .good (BitVec.ofNat 8 kind) { cls := cls, sender := sender, dest := dest, body := body } := by
  have htotal : (plainBits cls sender dest kind body).length = 48 + 8 * body.length := by
    simp [plainBits_pieces]; omega
  have hclsBits : ((plainBits cls sender dest kind body).drop 1).take 2 = bitsOf 2 cls := by
    rw [plainBits_pieces, List.drop_succ_cons, List.drop_zero, List.take_left' (bitsOf_length ..)]
  have hsenderBits : ((plainBits cls sender dest kind body).drop 3).take 5 = bitsOf 5 sender := by
    rw [plainBits_pieces, List.drop_succ_cons, drop_past (m := 0) (bitsOf_length ..) rfl, List.drop_zero,
      List.take_left' (bitsOf_length ..)]
  have hfrom8 : (plainBits cls sender dest kind body).drop 8 = checkedBits dest kind body ++
      bitsOf 16 (crc16 (checkedBits dest kind body)).toNat := by
    rw [plainBits_pieces, List.drop_succ_cons, drop_past (m := 5) (bitsOf_length ..) rfl,
      drop_past (m := 0) (bitsOf_length ..) rfl]
    simp [checkedBits]
  have hfrom16 : (plainBits cls sender dest kind body).drop 16 = bitsOf 8 kind ++ (bitsOf 8 body.length ++
      (byteBits body ++ bitsOf 16 (crc16 (checkedBits dest kind body)).toNat)) := by
    rw [plainBits_pieces, List.drop_succ_cons, drop_past (m := 13) (bitsOf_length ..) rfl,
      drop_past (m := 8) (bitsOf_length ..) rfl, drop_past (m := 0) (bitsOf_length ..) rfl, List.drop_zero]
  have hfrom : ∀ m, (plainBits cls sender dest kind body).drop (16 + m) = (bitsOf 8 kind ++ (bitsOf 8 body.length ++
      (byteBits body ++ bitsOf 16 (crc16 (checkedBits dest kind body)).toNat))).drop m := fun m => by
    rw [← List.drop_drop, hfrom16]
  have hfrom24 : (plainBits cls sender dest kind body).drop 24 = bitsOf 8 body.length ++
      (byteBits body ++ bitsOf 16 (crc16 (checkedBits dest kind body)).toNat) := by
    rw [hfrom 8, drop_past (m := 0) (bitsOf_length ..) rfl, List.drop_zero]
  have hfrom32 : (plainBits cls sender dest kind body).drop 32 =
      byteBits body ++ bitsOf 16 (crc16 (checkedBits dest kind body)).toNat := by
    rw [hfrom 16, drop_past (m := 8) (bitsOf_length ..) rfl, drop_past (m := 0) (bitsOf_length ..) rfl, List.drop_zero]
  have hcheck : (plainBits cls sender dest kind body).drop (32 + 8 * body.length) =
      bitsOf 16 (crc16 (checkedBits dest kind body)).toNat := by
    rw [← List.drop_drop, hfrom32, List.drop_left' (byteBits_length ..)]
  have hlengthRead : ofBits 0 (((plainBits cls sender dest kind body).drop 24).take 8) = body.length := by
    rw [hfrom24, List.take_left' (bitsOf_length ..), ofBits_bitsOf_of_lt (by omega)]
  have hcovered : ((plainBits cls sender dest kind body).drop 8).take (24 + 8 * body.length) =
      checkedBits dest kind body := by
    rw [hfrom8, List.take_left' (checkedBits_length ..)]
  have hdestBits : ((plainBits cls sender dest kind body).drop 8).take 8 = bitsOf 8 dest := by
    rw [hfrom8, checkedBits, List.append_assoc, List.append_assoc, List.append_assoc, List.take_left' (bitsOf_length ..)]
  have hhead : (plainBits cls sender dest kind body).head? = some false := rfl
  have hcrc : ofBits 0 (bitsOf 16 (crc16 (checkedBits dest kind body)).toNat) =
      (crc16 (checkedBits dest kind body)).toNat := ofBits_bitsOf_of_lt (BitVec.isLt _)
  have hsender : ofBits 0 (bitsOf 5 sender) = sender := ofBits_bitsOf_of_lt (by omega)
  have hdestRead : ofBits 0 (bitsOf 8 dest) = dest := ofBits_bitsOf_of_lt (by omega)
  have hkindRead : ofBits 0 (bitsOf 8 kind) = kind := ofBits_bitsOf_of_lt (by omega)
  have hclsRead : ofBits 0 (bitsOf 2 cls) = cls := ofBits_bitsOf_of_lt (by omega)
  simp only [judgePlain, hlengthRead, hfrom32, bytesOf_byteBits, hcheck, hcovered, hhead, htotal, hclsBits, hsenderBits,
    hdestBits, hsender, hfrom16, List.take_left' (bitsOf_length 8 kind), hcrc, hdestRead, hkindRead, hclsRead]
  rw [if_neg (by simp), if_neg (by omega), if_neg (by omega), if_neg (by simp), if_neg (by simp)]

/-- Settles O17: unstuffing undoes stuffing, and the fields stand at their places in the frame. -/
theorem lineCodeIsReadBack : Obligations.LineCodeIsReadBack := by
  intro station f hlow hhigh hdest
  rw [TxFrame.bits, judge, unstuff_stuff]
  exact judgePlain_plainBits (kindClass_lt _) hlow hhigh hdest (kindCode_lt _) (bytes_length_le _)

/-! ## The fields of a body -/

theorem be1_read {n : Nat} (h : n < 256) : (BitVec.ofNat 8 n : Byte).toNat = n := by
  simp only [BitVec.toNat_ofNat]; omega

theorem rd2_be2 {n : Nat} (h : n < 65536) : rd2 (BitVec.ofNat 8 (n / 256)) (BitVec.ofNat 8 n) = n := by
  simp only [rd2, BitVec.toNat_ofNat]; omega

theorem rd4_be4 {n : Nat} (h : n < two32) :
    rd4 (BitVec.ofNat 8 (n / 65536 / 256)) (BitVec.ofNat 8 (n / 65536)) (BitVec.ofNat 8 (n / 256))
      (BitVec.ofNat 8 n) = n := by
  simp only [two32] at h
  simp only [rd4, rd2, BitVec.toNat_ofNat]; omega

/-- The word in which a signed figure is sent is read back as the figure (R195). -/
theorem signed32_word {x : Int} (hlow : -2147483648 ≤ x) (hhigh : x < 2147483648) :
    signed32 (x % (two32 : Int)).toNat = x := by
  simp only [signed32, two32]; split <;> omega

theorem signedWord_lt (x : Int) : (x % (two32 : Int)).toNat < two32 := by
  simp only [two32]; omega

theorem beInt_of_fits {x : Int} (hlow : -2147483648 ≤ x) (hhigh : x < 2147483648) :
    beInt x = be4 (x % (two32 : Int)).toNat := by
  rw [beInt, if_pos ⟨hlow, hhigh⟩]

theorem be4Fit_of_fits {n : Nat} (h : n < two32) : be4Fit n = be4 n := by rw [be4Fit, if_pos h]

/-- Bytes beyond those that a kind has are ignored (R10, R22). -/
theorem parseStatus_append {l : List Byte} {b : StatusBody} (extra : List Byte) (h : parseStatus l = some b) :
    parseStatus (l ++ extra) = some b := by
  unfold parseStatus at h
  split at h
  · cases h
  · split at h
    · next hrole => cases h; simp [parseStatus, hrole]
    · next hrole => cases h; simp [parseStatus, hrole]
    · next hrole => cases h; simp [parseStatus, hrole]
    · cases h

theorem parseBody_append {k : Kind} {l : List Byte} {b : Body} (extra : List Byte) (h : parseBody k l = some b) :
    parseBody k (l ++ extra) = some b := by
  by_cases hstatus : k = .status
  · subst hstatus
    obtain ⟨fields, hfields, rfl⟩ := Option.map_eq_some_iff.mp h
    exact Option.map_eq_some_iff.mpr ⟨fields, parseStatus_append extra hfields, rfl⟩
  · unfold parseBody at h
    split at h
    any_goals exact absurd rfl hstatus
    all_goals cases h <;> rfl

/-- A body that is read had at least the bytes that its fields take. -/
theorem parseStatus_length {l : List Byte} {b : StatusBody} (h : parseStatus l = some b) :
    (Body.status b).bytes.length ≤ l.length := by
  unfold parseStatus at h
  split at h
  · cases h
  · split at h <;> cases h <;> simp [Body.bytes, statusFields]

theorem parseBody_length {k : Kind} {l : List Byte} {b : Body} (h : parseBody k l = some b) :
    b.bytes.length ≤ l.length := by
  by_cases hstatus : k = .status
  · subst hstatus
    obtain ⟨fields, hfields, rfl⟩ := Option.map_eq_some_iff.mp h
    exact parseStatus_length hfields
  · unfold parseBody at h
    split at h
    any_goals exact absurd rfl hstatus
    all_goals cases h <;> simp [Body.bytes]

/-- The fields of a STATUS are read back as they were written (R22). -/
theorem parseStatus_bytes {b : StatusBody} (h : b.inRange) : parseStatus (Body.status b).bytes = some b := by
  cases b with
  | set b =>
    obtain ⟨hduty, hmode, hrated, houtput, hheadroom, hperiod, hcontent, htte, hflags⟩ := h
    simp [Body.bytes, statusFields, be1, be2, parseStatus, StatusBody.role, roleCode, roleOf, rd2_be2, Nat.mod_eq_of_lt, *]
  | board b =>
    obtain ⟨hstate, hclosed, hfeeding, hload, hflags⟩ := h
    simp [Body.bytes, statusFields, be1, be2, parseStatus, StatusBody.role, roleCode, roleOf, rd2_be2, Nat.mod_eq_of_lt, *]
  | tanker b =>
    obtain ⟨hstate, htarget, hcontent⟩ := h
    simp [Body.bytes, statusFields, be1, be2, parseStatus, StatusBody.role, roleCode, roleOf, rd2_be2, Nat.mod_eq_of_lt, *]

/-- The fields of every kind's body are read back as they were written (R19, R195). -/
theorem parseBody_bytes {b : Body} (h : b.inRange) : parseBody b.kind b.bytes = some b := by
  cases b with
  | status b => exact Option.map_eq_some_iff.mpr ⟨b, parseStatus_bytes h, rfl⟩
  | deliverResult number meter level inlet rise =>
    obtain ⟨hnumber, hmeter, hlevel, hinlet, hlow, hhigh⟩ := h
    simp only [Body.bytes, beInt_of_fits hlow hhigh, be4, be2, be1, List.cons_append, List.nil_append, parseBody,
      Body.kind, rd2_be2 hnumber, be1_read hmeter, be1_read hlevel, rd4_be4 hinlet, rd4_be4 (signedWord_lt rise),
      signed32_word hlow hhigh]
  | claim period energy attempt =>
    obtain ⟨hperiod, henergy, hattempt⟩ := h
    simp only [Body.bytes, be4Fit_of_fits henergy, be4, be2, be1, List.cons_append, List.nil_append, parseBody,
      Body.kind, rd2_be2 hperiod, be1_read hattempt, rd4_be4 henergy]
  | _ =>
    simp only [Body.inRange] at h
    simp only [Body.bytes, be4, be2, be1, List.cons_append, List.nil_append, parseBody, Body.kind, rd2_be2, rd4_be4,
      be1_read, h]

/-- Settles O18: the fields are read back, what follows is ignored, and a body cut short is not read, as its fields
would have to fit the bytes that are left. -/
theorem frameBodiesAreReadBack : Obligations.FrameBodiesAreReadBack := by
  intro b hb
  refine ⟨fun extra => parseBody_append extra (parseBody_bytes hb), fun n hn => ?_⟩
  cases hread : parseBody b.kind (b.bytes.take n) with
  | none => rfl
  | some b' =>
    have hwhole := parseBody_append (b.bytes.drop n) hread
    rw [List.take_append_drop, parseBody_bytes hb] at hwhole
    cases hwhole
    have hlen := parseBody_length hread
    rw [List.length_take] at hlen
    omega

end Sys2Proof.Machine
end

section
/-! PROOFS. What a frame on the line does where no block takes it (O15), and where it bears the station's own number
(O16). -/
set_option Elab.async false

namespace Sys2Proof.Machine

/-! ## The commands that bring a frame -/

/-- The commands that bring a frame of the kind they are named after. -/
def frameCommands (f : RxFrame) : List Instr :=
  [.dry f, .take f, .takeReply f, .commit f, .left f, .release f, .close f, .claim f, .allot f, .deliverOpen f,
    .deliverAck f, .docket f, .deliverResult f, .status f]

/-- A frame's command receives it with the kind byte of its kind. -/
theorem exec_frameCommand {f : RxFrame} {i : Instr} (h : i ∈ frameCommands f ∨ ∃ kind, i = .goodFrame kind f) :
    ∃ kind, ∀ s, exec i s = .next (receive kind f s) := by
  rcases h with h | ⟨kind, rfl⟩
  · simp only [frameCommands, List.mem_cons, List.not_mem_nil, or_false] at h
    rcases h with rfl | rfl | rfl | rfl | rfl | rfl | rfl | rfl | rfl | rfl | rfl | rfl | rfl | rfl <;>
      exact ⟨_, fun _ => rfl⟩
  · exact ⟨kind, fun _ => rfl⟩

theorem not_follows {s : State} (hfree : s.line.phase ≠ .free) (hreceiving : s.line.phase ≠ .receiving) :
    s.follows = false := by
  simp [State.follows, hfree, hreceiving]

theorem follows_of_phase {s : State} (h : s.line.phase = .free ∨ s.line.phase = .receiving) : s.follows = true := by
  simpa [State.follows] using h

theorem whenFollowed_of_not_follows {s : State} (h : s.follows = false) (act : State → State) :
    whenFollowed s act = s := by
  simp [whenFollowed, whenAwake, h]

/-! ## The table after a good frame without a STATUS -/

/-- A station that has a number hears every other. -/
theorem hears_of_other {s : State} {own sender : Nat} (hown : s.image.station = some own) (hne : own ≠ sender) :
    s.hears sender = true := by
  simp [State.hears, hown, hne]

/-- A known sender's entry, or a new one, stands at its place (R20, R21). -/
theorem peer_heard_self {s : State} {f : RxFrame} (h : s.hears f.sender = true) :
    (s.heard f).peer f.sender = some ((s.peer f.sender).getD (newPeer f.sender)) := by
  have hnamed : ((s.peer f.sender).getD (newPeer f.sender)).station = f.sender := by
    cases hp : s.peer f.sender with
    | none => rfl
    | some p => simpa using List.find?_some hp
  have hheard : (s.heard f).peers = filePeer ((s.peer f.sender).getD (newPeer f.sender)) s.peers := by
    change (if s.hears f.sender then _ else _ : State).peers = _
    rw [if_pos h]; rfl
  have := find_filePeer_self ((s.peer f.sender).getD (newPeer f.sender)) s.peers
  rw [hnamed] at this
  rwa [State.peer, hheard]

/-- The entries of the other stations stand (R20). -/
theorem peer_heard_other {s : State} {f : RxFrame} {n : Nat} (hne : n ≠ f.sender) : (s.heard f).peer n = s.peer n := by
  by_cases h : s.hears f.sender = true
  · have hnamed : ((s.peer f.sender).getD (newPeer f.sender)).station = f.sender := by
      cases hp : s.peer f.sender with
      | none => rfl
      | some p => simpa using List.find?_some hp
    have hheard : (s.heard f).peers = filePeer ((s.peer f.sender).getD (newPeer f.sender)) s.peers := by
      change (if s.hears f.sender then _ else _ : State).peers = _
      rw [if_pos h]; rfl
    rw [State.peer, hheard, find_filePeer_other (by rwa [hnamed])]
    rfl
  · change State.peer (if s.hears f.sender then _ else _ : State) n = _
    rw [if_neg h]; rfl

/-- A good frame of another station, no STATUS, that no block takes is heard, and no more. -/
theorem receive_of_heard_only {s : State} {kind : Byte} {f : RxFrame} {own : Nat} (hawake : s.awake = true)
    (hfollows : s.follows = true) (hsound : frameSound f = true) (hown : s.image.station = some own)
    (hne : own ≠ f.sender) (hstatus : statusIn kind f.body = none)
    (hleft : s.station = .unconfigured ∨ s.addressed f.dest = false ∨ takenBody kind f.body = none) :
    receive kind f s = s.heard f := by
  have hduplicate : (endReception s).duplicate f = false := by
    have : (s.image.station == some f.sender) = false := by simp [hown, hne]
    simp [State.duplicate, endReception, setPhase, this]
  have hpeer : peerFrame (endReception s) kind f = s.heard f := by
    simp only [peerFrame, hstatus]; rfl
  simp only [receive, whenFollowed_of_follows hawake hfollows, hsound, goodFrameSeen, hduplicate, hpeer,
    if_true, heard_station, heard_addressed, Bool.false_eq_true, if_false]
  rcases hleft with h | h | h <;> simp [h]

/-- Settles O15: what is not followed is not received, and a frame received without a block to take it is heard only. -/
theorem frameNotTakenReachesThePeerTableAlone : Obligations.FrameNotTakenReachesThePeerTableAlone := by
  refine ⟨fun s bits hawake hphase hjudge => ?_, fun s bits kind f hfree hreceiving i hi => ?_,
    fun s kind f own hawake hphase hsound hown hne hstatus hleft => ⟨s.heard f, ?_, heard_eq s f,
      fun n hn => peer_heard_other hn, fun p hp => ?_, fun hp => ?_⟩⟩
  · change Host.Outcome.next (receiveBits bits s) = _
    rw [receiveBits, hjudge]
    exact congrArg _ (whenFollowed_of_follows hawake (follows_of_phase hphase) _)
  · have hnot := not_follows hfree hreceiving
    rcases List.mem_cons.mp hi with rfl | hi
    · change Host.Outcome.next (receiveBits bits s) = _
      rw [receiveBits]
      split
      · rw [receive_of_not_follows hnot]
      · rw [whenFollowed_of_not_follows hnot]
    · obtain ⟨k, hk⟩ := exec_frameCommand (f := f) (i := i) (by
        rcases List.mem_cons.mp hi with rfl | hi
        · exact .inr ⟨kind, rfl⟩
        · exact .inl hi)
      rw [hk, receive_of_not_follows hnot]
  · exact congrArg Host.Outcome.next
      (receive_of_heard_only hawake (follows_of_phase hphase) hsound hown hne hstatus hleft)
  · rw [peer_heard_self (hears_of_other hown hne), hp]; rfl
  · rw [peer_heard_self (hears_of_other hown hne), hp]; rfl

/-! ## A listen-only station posts nothing -/

/-- What the blocks that take frames touch. -/
abbrev takerParts : List Part := joinParts ++ switchParts ++ claimParts ++ tableParts ++ [.delivery, .tanker]

/-- The same with the peer table. -/
abbrev frameParts : List Part := .peers :: takerParts

section
variable {s t : State}

theorem State.Touches.thenJoinEvent (h : s.Touches takerParts t) {g : State → State}
    (hg : ∀ v : State, v.Touches joinParts (g v)) : s.Touches takerParts (dutyEvent t g) :=
  h.thenWhenRuns _ fun v => ((hg v).mono (by decide)).trans (((State.Touches.refl _ (g v)).thenSettle).mono (by decide))

/-- A frame delivered to its block. -/
theorem State.Touches.thenDeliver (h : s.Touches takerParts t) (sender : Nat) (b : Body) :
    s.Touches takerParts (deliver t sender b) := by
  have duty {g : State → State} (hg : ∀ v : State, v.Touches actParts (g v)) : s.Touches takerParts (dutyEvent t g) :=
    h.thenJoinEvent fun v => (hg v).mono (by decide)
  have runs {ps : List Part} (r : Role) {g : State → State} (hps : ps ⊆ takerParts)
      (hg : ∀ v : State, v.Touches ps (g v)) : s.Touches takerParts (whenRuns r t g) :=
    h.thenWhenRuns r fun v => (hg v).mono hps
  unfold deliver
  split
  · exact runs _ (by decide) fun v => (State.Touches.refl _ v).thenDryFrame ..
  · exact h.thenJoinEvent fun v => (State.Touches.refl _ v).thenTakeFrame ..
  · exact runs _ (by decide) fun v => (State.Touches.refl _ v).thenTakeReplyFrame ..
  · exact h.thenJoinEvent fun v => (State.Touches.refl _ v).thenCommitFrame ..
  · exact duty fun v => (State.Touches.refl _ v).thenFeedRemove _
  · exact duty fun v => (State.Touches.refl _ v).thenReleaseFrame ..
  · exact runs _ (by decide) fun v => (State.Touches.refl _ v).thenCloseFrame ..
  · exact runs _ (by decide) fun v => (State.Touches.refl _ v).thenClaimFrame ..
  · exact runs _ (by decide) fun v => (State.Touches.refl _ v).thenAllotFrame ..
  · exact runs _ (by decide) fun v => (State.Touches.refl _ v).thenDeliverOpenFrame ..
  · exact runs _ (by decide) fun v => (State.Touches.refl _ v).thenDeliverAckFrame ..
  · exact runs _ (by decide) fun v => (State.Touches.refl _ v).thenDocketFrame ..
  · exact runs _ (by decide) fun v => (State.Touches.refl _ v).thenDeliverResultFrame ..
  · exact h

/-- A STATUS handed on to its block. -/
theorem State.Touches.thenNoticeStatus (h : s.Touches takerParts t) (sender : Nat) (b : StatusBody) :
    s.Touches takerParts (noticeStatus t sender b) := by
  unfold noticeStatus
  split
  · exact h.thenJoinEvent fun v => (State.Touches.refl _ v).thenFeedStatus ..
  · exact h.thenWhenRuns _ fun v => (((State.Touches.refl [.chg] v).thenChgStatus ..).mono (by decide)).trans
      (((State.Touches.refl tableParts _).thenBillStatus ..).mono (by decide))
  · exact h

theorem State.Touches.thenPeerFrame (h : s.Touches frameParts t) (kind : Byte) (f : RxFrame) :
    s.Touches frameParts (peerFrame t kind f) := by
  have hshown (b : Option StatusBody) : s.Touches frameParts (showPeer t f.sender b) :=
    h.trans (((State.Touches.refl [.peers] t).thenShowPeer ..).mono (by decide))
  unfold peerFrame
  dsimp only
  split
  · exact .ite ((hshown _).trans (((State.Touches.refl takerParts _).thenNoticeStatus ..).mono (by decide))) (hshown _)
  · exact hshown _

end

/-- A good frame that shows no duplicate number: what it touches. -/
theorem goodFrameSeen_touches {s : State} {kind : Byte} {f : RxFrame} (h : s.duplicate f = false) :
    s.Touches frameParts (goodFrameSeen s kind f) := by
  have hp := (State.Touches.refl frameParts s).thenPeerFrame kind f
  unfold goodFrameSeen
  simp only [h, Bool.false_eq_true, if_false]
  refine .ite ?_ hp
  split
  · exact hp.trans (((State.Touches.refl takerParts _).thenDeliver ..).mono (by decide))
  · exact hp

/-! ## The own number on the line -/

/-- The station made listen-only by a frame under its own number (R14, R15). -/
def State.silenced (s : State) (own : Nat) : State :=
  { s with
    line := { s.line with queue := [], older := none, listenOnly := true }
    records := appendTo s.records s.stationSeconds s.powerUps (.event (.duplicateStation own)) }

theorem duplicate_of_own {s : State} {f : RxFrame} (hrun : s.station = .run) (hlistens : s.line.listenOnly = false)
    (hown : s.image.station = some f.sender) : s.duplicate f = true := by
  simp [State.duplicate, hrun, hlistens, hown]

theorem not_duplicate_of_listenOnly {s : State} {f : RxFrame} (h : s.line.listenOnly = true) :
    s.duplicate f = false := by
  simp [State.duplicate, h]

/-- A frame under the own number does what it does at a station that is listen-only already (R14). -/
theorem receive_of_own {s : State} (kind : Byte) {f : RxFrame} (hawake : s.awake = true) (hrun : s.station = .run)
    (hfollows : s.follows = true) (hlistens : s.line.listenOnly = false) (hsound : frameSound f = true)
    (hown : s.image.station = some f.sender) :
    receive kind f s = goodFrameSeen (endReception (s.silenced f.sender)) kind f ∧
      receive kind f (s.silenced f.sender) = goodFrameSeen (endReception (s.silenced f.sender)) kind f := by
  have hdup : (endReception s).duplicate f = true := duplicate_of_own hrun hlistens hown
  have hnot : (endReception (s.silenced f.sender)).duplicate f = false := not_duplicate_of_listenOnly rfl
  constructor
  · rw [receive, whenFollowed_of_follows hawake hfollows, if_pos hsound, goodFrameSeen, goodFrameSeen]
    simp only [hdup, hnot, if_true, Bool.false_eq_true, if_false]
    rfl
  · rw [receive, whenFollowed_of_follows (s := s.silenced f.sender) hawake hfollows, if_pos hsound]

/-- A frame under the own number that is not addressed to the station does no more (R10, R20). -/
theorem goodFrameSeen_of_own_elsewhere {s : State} (kind : Byte) {f : RxFrame} (hlistens : s.line.listenOnly = true)
    (hown : s.image.station = some f.sender) (hdest : s.addressed f.dest = false) : goodFrameSeen s kind f = s := by
  have hhears : s.hears f.sender = false := by simp [State.hears, hown]
  have hpeer : peerFrame s kind f = s := by
    have hshown (b : Option StatusBody) : showPeer s f.sender b = s := if_neg (by simp [hhears])
    simp only [peerFrame, hshown, hhears, Bool.false_eq_true, if_false]
    split <;> rfl
  simp [goodFrameSeen, not_duplicate_of_listenOnly hlistens, hpeer, hdest]

/-- Settles O16: once listen-only and its queue emptied, the station stays so whatever block takes the frame. -/
theorem duplicateStationFallsSilent : Obligations.DuplicateStationFallsSilent := by
  intro s f hawake hrun hfollows hlistens hsound hown silent frames
  have hreceive := fun kind => receive_of_own kind hawake hrun hfollows hlistens hsound hown
  refine ⟨fun kind hdest => ?_, fun i hi => ?_⟩
  · exact congrArg Host.Outcome.next
      ((hreceive kind).1.trans (goodFrameSeen_of_own_elsewhere (s := endReception (s.silenced f.sender)) kind rfl hown hdest))
  · obtain ⟨kind, hexec⟩ := exec_frameCommand hi
    refine ⟨goodFrameSeen (endReception (s.silenced f.sender)) kind f, ?_, ?_, ?_⟩
    · rw [hexec, (hreceive kind).1]
    · rw [hexec]; exact congrArg _ (hreceive kind).2
    · have htouches := goodFrameSeen_touches (s := endReception (s.silenced f.sender)) (kind := kind) (f := f)
        (not_duplicate_of_listenOnly rfl)
      obtain ⟨honly, hqueue⟩ := htouches.same .silence (by decide) ⟨rfl, rfl⟩
      exact ⟨by simp [State.posts, honly], honly, hqueue⟩

end Sys2Proof.Machine
end

section
/-! PROOFS. A full transmit queue and the record queue, with and without room, and the merging of a record into its carry
(O14). -/
set_option Elab.async false

namespace Sys2Proof.Machine

/-! ## A frame posted to a full transmit queue (R13) -/

/-- Where a frame is inserted, a filter that it does not pass sees the queue as it was. -/
theorem filter_queueInsert_of_not {f : TxFrame} {p : TxFrame → Bool} (h : p f = false) (q : List TxFrame) :
    (queueInsert f q).filter p = q.filter p := by
  induction q with
  | nil => simp [queueInsert, h]
  | cons g rest ih =>
    unfold queueInsert
    split
    · simp [List.filter_cons, ih]
    · simp [List.filter_cons, h]

/-- Where nothing else passes the filter, the frame inserted is all that does. -/
theorem filter_queueInsert_alone {f : TxFrame} {p : TxFrame → Bool} (h : p f = true) {q : List TxFrame}
    (hq : q.filter p = []) : (queueInsert f q).filter p = [f] := by
  induction q with
  | nil => simp [queueInsert, h]
  | cons g rest ih =>
    obtain ⟨hg, hrest⟩ : p g = false ∧ rest.filter p = [] := by
      cases hg : p g <;> simp [hg] at hq ⊢
      exact hq
    unfold queueInsert
    split
    · simp [hg, ih hrest]
    · simp [h, hg, hrest]

theorem newFrame_isStatus (dest : Nat) (b : Body) : (newFrame dest b).isStatus = (b.kind == .status) := rfl

theorem refusesFrame_of_status {f : TxFrame} (h : f.isStatus = true) (l : LineCtl) : refusesFrame l f = false := by
  simp [refusesFrame, h]

theorem refusesFrame_of_evictable {l : LineCtl} (h : evictable l.queue = true) (f : TxFrame) :
    refusesFrame l f = false := by
  simp [refusesFrame, h]

theorem evictable_iff {q : List TxFrame} : evictable q = true ↔ ∃ g ∈ q, g.isStatus = true ∧ g.onLine = false := by
  simp [evictable]

/-- A STATUS takes the place of the queued one (R12, R13). -/
theorem post_status_replaces {s : State} {dest : Nat} {b : Body} (hposts : s.posts = true) (hb : b.kind = .status)
    (hq : ∃ g ∈ s.line.queue, g.isStatus = true) :
    (post s dest b).records = s.records ∧
      (post s dest b).line.queue = queueInsert (newFrame dest b) (withoutStatus s.line.queue) := by
  have hf : (newFrame dest b).isStatus = true := by simp [newFrame_isStatus, hb]
  obtain ⟨old, hold⟩ := Option.isSome_iff_exists.mp (List.find?_isSome.mpr hq)
  constructor
  · simp [post, refusesFrame_of_status hf]
  · rw [post_line_of_posts hposts, acceptFrame, if_pos hf, hold]

/-- With no STATUS queued, a STATUS finds no place in a full queue (R13). -/
theorem post_status_of_full {s : State} {dest : Nat} {b : Body} (hb : b.kind = .status)
    (hfull : s.line.queue.length = txCap) (hq : ∀ g ∈ s.line.queue, g.isStatus = false) : post s dest b = s := by
  have hf : (newFrame dest b).isStatus = true := by simp [newFrame_isStatus, hb]
  have hnone : s.line.queue.find? TxFrame.isStatus = none := by simpa using hq
  have hline : acceptFrame s.line (newFrame dest b) = s.line := by
    simp [acceptFrame, hf, hnone, hfull]
  simp [post, refusesFrame_of_status hf, hline]

/-- Another frame evicts the queued STATUS, unless it is on the line (R13). -/
theorem post_evicts {s : State} {dest : Nat} {b : Body} (hposts : s.posts = true) (hb : b.kind ≠ .status)
    (hfull : s.line.queue.length = txCap) (hq : evictable s.line.queue = true) :
    (post s dest b).records = s.records ∧
      (post s dest b).line.queue = queueInsert (newFrame dest b) (withoutStatus s.line.queue) := by
  have hf : (newFrame dest b).isStatus = false := by simp [newFrame_isStatus, hb]
  constructor
  · simp [post, refusesFrame_of_evictable hq]
  · simp [post_line_of_posts hposts, acceptFrame, hf, hfull, hq]

/-- Where no STATUS can be evicted, another frame is refused with its record (R13). -/
theorem post_refused {s : State} {dest : Nat} {b : Body} (hposts : s.posts = true) (hb : b.kind ≠ .status)
    (hfull : s.line.queue.length = txCap) (hq : evictable s.line.queue = false) :
    post s dest b = { s with
      records :=
        appendTo s.records s.stationSeconds s.powerUps (.event (.txDropped (kindCode b.kind) dest .queueFull)) } := by
  have hf : (newFrame dest b).isStatus = false := by simp [newFrame_isStatus, hb]
  have hline : acceptFrame s.line (newFrame dest b) = s.line := by simp [acceptFrame, hf, hfull, hq]
  have href : refusesFrame s.line (newFrame dest b) = true := by simp [refusesFrame, hf, hfull, hq]
  simp [post, hline, href, hposts]

theorem filter_lengths_add (q : List TxFrame) :
    q.length = (q.filter TxFrame.isStatus).length + (q.filter (!·.isStatus)).length := by
  induction q with
  | nil => rfl
  | cons f q ih =>
    cases h : f.isStatus with
    | true => simp only [List.filter_cons, h, Bool.not_true, if_true, List.length_cons, Bool.false_eq_true, if_false]; omega
    | false => simp only [List.filter_cons, h, Bool.not_false, if_true, List.length_cons, Bool.false_eq_true, if_false]; omega

/-- The one STATUS of the queue leaves it one shorter. -/
theorem withoutStatus_length {q : List TxFrame} (hone : (q.filter TxFrame.isStatus).length ≤ 1)
    (h : ∃ g ∈ q, g.isStatus = true) : (withoutStatus q).length + 1 = q.length := by
  have hsplit := filter_lengths_add q
  obtain ⟨g, hg, hs⟩ := h
  have hpos := List.length_pos_of_mem (List.mem_filter.mpr ⟨hg, hs⟩)
  rw [withoutStatus]
  omega

/-! ## The record queue (R171 to R173) -/

/-- The oldest event record of a queue gives way. -/
theorem dropOldestEvent_split {before after : List Record} {e : Record} (he : e.body.isEvent = true)
    (hbefore : ∀ x ∈ before, x.body.isEvent = false) :
    dropOldestEvent (before ++ e :: after) = some (e.lost, before ++ after) := by
  induction before with
  | nil => simp [dropOldestEvent, he]
  | cons x before ih =>
    have hx := hbefore x (by simp)
    simp [dropOldestEvent, hx, ih fun y hy => hbefore y (by simp [hy])]

theorem dropOldestEvent_of_none {q : List Record} (h : ∀ x ∈ q, x.body.isEvent = false) : dropOldestEvent q = none := by
  induction q with
  | nil => rfl
  | cons x q ih => simp [dropOldestEvent, h x (by simp), ih fun y hy => h y (by simp [hy])]

theorem isEvent_iff {b : RecordBody} : b.isEvent = true ↔ (∃ c, b = .changeover c) ∨ ∃ e, b = .event e := by
  cases b <;> simp [RecordBody.isEvent]

theorem appendTo_of_full {q : RecordStore} {before after : List Record} {e : Record} (hfull : queueCap ≤ q.queue.length)
    (hq : q.queue = before ++ e :: after) (he : e.body.isEvent = true)
    (hbefore : ∀ x ∈ before, x.body.isEvent = false) (stamp ups : Nat) (b : RecordBody) :
    appendTo q stamp ups b = joinQueue { q with
      queue := before ++ after, eventLost := min 65535 (q.eventLost + (1 + e.lost)) } stamp ups b := by
  rw [appendTo, if_neg (by omega), hq, dropOldestEvent_split he hbefore]
  rfl

theorem appendTo_of_no_event {q : RecordStore} (hfull : queueCap ≤ q.queue.length)
    (hq : ∀ x ∈ q.queue, x.body.isEvent = false) (stamp ups : Nat) (b : RecordBody) :
    appendTo q stamp ups b =
      if b.isEvent then { q with eventLost := min 65535 (q.eventLost + 1) } else mergeCarry q b := by
  rw [appendTo, if_neg (by omega), dropOldestEvent_of_none hq]
  rfl

/-! ## Merging a line into a carry (R175) -/

/-- A carry's lines in account order, the house last (R196). -/
def LinesOrdered (m : List CarryLine) : Prop :=
  m.Pairwise (fun x y => linePlace x.account < linePlace y.account) ∧ ∀ x ∈ m, x.account ≤ 12

theorem linePlace_inj {a b : Nat} (ha : a ≤ 12) (hb : b ≤ 12) (h : linePlace a = linePlace b) : a = b := by
  unfold linePlace at h
  split at h <;> split at h <;> omega

/-- The accounts of a carry after a merge: those before, and the line's. -/
theorem mem_mergeLine_account {l : AccountLine} {ls : List CarryLine} {x : CarryLine} (hx : x ∈ mergeLine l ls) :
    x.account = l.account ∨ ∃ y ∈ ls, y.account = x.account := by
  induction ls with
  | nil => simp [mergeLine] at hx; exact .inl (by rw [hx])
  | cons c rest ih =>
    unfold mergeLine at hx
    split at hx
    · next heq =>
      rcases List.mem_cons.mp hx with rfl | hx
      · exact .inl heq
      · exact .inr ⟨x, by simp [hx], rfl⟩
    · split at hx
      · rcases List.mem_cons.mp hx with rfl | hx
        · exact .inl rfl
        · exact .inr ⟨x, hx, rfl⟩
      · rcases List.mem_cons.mp hx with rfl | hx
        · exact .inr ⟨x, by simp, rfl⟩
        · exact (ih hx).imp id fun ⟨y, hy, he⟩ => ⟨y, by simp [hy], he⟩

theorem mergeLine_ordered {l : AccountLine} {ls : List CarryLine} (hl : l.account ≤ 12) (h : LinesOrdered ls) :
    LinesOrdered (mergeLine l ls) := by
  obtain ⟨hpair, hle⟩ := h
  constructor
  · induction ls with
    | nil => simp [mergeLine]
    | cons c rest ih =>
      obtain ⟨hc, hrest⟩ := List.pairwise_cons.mp hpair
      unfold mergeLine
      split
      · exact List.pairwise_cons.mpr ⟨hc, hrest⟩
      · next hne =>
        split
        · next hlt =>
          refine List.pairwise_cons.mpr ⟨fun y hy => ?_, hpair⟩
          rcases List.mem_cons.mp hy with rfl | hy
          · exact hlt
          · exact Nat.lt_trans hlt (hc y hy)
        · next hge =>
          refine List.pairwise_cons.mpr ⟨fun y hy => ?_, ih hrest fun y hy => hle y (by simp [hy])⟩
          rcases mem_mergeLine_account hy with he | ⟨z, hz, he⟩
          · have : linePlace c.account ≠ linePlace l.account := fun h =>
              hne (linePlace_inj (hle c (by simp)) hl h)
            rw [he]; omega
          · rw [← he]; exact hc z hz
  · intro x hx
    rcases mem_mergeLine_account hx with he | ⟨y, hy, he⟩
    · omega
    · exact he ▸ hle y hy

/-- The lines of the other accounts stay as they were. -/
theorem find_mergeLine_other {l : AccountLine} {k : Nat} (hk : k ≠ l.account) (ls : List CarryLine) :
    (mergeLine l ls).find? (fun x => x.account == k) = ls.find? (fun x => x.account == k) := by
  have hl : (l.account == k) = false := by simp; omega
  induction ls with
  | nil => simp [mergeLine, hl]
  | cons c rest ih =>
    unfold mergeLine
    split
    · next heq =>
      have hc : (c.account == k) = false := by rw [heq]; exact hl
      simp [hc]
    · split
      · simp [hl]
      · simp only [List.find?_cons, ih]

/-- The account's line, if it has one, lies where the merge looks for it. -/
theorem find_mergeLine_self {l : AccountLine} {ls : List CarryLine} (h : LinesOrdered ls) :
    (mergeLine l ls).find? (fun x => x.account == l.account) =
      some (match ls.find? (fun x => x.account == l.account) with
        | none => { account := l.account, wh := l.wh, fuel := l.fuel.getD 0, peak := l.peak.getD 0 }
        | some c =>
          { account := l.account, wh := c.wh + l.wh, fuel := c.fuel + l.fuel.getD 0,
            peak := max c.peak (l.peak.getD 0) }) := by
  obtain ⟨hpair, hle⟩ := h
  induction ls with
  | nil => simp [mergeLine]
  | cons c rest ih =>
    obtain ⟨hc, hrest⟩ := List.pairwise_cons.mp hpair
    unfold mergeLine
    split
    · next heq => simp [heq]
    · next hne =>
      have hcl : (c.account == l.account) = false := by simpa using hne
      split
      · next hlt =>
        have hnone : rest.find? (fun x => x.account == l.account) = none := by
          refine List.find?_eq_none.mpr fun y hy heq => ?_
          have := hc y hy
          rw [beq_iff_eq.mp heq] at this
          omega
        simp [hcl, hnone]
      · simp only [List.find?_cons, hcl]
        exact ih hrest fun y hy => hle y (by simp [hy])

/-! ## The ranks of the checks (R176) -/

theorem meterRank_order : meterRank meterOk < meterRank meterNoDocket ∧
    meterRank meterNoDocket = meterRank meterUnknownDocket ∧ meterRank meterNoDocket < meterRank meterMismatch := by
  simp [meterRank, meterOk, meterNoDocket, meterUnknownDocket, meterMismatch]

theorem levelRank_order : levelRank levelOk < levelRank levelUnavailable ∧
    levelRank levelUnavailable < levelRank levelMismatch := by
  simp [levelRank, levelOk, levelUnavailable, levelMismatch]

/-- Settles O14: one lemma for each row of R13, one for each course of R172 and R173, and the merge of a line by
induction on the carry's lines. -/
theorem fullQueueReplacesEvictsOrRefuses : Obligations.FullQueueReplacesEvictsOrRefuses := by
  refine ⟨fun s dest b hposts hfit hfull => ⟨fun hb hq => ?_, fun hb hq => post_status_of_full hb hfull hq,
      fun hb hq => ?_, fun hb hq => ?_⟩,
    fun q stamp ups b => ?_, ?_, ?_⟩
  · have hf : (newFrame dest b).isStatus = true := by simp [newFrame_isStatus, hb]
    obtain ⟨hrecords, hqueue⟩ := post_status_replaces (dest := dest) hposts hb hq
    refine ⟨hrecords, ?_, ?_⟩
    · rw [hqueue]; exact filter_queueInsert_alone hf (filter_isStatus_withoutStatus _)
    · rw [hqueue, filter_queueInsert_of_not (by simp [hf])]; simp [withoutStatus]
  · have hf : (newFrame dest b).isStatus = false := by simp [newFrame_isStatus, hb]
    obtain ⟨hrecords, hqueue⟩ := post_evicts (dest := dest) hposts hb hfull (evictable_iff.mpr hq)
    obtain ⟨g, hg, hs, -⟩ := hq
    have hlen := withoutStatus_length hfit.oneStatus ⟨g, hg, hs⟩
    refine ⟨hrecords, ?_, ?_, fun x hx => ?_, fun x hx hns => ?_⟩
    · rw [hqueue, queueInsert_length]; omega
    · rw [hqueue]; exact mem_queueInsert.mpr (.inl rfl)
    · rw [hqueue] at hx
      rcases mem_queueInsert.mp hx with rfl | hx
      · exact hf
      · simpa using (List.mem_filter.mp hx).2
    · rw [hqueue]
      exact mem_queueInsert.mpr (.inr (List.mem_filter.mpr ⟨hx, by simp [hns]⟩))
  · refine post_refused hposts hb hfull (Classical.byContradiction fun he => ?_)
    obtain ⟨g, hg, hs, hoff⟩ := evictable_iff.mp (by simpa using he)
    simp [hq g hg hs] at hoff
  · have hnot {l : List Record} (h : ∀ x ∈ l, ¬ ((∃ c, x.body = .changeover c) ∨ ∃ e, x.body = .event e)) :
        ∀ x ∈ l, x.body.isEvent = false := fun x hx => by
      have := h x hx
      rwa [← isEvent_iff, Bool.not_eq_true] at this
    refine ⟨fun hroom => ?_, fun before e after hfull hq he hbefore => ?_, fun hfull hq => ⟨fun hb => ?_, fun r hb => ?_,
      fun r hb => ?_, fun r hb => ?_, fun r hb => ?_⟩⟩
    · rw [appendTo_of_room hroom]; cases b <;> rfl
    · rw [appendTo_of_full hfull hq (isEvent_iff.mpr he) (hnot hbefore)]; cases b <;> rfl
    · rw [appendTo_of_no_event hfull (hnot hq), if_pos (isEvent_iff.mpr hb)]
    · subst hb
      rw [appendTo_of_no_event hfull (hnot hq)]
      cases hc : q.setCarry <;> simp [RecordBody.isEvent, mergeCarry, mergeSettleSet, incTo, hc]
    · subst hb
      rw [appendTo_of_no_event hfull (hnot hq)]
      cases hc : q.boardCarry <;> simp [RecordBody.isEvent, mergeCarry, mergeSettleBoard, incTo, hc, severalSets]
    · subst hb
      rw [appendTo_of_no_event hfull (hnot hq)]
      cases hc : q.deliveryCarry <;> simp [RecordBody.isEvent, mergeCarry, mergeDelivery, incTo, hc, worse]
    · subst hb
      rw [appendTo_of_no_event hfull (hnot hq)]
      cases hc : q.docketCarry with
      | none =>
        exact ⟨none, none, by simp [RecordBody.isEvent, mergeCarry, mergeDocket, hc], fun c h => by cases h⟩
      | some c =>
        refine ⟨worseOpt meterRank c.worstMeter r.meterCheck, worseOpt levelRank c.worstLevel r.levelCheck,
          by simp [RecordBody.isEvent, mergeCarry, mergeDocket, hc, incTo], fun d hd => ?_⟩
        cases hd
        refine ⟨fun h => ?_, fun h => ?_, fun m n hm hn => ?_, fun h => ?_, fun h => ?_, fun m n hm hn => ?_⟩
        · rw [h]; cases c.worstMeter <;> rfl
        · rw [h]; cases r.meterCheck <;> rfl
        · rw [hm, hn]; rfl
        · rw [h]; cases c.worstLevel <;> rfl
        · rw [h]; cases r.levelCheck <;> rfl
        · rw [hm, hn]; rfl
  · obtain ⟨h1, h2, h3⟩ := meterRank_order
    exact ⟨h1, h2, h3, levelRank_order⟩
  · intro l ls inOrder found hl hordered
    refine ⟨mergeLine_ordered hl hordered, fun k hk => find_mergeLine_other hk ls, fun hnone => ?_, fun c hc => ?_⟩
    · have := find_mergeLine_self (l := l) hordered
      change ls.find? _ = none at hnone
      rwa [hnone] at this
    · have := find_mergeLine_self (l := l) hordered
      change ls.find? _ = some c at hc
      rwa [hc] at this

end Sys2Proof.Machine
end

section
/-! PROOFS. The frames of a BOARD at a SET: TAKE (O19, O20), COMMIT (O21), LEFT and RELEASE (O22). -/
set_option Elab.async false

namespace Sys2Proof.Machine

/-! ## A frame taken by a SET in RUN -/

/-- What a station is after it has heard a frame: the peer table and the phase of the line have changed. -/
theorem heard_shape (s : State) (f : RxFrame) :
    ∃ p, s.heard f = { s with peers := p, line := { s.line with phase := .waiting } } :=
  ⟨_, heard_eq s f⟩

theorem exec_take {s : State} {f : RxFrame} {t l1 l0 r : Byte} {rest : List Byte} (h : s.Takes f)
    (hrole : s.image.role = some .set) (hbody : f.body = t :: l1 :: l0 :: r :: rest) :
    exec (.take f) s = .next (settle (takeFrame (s.heard f) f.sender t.toNat (rd2 l1 l0))) := by
  have hreceive := receive_of_takes h (k := .take) (by decide) (b := .take t.toNat (rd2 l1 l0) r.toNat) (by rw [hbody]; rfl)
  exact congrArg Host.Outcome.next (hreceive.trans (deliver_to_set h hrole _).1)

theorem exec_commit {s : State} {f : RxFrame} {t l1 l0 : Byte} {rest : List Byte} (h : s.Takes f)
    (hrole : s.image.role = some .set) (hbody : f.body = t :: l1 :: l0 :: rest) :
    exec (.commit f) s = .next (settle (commitFrame (s.heard f) f.sender t.toNat (rd2 l1 l0))) := by
  have hreceive := receive_of_takes h (k := .commit) (by decide) (b := .commit t.toNat (rd2 l1 l0)) (by rw [hbody]; rfl)
  exact congrArg Host.Outcome.next (hreceive.trans (deliver_to_set h hrole _).1)

theorem exec_left {s : State} {f : RxFrame} {t : Byte} {rest : List Byte} (h : s.Takes f)
    (hrole : s.image.role = some .set) (hbody : f.body = t :: rest) :
    exec (.left f) s = .next (settle (feedRemove (s.heard f) f.sender)) := by
  have hreceive := receive_of_takes h (k := .left) (by decide) (b := .left t.toNat) (by rw [hbody]; rfl)
  exact congrArg Host.Outcome.next (hreceive.trans (deliver_to_set h hrole _).1)

theorem exec_release {s : State} {f : RxFrame} {t : Byte} {rest : List Byte} (h : s.Takes f)
    (hrole : s.image.role = some .set) (hbody : f.body = t :: rest) :
    exec (.release f) s = .next (settle (releaseFrame (s.heard f) f.sender t.toNat)) := by
  have hreceive := receive_of_takes h (k := .release) (by decide) (b := .release t.toNat) (by rw [hbody]; rfl)
  exact congrArg Host.Outcome.next (hreceive.trans (deliver_to_set h hrole _).1)

/-- After a frame that leaves conditions, commands and duty state as they were, nothing is to settle. -/
theorem settle_kept {s t : State} (h : s.Settled) (hc : t.duty.conditions = s.duty.conditions)
    (hi : t.inputs = s.inputs) (hb : t.duty.brkClosed = s.duty.brkClosed) (hr : t.duty.runOn = s.duty.runOn)
    (hd : t.duty.state = s.duty.state) : settle t = t :=
  (h.of_same hc hi hb (fun h => hr.trans h) (.inl hd)).settle

/-! ## The lists -/

theorem filter_of_not_any {α : Type} {l : List α} {p q : α → Bool} (h : l.any p = false) (hq : ∀ x, q x = !p x) :
    l.filter q = l := by
  refine List.filter_eq_self.mpr fun x hx => ?_
  rw [hq, Bool.not_eq_true']
  exact Bool.eq_false_iff.mpr (List.any_eq_false.mp h x hx)

/-- A board that is not fed leaves no entry behind when it is taken from the feed list. -/
theorem withoutFeed_of_not_feeds {s : State} {board : Nat} (h : s.feeds board = false) :
    s.duty.feed.filter (fun e => e.board != board) = s.duty.feed :=
  filter_of_not_any h fun _ => rfl

theorem feeds_of_withoutFeed (l : List FeedEntry) (board : Nat) :
    (l.filter (fun e => e.board != board)).any (fun e => e.board == board) = false := by
  simp

theorem feedRemove_of_not_feeds {s : State} {board : Nat} (h : s.feeds board = false) : feedRemove s board = s := by
  simp [feedRemove, h]

theorem unloadTest_of_not_unloading {s : State} (h : s.duty.state ≠ .unloading) : unloadTest s = s := by
  simp [unloadTest, h]

/-- Outside UNLOADING a board's leaving the feed list is all that happens (R70, R71). -/
theorem feedRemove_of_not_unloading {s : State} (h : s.duty.state ≠ .unloading) (board : Nat) :
    feedRemove s board = { s with duty := { s.duty with feed := s.duty.feed.filter (fun e => e.board != board) } } := by
  unfold feedRemove
  split
  · exact unloadTest_of_not_unloading h
  · next hn => rw [withoutFeed_of_not_feeds (by simpa using hn)]

theorem entryOf_none_iff {s : State} {board : Nat} :
    s.entryOf board = none ↔ s.reservations.any (fun r => r.board == board) = false := by
  simp [State.entryOf]

theorem withoutBoard_of_no_entry {s : State} {board : Nat} (h : s.entryOf board = none) :
    withoutBoard board s.reservations = s.reservations :=
  filter_of_not_any (entryOf_none_iff.mp h) fun _ => rfl

theorem reservationRemove_of_no_entry {s : State} {board : Nat} (h : s.entryOf board = none) :
    reservationRemove s board = s := by
  simp [reservationRemove, entryOf_none_iff.mp h]

theorem reservationRemove_of_not_unloading {s : State} (h : s.duty.state ≠ .unloading) (board : Nat) :
    reservationRemove s board = { s with reservations := withoutBoard board s.reservations } := by
  cases hentry : s.entryOf board with
  | none => rw [reservationRemove_of_no_entry hentry, withoutBoard_of_no_entry hentry]
  | some e =>
    have hany : s.reservations.any (fun r => r.board == board) = true := by
      cases h : s.reservations.any (fun r => r.board == board) with
      | true => rfl
      | false => rw [entryOf_none_iff.mpr h] at hentry; cases hentry
    rw [reservationRemove, if_pos hany]
    exact unloadTest_of_not_unloading h

theorem entryOf_withoutBoard (s : State) (board : Nat) :
    ({ s with reservations := withoutBoard board s.reservations } : State).entryOf board = none :=
  entryOf_none_iff.mpr (by simp [withoutBoard])

/-! ## The tests of a TAKE (R78 to R81) -/

theorem ownRefusal_dry {s : State} (h : s.tank.dry = true) : ownRefusal s = some reasonDry := by simp [ownRefusal, h]

theorem ownRefusal_stop {s : State} (hdry : s.tank.dry = false) (h : s.duty.mode = .stop) :
    ownRefusal s = some reasonBlocked := by
  simp [ownRefusal, hdry, h]

theorem ownRefusal_fault {s : State} (hdry : s.tank.dry = false) (hmode : s.duty.mode ≠ .stop)
    (h : s.duty.state = .fault ∨ (s.duty.state = .off ∧ s.inhibit = true)) : ownRefusal s = some reasonFault := by
  rw [ownRefusal, if_neg (by simp [hdry]), if_neg hmode, if_pos h]

theorem ownRefusal_stopping {s : State} (hdry : s.tank.dry = false) (hmode : s.duty.mode ≠ .stop)
    (h : s.duty.state = .unloading ∨ (s.duty.state = .cooling ∧ s.duty.origin = some .stopping)) :
    ownRefusal s = some reasonStopping := by
  have hfault : ¬ (s.duty.state = .fault ∨ (s.duty.state = .off ∧ s.inhibit = true)) := by
    rcases h with h | ⟨h, -⟩ <;> simp [h]
  have hstopping : s.stopping = true := by
    rcases h with h | ⟨h, ho⟩ <;> simp [State.stopping, *]
  rw [ownRefusal, if_neg (by simp [hdry]), if_neg hmode, if_neg hfault, if_pos hstopping]

/-- The set answers a TAKE on its headroom: READY, or COOLING from idleness (R80). -/
def State.Carries (s : State) : Prop := s.duty.state = .ready ∨ (s.duty.state = .cooling ∧ s.duty.origin = some .idle)

/-- The set is on its way up, or can be started (R82). -/
def State.MayCome (s : State) : Prop :=
  s.duty.state = .starting ∨ s.duty.state = .warming ∨ (s.duty.state = .off ∧ s.inhibit = false)

theorem State.Carries.carrying {s : State} (h : s.Carries) : s.carrying = true := by
  rcases h with h | ⟨h, ho⟩ <;> simp [State.carrying, *]

theorem State.MayCome.not_carrying {s : State} (h : s.MayCome) : s.carrying = false := by
  rcases h with h | h | ⟨h, -⟩ <;> simp [State.carrying, h]

/-- Tests 2 to 5 leave the TAKE to the tests on headroom and room (R78). -/
theorem ownRefusal_none {s : State} (hdry : s.tank.dry = false) (hmode : s.duty.mode ≠ .stop)
    (h : s.Carries ∨ s.MayCome) : ownRefusal s = none := by
  have hfault : ¬ (s.duty.state = .fault ∨ (s.duty.state = .off ∧ s.inhibit = true)) := by
    rcases h with (h | ⟨h, -⟩) | (h | h | ⟨h, hi⟩) <;> simp [*]
  have hstopping : s.stopping = false := by
    rcases h with (h | ⟨h, ho⟩) | (h | h | ⟨h, -⟩) <;> simp [State.stopping, *]
  rw [ownRefusal, if_neg (by simp [hdry]), if_neg hmode, if_neg hfault, if_neg (by simp [hstopping])]

/-- No place for another board (R80, log 51). -/
def State.NoPlace (s : State) : Prop :=
  reservationCap ≤ s.reservations.length ∨ feedCap ≤ s.duty.feed.length + s.reservations.length

theorem placeRefusal_notReady {s : State} (h : s.Carries) (hc : (s.channel 0).state = .noData) :
    placeRefusal s = some reasonNotReady := by
  rw [placeRefusal, if_pos ⟨h.carrying, hc⟩]

theorem placeRefusal_busy {s : State} (h : s.carrying = true → (s.channel 0).state ≠ .noData) (hfull : s.NoPlace) :
    placeRefusal s = some reasonBusy := by
  rw [placeRefusal, if_neg (fun hc => h hc.1 hc.2)]
  exact if_pos hfull

theorem placeRefusal_none {s : State} (h : s.carrying = true → (s.channel 0).state ≠ .noData) (hroom : ¬ s.NoPlace) :
    placeRefusal s = none := by
  rw [placeRefusal, if_neg (fun hc => h hc.1 hc.2)]
  exact if_neg hroom

/-! ## The answer to a TAKE -/

section
variable {v : State} {board ticket load : Nat}

theorem takeFrame_zero (v : State) (board load : Nat) : takeFrame v board 0 load = v := rfl

/-- A TAKE of a board that is not fed (R77). -/
theorem takeFrame_of_not_feeds (ht : ticket ≠ 0) (hfeeds : v.feeds board = false) :
    takeFrame v board ticket load = answerTake { v with duty := { v.duty with idle := 0 } } board ticket load := by
  rw [takeFrame, if_neg ht, feedRemove_of_not_feeds (by exact hfeeds)]

theorem answerTake_refused {reason : Nat} (h : ownRefusal v = some reason) (hentry : v.entryOf board = none) :
    answerTake v board ticket load = replyTo v board ticket verdictRefuse reason 0 := by
  rw [answerTake, h]
  simp only [reservationRemove_of_no_entry hentry]

theorem answerTake_judged (h : ownRefusal v = none) (hentry : v.entryOf board = none) :
    answerTake v board ticket load = judgeTake v board ticket load := by
  rw [answerTake, h, matchTake, hentry]

theorem judgeTake_refused {reason : Nat} (h : placeRefusal v = some reason) :
    judgeTake v board ticket load = replyTo v board ticket verdictRefuse reason 0 := by
  rw [judgeTake, h]

theorem judgeTake_granting (h : placeRefusal v = none) (hc : v.carrying = true) :
    judgeTake v board ticket load = grantTest v board ticket load := by
  rw [judgeTake, h]
  exact if_pos hc

theorem judgeTake_pending (h : placeRefusal v = none) (hc : v.carrying = false) :
    judgeTake v board ticket load = pendingTest v board ticket load := by
  rw [judgeTake, h]
  exact if_neg (by simp [hc])

end

/-! ## A TAKE at a SET, as a whole -/

/-- A SET that has heard a TAKE of a board that it does not feed: its idle count is 0 (R77). -/
def State.asked (s : State) (p : List Peer) : State :=
  { s with peers := p, line := { s.line with phase := .waiting }, duty := { s.duty with idle := 0 } }

theorem exec_take_unfed {s : State} {f : RxFrame} {t l1 l0 r : Byte} {rest : List Byte} (h : s.Takes f)
    (hrole : s.image.role = some .set) (hbody : f.body = t :: l1 :: l0 :: r :: rest) (ht : t.toNat ≠ 0)
    (hfeeds : s.feeds f.sender = false) :
    ∃ p, { s.heard f with duty := { s.duty with idle := 0 } } = s.asked p ∧
      exec (.take f) s = .next (settle (answerTake (s.asked p) f.sender t.toNat (rd2 l1 l0))) := by
  obtain ⟨p, hp⟩ := heard_shape s f
  refine ⟨p, by rw [hp]; rfl, ?_⟩
  rw [exec_take h hrole hbody, takeFrame_of_not_feeds ht (by rw [heard_feeds]; exact hfeeds), hp]
  rfl

/-- A reply leaves nothing to settle. -/
theorem settle_replyTo {s : State} (h : s.Settled) (p : List Peer) (l : List Reservation)
    (board ticket verdict reason hold : Nat) :
    settle (replyTo { s.asked p with reservations := l } board ticket verdict reason hold) =
      replyTo { s.asked p with reservations := l } board ticket verdict reason hold :=
  settle_kept h rfl rfl rfl rfl rfl

/-- A TAKE of a fed board is judged as one of a board whose feed entry has left (R77). -/
theorem exec_take_fed {s : State} {f : RxFrame} {t l1 l0 r : Byte} {rest : List Byte} (h : s.Takes f)
    (hrole : s.image.role = some .set) (hbody : f.body = t :: l1 :: l0 :: r :: rest) (ht : t.toNat ≠ 0)
    (hstate : s.duty.state ≠ .unloading) :
    exec (.take f) s = exec (.take f) { s with
      duty := { s.duty with feed := s.duty.feed.filter (fun e => e.board != f.sender) } } := by
  obtain ⟨p, hp⟩ := heard_shape s f
  have hfree : ({ s with duty := { s.duty with feed := s.duty.feed.filter (fun e => e.board != f.sender) } } :
      State).Takes f := ⟨h.awake, h.follows, h.run, h.sound, h.other, h.ours⟩
  have hheard : State.heard { s with
      duty := { s.duty with feed := s.duty.feed.filter (fun e => e.board != f.sender) } } f =
      { s.heard f with duty := { s.duty with feed := s.duty.feed.filter (fun e => e.board != f.sender) } } := by
    unfold State.heard showPeer
    split
    · rw [if_pos (by assumption)]; rfl
    · rw [if_neg (by assumption)]; rfl
  rw [exec_take h hrole hbody, exec_take hfree hrole hbody, hheard, hp, takeFrame, if_neg ht,
    feedRemove_of_not_unloading (by exact hstate), takeFrame_of_not_feeds ht (by exact feeds_of_withoutFeed ..)]

/-- A TAKE whose board's entry is not to stand is judged as one of a board without an entry (R78, R79). -/
theorem exec_take_freed {s : State} {f : RxFrame} {t l1 l0 r : Byte} {rest : List Byte} (h : s.Takes f)
    (hrole : s.image.role = some .set) (hbody : f.body = t :: l1 :: l0 :: r :: rest) (ht : t.toNat ≠ 0)
    (hfeeds : s.feeds f.sender = false)
    (hsame : ∀ p, answerTake (s.asked p) f.sender t.toNat (rd2 l1 l0) =
      answerTake { s.asked p with reservations := withoutBoard f.sender s.reservations } f.sender t.toNat (rd2 l1 l0)) :
    exec (.take f) s = exec (.take f) { s with reservations := s.reservations.filter (fun r => r.board != f.sender) } := by
  obtain ⟨p, hp⟩ := heard_shape s f
  have hfree : ({ s with reservations := s.reservations.filter (fun r => r.board != f.sender) } : State).Takes f :=
    ⟨h.awake, h.follows, h.run, h.sound, h.other, h.ours⟩
  have hheard : State.heard { s with reservations := s.reservations.filter (fun r => r.board != f.sender) } f =
      { s.heard f with reservations := s.reservations.filter (fun r => r.board != f.sender) } := by
    unfold State.heard showPeer
    split
    · rw [if_pos (by assumption)]; rfl
    · rw [if_neg (by assumption)]; rfl
  rw [exec_take h hrole hbody, exec_take hfree hrole hbody, hheard, hp, takeFrame_of_not_feeds ht (by exact hfeeds),
    takeFrame_of_not_feeds ht (by exact hfeeds)]
  exact congrArg (fun u => Host.Outcome.next (settle u)) (hsame p)

/-- Settles O19: the tests of R78 to R81 in their order, each answering where no earlier one has. -/
theorem takeIsAnsweredByItsTests : Obligations.TakeIsAnsweredByItsTests := by
  intro s f t l1 l0 r rest h hrole hs hbody v load refused carrying starting full free
  refine ⟨fun ht => ?_, fun ht hfeeds hentry => ?_, fun ht hstate => exec_take_fed h hrole hbody ht hstate,
    fun e ht hfeeds hentry => ⟨fun hdry hmode hcond => ⟨fun hticket => ?_, fun hticket => ?_⟩,
      fun hcond hstate => ?_⟩⟩
  · rw [exec_take h hrole hbody, ht, takeFrame_zero]
    obtain ⟨p, hp⟩ := heard_shape s f
    rw [hp]
    exact congrArg Host.Outcome.next (settle_kept hs rfl rfl rfl rfl rfl)
  · obtain ⟨p, hv, hexec⟩ := exec_take_unfed h hrole hbody ht hfeeds
    have hrefused : ∀ reason, answerTake (s.asked p) f.sender t.toNat load =
        replyTo (s.asked p) f.sender t.toNat verdictRefuse reason 0 → exec (.take f) s = refused reason := by
      intro reason ha
      change _ = Host.Outcome.next (replyTo { s.heard f with duty := { s.duty with idle := 0 } } ..)
      rw [hv, hexec, ha]
      exact congrArg Host.Outcome.next (settle_replyTo hs p s.reservations ..)
    have hown : ∀ reason, ownRefusal s = some reason → exec (.take f) s = refused reason := fun reason ho =>
      hrefused reason (answerTake_refused (v := s.asked p) ho hentry)
    have hplace : s.Carries ∨ s.MayCome → ∀ reason, s.tank.dry = false → s.duty.mode ≠ .stop →
        placeRefusal s = some reason → exec (.take f) s = refused reason := fun hc reason hdry hmode hp => by
      refine hrefused reason ((answerTake_judged (v := s.asked p) (ownRefusal_none hdry hmode ?_) hentry).trans
        (judgeTake_refused (v := s.asked p) hp))
      exact hc
    refine ⟨fun hdry => hown _ (ownRefusal_dry hdry), fun hdry hmode => hown _ (ownRefusal_stop hdry hmode),
      fun hdry hmode hfault => hown _ (ownRefusal_fault hdry hmode hfault),
      fun hdry hmode hstop => hown _ (ownRefusal_stopping hdry hmode hstop),
      fun hdry hmode hstart hfull => ?_, fun hdry hmode hcarry => ⟨fun hc => ?_, fun hc => ⟨fun hfull => ?_, fun hroom =>
        ⟨fun hload => ?_, fun hready hload => ?_⟩⟩⟩⟩
    · have hn : s.carrying = false := State.MayCome.not_carrying hstart
      exact hplace (.inr hstart) _ hdry hmode (placeRefusal_busy (fun hc => absurd hc (by simp [hn])) hfull)
    · exact hplace (.inl hcarry) _ hdry hmode (placeRefusal_notReady hcarry hc)
    · exact hplace (.inl hcarry) _ hdry hmode (placeRefusal_busy (fun _ => hc) hfull)
    · have hjudged : answerTake (s.asked p) f.sender t.toNat load = grantTest (s.asked p) f.sender t.toNat load :=
        (answerTake_judged (v := s.asked p) (ownRefusal_none hdry hmode (.inl hcarry)) hentry).trans
          (judgeTake_granting (v := s.asked p) (placeRefusal_none (fun _ => hc) hroom) (State.Carries.carrying hcarry))
      exact hrefused _ (hjudged.trans (if_neg (Int.not_le.mpr hload)))
    · have hjudged : answerTake (s.asked p) f.sender t.toNat load = grantTest (s.asked p) f.sender t.toNat load :=
        (answerTake_judged (v := s.asked p) (ownRefusal_none hdry hmode (.inl hcarry)) hentry).trans
          (judgeTake_granting (v := s.asked p) (placeRefusal_none (fun _ => hc) hroom) (State.Carries.carrying hcarry))
      have hgrant : grantTest (s.asked p) f.sender t.toNat load = replyTo (reserve (s.asked p) f.sender t.toNat load
          (some s.image.holdTime)) f.sender t.toNat verdictGrant reasonNone s.image.holdTime := by
        have hnc : (s.asked p).duty.state ≠ .cooling := by
          change s.duty.state ≠ .cooling
          simp [hready]
        rw [grantTest, if_pos (by exact hload), if_neg hnc]
        rfl
      rw [hexec, hjudged, hgrant]
      change _ = Host.Outcome.next (replyTo { ({ s.heard f with duty := { s.duty with idle := 0 } } : State) with
        reservations := _ } ..)
      rw [hv]
      exact congrArg Host.Outcome.next (settle_replyTo hs p ..)
  · have hown := ownRefusal_none hdry hmode hcond
    refine exec_take_freed h hrole hbody ht hfeeds fun p => ?_
    rw [answerTake_judged (v := { s.asked p with reservations := withoutBoard f.sender s.reservations }) hown
      (entryOf_withoutBoard ..), answerTake, (show ownRefusal (s.asked p) = none from hown), matchTake,
      (show (s.asked p).entryOf f.sender = some e from hentry)]
    exact if_neg hticket
  · obtain ⟨p, hv, hexec⟩ := exec_take_unfed h hrole hbody ht hfeeds
    have hown := ownRefusal_none hdry hmode hcond
    have hboard : e.board = f.sender := by simpa using List.find?_some hentry
    have hrepeat : answerTake (s.asked p) f.sender t.toNat load = repeatAnswer (s.asked p) e := by
      rw [answerTake, (show ownRefusal (s.asked p) = none from hown), matchTake,
        (show (s.asked p).entryOf f.sender = some e from hentry)]
      exact if_pos hticket
    constructor
    · intro hold hhold
      change _ = Host.Outcome.next (replyTo { s.heard f with duty := { s.duty with idle := 0 } } ..)
      rw [hv, hexec, hrepeat, repeatAnswer, hhold, hboard, hticket]
      exact congrArg Host.Outcome.next (settle_replyTo hs p s.reservations ..)
    · intro hhold
      change _ = Host.Outcome.next (replyTo { s.heard f with duty := { s.duty with idle := 0 } } ..)
      rw [hv, hexec, hrepeat, repeatAnswer, hhold, hboard, hticket]
      exact congrArg Host.Outcome.next (settle_replyTo hs p s.reservations ..)
  · have hown : ∃ reason, ownRefusal s = some reason := by
      cases hdry : s.tank.dry with
      | true => exact ⟨_, ownRefusal_dry hdry⟩
      | false =>
        by_cases hmode : s.duty.mode = .stop
        · exact ⟨_, ownRefusal_stop hdry hmode⟩
        · rcases hcond with hd | hm | hf | hf | hc
          · exact absurd hd (by simp [hdry])
          · exact absurd hm hmode
          · exact ⟨_, ownRefusal_fault hdry hmode (.inl hf)⟩
          · exact ⟨_, ownRefusal_fault hdry hmode (.inr hf)⟩
          · exact ⟨_, ownRefusal_stopping hdry hmode (.inr hc)⟩
    obtain ⟨reason, hown⟩ := hown
    refine exec_take_freed h hrole hbody ht hfeeds fun p => ?_
    rw [answerTake_refused (v := { s.asked p with reservations := withoutBoard f.sender s.reservations }) hown
      (entryOf_withoutBoard ..), answerTake, (show ownRefusal (s.asked p) = some reason from hown)]
    exact congrArg (fun u => replyTo u _ _ _ _ _) (reservationRemove_of_not_unloading (s := s.asked p) hstate _)

end Sys2Proof.Machine
end

section
/-! PROOFS. How a SET changes its duty state, said once for each change, and the frames that make it do so: TAKE of a stopped
or cooling set (O20), COMMIT (O21), LEFT and RELEASE (O22). -/
set_option Elab.async false

namespace Sys2Proof.Machine

/-! ## Changes of the duty state (R51 to R56) -/

/-- A start that finds no ENGINE_READY (R51). -/
theorem startEngine_idle {s : State} (hinput : s.input 1 = false) (hstarts : s.duty.starts + 1 < two32) :
    startEngine s = postStatus
      { s with
          pulses := { s.pulses with engine := some .runOn }
          duty := { s.duty with
            state := .starting, origin := none, timer := 0, overload := 0, burnSilence := 0, runOn := true
            starts := s.duty.starts + 1 } } := by
  have hcount : countOn s.free s.duty.starts 1 = s.duty.starts + 1 := if_pos hstarts
  have hfree : freeAfter two32 s.free s.duty.starts 1 = s.free := if_pos hstarts
  simp only [startEngine, hcount, hfree, hinput, Bool.false_eq_true, if_false]
  rfl

/-- Entry to READY from COOLING: no PENDING entry is re-checked (R55). -/
theorem enterReady_from_cooling (s : State) :
    enterReady s false = postStatus
      { s with
          pulses := { s.pulses with breaker := some .brkClose }
          duty := { s.duty with
            state := .ready, origin := none, idle := 0, brkClosed := true
            disagree := if s.duty.brkClosed then s.duty.disagree else 0 } } := rfl

/-- Entry to COOLING with a COOLDOWN to run (R55). -/
theorem enterCooling_timed {s : State} (h : s.image.cooldownTime ≠ 0) (origin : Origin) :
    enterCooling s origin = postStatus
      { s with
          pulses := { s.pulses with breaker := some .brkOpen }
          duty := { s.duty with
            state := .cooling, origin := some origin, timer := 0, overload := 0, burnSilence := 0, brkClosed := false
            disagree := if s.duty.brkClosed then 0 else s.duty.disagree } } := if_neg h

/-- After an event that changes no condition nothing is to settle, where the breaker command stays or no BREAKER is present,
the run command is not given up, and the set stays in its state, was not in READY or is now. -/
theorem settle_moved {s t : State} (h : s.Settled) (hc : t.duty.conditions = s.duty.conditions)
    (hi : t.inputs = s.inputs) (hb : t.duty.brkClosed = s.duty.brkClosed ∨ s.present .breaker = false)
    (hr : s.duty.runOn = true → t.duty.runOn = true)
    (hd : t.duty.state = s.duty.state ∨ s.duty.state ≠ .ready ∨ t.duty.state = .ready) : settle t = t := by
  have hp : ∀ c, t.present c = s.present c := fun c => by simp [State.present, hc]
  have hn : ∀ n, t.input n = s.input n := fun n => by simp [State.input, hi]
  refine State.Settled.settle ⟨fun h1 => ?_, fun h1 => ?_, fun h1 => ?_⟩
  · rw [hp] at h1; rw [hn]; exact (h.engine h1).imp id hr
  · rw [hp] at h1
    rcases hb with hb | hb
    · rw [hn, hb]; exact h.breaker h1
    · rw [hb] at h1; cases h1
  · rw [hp] at h1
    rcases hd with hd | hd | hd
    · rw [hd]; exact h.burn h1
    · exact absurd (h.burn h1) hd
    · exact hd

/-! ## A TAKE that starts a set or brings it back (O20) -/

theorem not_noPlace {s : State} (hentries : s.reservations.length < reservationCap)
    (hlists : s.duty.feed.length + s.reservations.length < feedCap) : ¬ s.NoPlace := by
  rintro (h | h) <;> omega

/-- Settles O20. -/
theorem takeStartsOrReturnsTheSet : Obligations.TakeStartsOrReturnsTheSet := by
  constructor
  · intro s f t l1 l0 r rest h hrole hs hbody ht hdry hmode hfeeds hentry hentries hlists v load w
    obtain ⟨p, hv, hexec⟩ := exec_take_unfed h hrole hbody ht hfeeds
    have hjudged : s.MayCome → answerTake (s.asked p) f.sender t.toNat load = pendingTest (s.asked p) f.sender t.toNat load :=
      fun hc => (answerTake_judged (v := s.asked p) (ownRefusal_none hdry hmode (.inr hc)) hentry).trans
        (judgeTake_pending (v := s.asked p)
          (placeRefusal_none (fun hcarry => absurd hcarry (by
            rw [(show (s.asked p).carrying = false from hc.not_carrying)]; exact Bool.false_ne_true))
            (not_noPlace hentries hlists)) hc.not_carrying)
    have hw : w = replyTo { s.asked p with
        reservations := s.reservations ++ [{ board := f.sender, ticket := t.toNat, load := load, hold := none }] }
        f.sender t.toNat verdictPending reasonNone 0 := by
      rw [← hv]
    refine ⟨fun hfull hstate => ?_, fun hroom => ⟨fun hstate => ?_, fun hoff hinhibit hinput hstarts => ?_⟩⟩
    · change _ = Host.Outcome.next (replyTo { s.heard f with duty := { s.duty with idle := 0 } } ..)
      rw [hv, hexec, hjudged hstate, pendingTest, if_neg (by exact Nat.not_le.mpr hfull)]
      exact congrArg Host.Outcome.next (settle_replyTo hs p s.reservations ..)
    · have hnot : s.duty.state ≠ .off := by rcases hstate with h | h <;> simp [h]
      rw [hexec, hjudged (hstate.imp id .inl), pendingTest, if_pos (by exact hroom), hw]
      dsimp only
      rw [if_neg (by exact hnot)]
      exact congrArg Host.Outcome.next (settle_replyTo hs p ..)
    · rw [hexec, hjudged (.inr (.inr ⟨hoff, hinhibit⟩)), pendingTest, if_pos (by exact hroom), hw]
      dsimp only
      rw [if_pos (by exact hoff), startEngine_idle (by exact hinput) (by exact hstarts)]
      refine congrArg Host.Outcome.next (settle_moved hs rfl rfl (.inl rfl) (fun _ => rfl) (.inr (.inl ?_)))
      simp [hoff]
  · intro s f t l1 l0 r rest h hrole hs hbody ht hdry hmode hfeeds hentry hentries hlists hcooling horigin hdata hload hopen
      hbreaker w
    obtain ⟨p, hv, hexec⟩ := exec_take_unfed h hrole hbody ht hfeeds
    have hcarry : s.Carries := .inr ⟨hcooling, horigin⟩
    have hjudged : answerTake (s.asked p) f.sender t.toNat (rd2 l1 l0) =
        grantTest (s.asked p) f.sender t.toNat (rd2 l1 l0) :=
      (answerTake_judged (v := s.asked p) (ownRefusal_none hdry hmode (.inl hcarry)) hentry).trans
        (judgeTake_granting (v := s.asked p) (placeRefusal_none (fun _ => hdata) (not_noPlace hentries hlists))
          hcarry.carrying)
    have hw : w = enterReady (s.asked p) false := by
      have hp : s.heard f = { s with peers := p, line := { s.line with phase := .waiting } } := by
        have := congrArg (fun u : State => { u with duty := s.duty }) hv
        rw [heard_eq] at this ⊢
        exact this
      rw [enterReady_from_cooling, if_neg (by simp [State.asked, hopen])]
      change postStatus { s.heard f with pulses := _, duty := _ } = _
      rw [hp]
      rfl
    rw [hexec, hjudged, grantTest, if_pos (by exact hload)]
    dsimp only
    rw [if_pos (by exact hcooling), ← hw]
    have hlist : w.reservations = s.reservations := by rw [hw]; rfl
    rw [reserve, hlist]
    refine congrArg Host.Outcome.next (settle_moved hs ?_ ?_ (.inr hbreaker) ?_ (.inr (.inr ?_)))
    all_goals rw [hw]
    · rfl
    · rfl
    · exact id
    · rfl

/-! ## COMMIT (O21) -/

/-- Whether a COMMIT finds its GRANTED entry (R86). -/
theorem commitMatches_iff {s : State} {board ticket : Nat} : commitMatches s board ticket = true ↔
    ticket ≠ 0 ∧ ∃ e ∈ s.reservations, e.board = board ∧ e.ticket = ticket ∧ e.hold ≠ none := by
  simp [commitMatches, Option.isSome_iff_ne_none, and_assoc]

theorem settle_overcommitTest {s : State} (h : s.Settled) (board ticket : Nat) :
    settle (overcommitTest s board ticket) = overcommitTest s board ticket := by
  unfold overcommitTest
  split
  · exact settle_kept h rfl rfl rfl rfl rfl
  · exact h.settle

theorem feedPlace_kept (s : State) (board load : Nat) :
    (feedPlace s board load).duty.conditions = s.duty.conditions ∧ (feedPlace s board load).inputs = s.inputs ∧
      (feedPlace s board load).duty.brkClosed = s.duty.brkClosed ∧ (feedPlace s board load).duty.runOn = s.duty.runOn ∧
      (feedPlace s board load).duty.state = s.duty.state := by
  unfold feedPlace
  split
  · exact ⟨rfl, rfl, rfl, rfl, rfl⟩
  · split
    · exact ⟨rfl, rfl, rfl, rfl, rfl⟩
    · unfold feedFull
      split <;> exact ⟨rfl, rfl, rfl, rfl, rfl⟩

/-- A COMMIT places the board, records a late one, and tests the headroom that is left (R86, R87). -/
theorem exec_commit_of_place {s : State} {f : RxFrame} {t l1 l0 : Byte} {rest : List Byte} (h : s.Takes f)
    (hrole : s.image.role = some .set) (hs : s.Settled) (hbody : f.body = t :: l1 :: l0 :: rest) {w : State}
    (hw : feedPlace { s.heard f with reservations := withoutBoard f.sender s.reservations } f.sender (rd2 l1 l0) = w) :
    ((t.toNat ≠ 0 ∧ ∃ e ∈ s.reservations, e.board = f.sender ∧ e.ticket = t.toNat ∧ e.hold ≠ none) →
      exec (.commit f) s = .next (overcommitTest w f.sender t.toNat)) ∧
    (¬ (t.toNat ≠ 0 ∧ ∃ e ∈ s.reservations, e.board = f.sender ∧ e.ticket = t.toNat ∧ e.hold ≠ none) →
      exec (.commit f) s = .next
        (overcommitTest (addEvent w (.lateCommit f.sender t.toNat (rd2 l1 l0) s.duty.state)) f.sender t.toNat)) := by
  obtain ⟨hc, hi, hb, hr, hd⟩ :=
    feedPlace_kept { s.heard f with reservations := withoutBoard f.sender s.reservations } f.sender (rd2 l1 l0)
  rw [hw] at hc hi hb hr hd
  simp only [heard_duty, heard_inputs] at hc hi hb hr hd
  have hsettled : w.Settled := hs.of_same hc hi hb (fun h => hr.trans h) (.inl hd)
  have hlate : (addEvent w (.lateCommit f.sender t.toNat (rd2 l1 l0) s.duty.state)).Settled :=
    hsettled.of_same rfl rfl rfl id (.inl rfl)
  have hmatches : commitMatches (s.heard f) f.sender t.toNat = commitMatches s f.sender t.toNat := by
    rw [commitMatches, heard_reservations]; rfl
  rw [exec_commit h hrole hbody, commitFrame, hmatches, heard_reservations, hw, heard_duty]
  constructor
  · intro hm
    rw [if_pos (commitMatches_iff.mpr hm), settle_overcommitTest hsettled]
  · intro hm
    rw [if_neg (fun hc => hm (commitMatches_iff.mp hc)), settle_overcommitTest hlate]

/-- Settles O21: the three courses of R68 for the board that is placed. -/
theorem commitFeedsTheBoard : Obligations.CommitFeedsTheBoard := by
  intro s f t l1 l0 rest h hrole hs hbody board load matched withEvents freed joined renewed turnedAway
  obtain ⟨p, hp⟩ := heard_shape s f
  refine ⟨fun hnot hroom => ?_, fun hfed => ?_, fun hnot hfull => ?_⟩
  · refine exec_commit_of_place h hrole hs hbody (w := joined) ?_
    dsimp only [joined, freed]
    rw [hp, feedPlace, if_neg (by exact ne_true_of_eq_false hnot), if_pos (by exact hroom)]
    rfl
  · refine exec_commit_of_place h hrole hs hbody (w := renewed) ?_
    dsimp only [renewed, freed]
    rw [hp, feedPlace, if_pos (by exact hfed)]
    rfl
  · refine exec_commit_of_place h hrole hs hbody (w := turnedAway) ?_
    dsimp only [turnedAway, freed]
    rw [hp, feedPlace, if_neg (by exact ne_true_of_eq_false hnot), if_neg (by exact Nat.not_lt.mpr hfull)]
    rfl

/-! ## LEFT and RELEASE (O22) -/

/-- The last of both lists to go in UNLOADING makes the set cool (R56). -/
theorem unloadTest_cools {s : State} (hstate : s.duty.state = .unloading) (hfeed : s.duty.feed = [])
    (hlist : s.reservations = []) : unloadTest s = enterCooling s .stopping :=
  if_pos ⟨hstate, hfeed, hlist⟩

/-- While a board is left the set goes on unloading (R56). -/
theorem unloadTest_of_some {s : State} (h : s.duty.feed ≠ [] ∨ s.reservations ≠ []) : unloadTest s = s :=
  if_neg fun ⟨_, hf, hr⟩ => h.elim (fun h => h hf) (fun h => h hr)

/-- The end of unloading settles at once where no BREAKER is present. -/
theorem settle_cooled {s t : State} (h : s.Settled) (hstate : s.duty.state = .unloading)
    (hbreaker : s.present .breaker = false) (hc : t.duty.conditions = s.duty.conditions) (hi : t.inputs = s.inputs)
    (hr : t.duty.runOn = s.duty.runOn) : settle t = t :=
  settle_moved h hc hi (.inr hbreaker) (fun h => hr.trans h) (.inr (.inl (by simp [hstate])))

theorem releaseFrame_of_none {s : State} {board ticket : Nat}
    (h : ¬ ∃ e ∈ s.reservations, e.board = board ∧ e.ticket = ticket) : releaseFrame s board ticket = s := by
  rw [releaseFrame, if_neg]
  simpa using h

theorem releaseFrame_of_some {s : State} {board ticket : Nat}
    (h : ∃ e ∈ s.reservations, e.board = board ∧ e.ticket = ticket) :
    releaseFrame s board ticket = unloadTest { s with reservations := withoutBoard board s.reservations } := by
  obtain ⟨e, he, hb, ht⟩ := h
  have hany : s.reservations.any (fun r => r.board == board && r.ticket == ticket) = true :=
    List.any_eq_true.mpr ⟨e, he, by simp [hb, ht]⟩
  have hboard : s.reservations.any (fun r => r.board == board) = true := List.any_eq_true.mpr ⟨e, he, by simp [hb]⟩
  rw [releaseFrame, if_pos hany, reservationRemove, if_pos hboard]

/-- Settles O22. -/
theorem leftAndReleaseFreeTheBoard : Obligations.LeftAndReleaseFreeTheBoard := by
  intro s f t rest h hrole hs hbody left released cooled holds
  obtain ⟨p, hp⟩ := heard_shape s f
  have hleft := exec_left h hrole hbody
  have hrelease := exec_release h hrole hbody
  refine ⟨fun hstate => ?_, fun hstate hholds => ?_, fun hholds => ?_, fun hstate hbreaker hcool =>
    ⟨fun hfeeds hempty hlist => ?_, fun hsome => ?_, fun hholds hempty hlist => ?_⟩⟩
  · dsimp only [left, cooled]
    rw [hleft, hp, feedRemove_of_not_unloading (by exact hstate)]
    exact congrArg Host.Outcome.next (settle_kept hs rfl rfl rfl rfl rfl)
  · dsimp only [released]
    rw [hrelease, hp, releaseFrame_of_some (by exact hholds), unloadTest_of_not_unloading (by exact hstate)]
    exact congrArg Host.Outcome.next (settle_kept hs rfl rfl rfl rfl rfl)
  · rw [hrelease, hp, releaseFrame_of_none (by exact hholds)]
    exact congrArg Host.Outcome.next (settle_kept hs rfl rfl rfl rfl rfl)
  · dsimp only [left, cooled]
    rw [hleft, hp, feedRemove, if_pos (by exact hfeeds), unloadTest_cools (by exact hstate) (by exact hempty) (by exact hlist),
      enterCooling_timed (by exact hcool)]
    exact congrArg Host.Outcome.next (settle_cooled hs hstate hbreaker rfl rfl rfl)
  · dsimp only [left, cooled]
    rw [hleft, hp, feedRemove]
    split
    · rw [unloadTest_of_some (by exact hsome)]
      exact congrArg Host.Outcome.next (settle_kept hs rfl rfl rfl rfl rfl)
    · next hnot =>
      rw [withoutFeed_of_not_feeds (by exact eq_false_of_ne_true hnot)]
      exact congrArg Host.Outcome.next (settle_kept hs rfl rfl rfl rfl rfl)
  · dsimp only [released, cooled]
    rw [hrelease, hp, releaseFrame_of_some (by exact hholds), unloadTest_cools (by exact hstate) (by exact hempty)
      (by exact hlist), enterCooling_timed (by exact hcool)]
    exact congrArg Host.Outcome.next (settle_cooled hs hstate hbreaker rfl rfl rfl)

end Sys2Proof.Machine
end

section
/-! PROOFS. A STATUS on the line: the peer table (O23), the feed list of a SET (O24), and what runs out with the seconds
(O25). -/
set_option Elab.async false

namespace Sys2Proof.Machine

/-! ## A STATUS received (R20, R22, R29) -/

/-- A station that has filed a STATUS in its peer table. -/
def State.noted (s : State) (sender : Nat) (b : StatusBody) : State := showPeer (endReception s) sender (some b)

theorem statusIn_status (body : List Byte) : statusIn (kindByte .status) body = parseStatus body := rfl

/-- A STATUS that can be read is filed, and handed to the block that its notice goes to. -/
theorem exec_status {s : State} {f : RxFrame} {own : Nat} {b : StatusBody} (hawake : s.awake = true)
    (hfollows : s.follows = true) (hsound : frameSound f = true) (hown : s.image.station = some own)
    (hne : own ≠ f.sender) (hbody : parseStatus f.body = some b) :
    exec (.status f) s = .next (noticeStatus (s.noted f.sender b) f.sender b) := by
  have hduplicate : (endReception s).duplicate f = false := by
    have : (s.image.station == some f.sender) = false := by simp [hown, hne]
    simp [State.duplicate, endReception, setPhase, this]
  have hhears : (endReception s).hears f.sender = true := hears_of_other (s := endReception s) hown hne
  have hpeer : peerFrame (endReception s) (kindByte .status) f = noticeStatus (s.noted f.sender b) f.sender b := by
    rw [peerFrame, statusIn_status, hbody]
    exact if_pos hhears
  have htaken : takenBody (kindByte .status) f.body = some (.status b) := by
    rw [takenBody, kindOf_kindByte]
    exact Option.map_eq_some_iff.mpr ⟨b, hbody, rfl⟩
  have hseen : goodFrameSeen (endReception s) (kindByte .status) f = noticeStatus (s.noted f.sender b) f.sender b := by
    simp only [goodFrameSeen, hduplicate, Bool.false_eq_true, if_false, hpeer, htaken, deliver, ite_self]
  change Host.Outcome.next (receive (kindByte .status) f s) = _
  rw [receive, whenFollowed_of_follows hawake hfollows, if_pos hsound, hseen]

theorem noted_shape (s : State) (sender : Nat) (b : StatusBody) :
    ∃ p, s.noted sender b = { s with peers := p, line := { s.line with phase := .waiting } } := by
  unfold State.noted showPeer
  split
  · exact ⟨_, rfl⟩
  · exact ⟨_, rfl⟩

/-- The table of a station that hears the sender, with the STATUS filed. -/
theorem peers_noted {s : State} {sender : Nat} (h : s.hears sender = true) (b : StatusBody) :
    (s.noted sender b).peers =
      filePeer { station := sender, role := some b.role, fresh := .fresh, since := 0, body := some b } s.peers := by
  have hnamed : ((s.peer sender).getD (newPeer sender)).station = sender := by
    cases hp : s.peer sender with
    | none => rfl
    | some p => simpa using List.find?_some hp
  have hfiled : storeStatus ((s.peer sender).getD (newPeer sender)) b =
      { station := sender, role := some b.role, fresh := .fresh, since := 0, body := some b } := by
    rw [storeStatus, hnamed]
  rw [← hfiled]
  exact congrArg State.peers (if_pos h)

theorem peer_noted_self {s : State} {sender : Nat} (h : s.hears sender = true) (b : StatusBody) :
    (s.noted sender b).peer sender =
      some { station := sender, role := some b.role, fresh := .fresh, since := 0, body := some b } := by
  rw [State.peer, peers_noted h]
  exact find_filePeer_self
    { station := sender, role := some b.role, fresh := .fresh, since := 0, body := some b } s.peers

theorem peer_noted_other {s : State} {sender n : Nat} (h : s.hears sender = true) (b : StatusBody) (hn : n ≠ sender) :
    (s.noted sender b).peer n = s.peer n := by
  rw [State.peer, peers_noted h]
  exact find_filePeer_other (by exact hn) _

theorem noticeStatus_of_unconfigured {s : State} (h : s.station = .unconfigured) (sender : Nat) (b : StatusBody) :
    noticeStatus s sender b = s := by
  have hruns : ∀ r, s.runs r = false := fun r => by simp [State.runs, h]
  unfold noticeStatus
  split
  · exact whenRuns_of_not_runs (hruns .set) _
  · exact whenRuns_of_not_runs (hruns .board) _
  · rfl

theorem peer_of_same {s t : State} (h : t.peers = s.peers) (n : Nat) : t.peer n = s.peer n := by
  rw [State.peer, State.peer, h]

/-- Settles O23: what the notice reaches leaves the peer table alone. -/
theorem statusIsStoredInThePeerTable : Obligations.StatusIsStoredInThePeerTable := by
  intro s f own b hawake hfollows hsound hown hne hbody
  have hhears := hears_of_other hown hne
  have hpeers := ((State.Touches.refl takerParts (s.noted f.sender b)).thenNoticeStatus f.sender b).same .peers (by decide)
  refine ⟨_, exec_status hawake hfollows hsound hown hne hbody, ?_, fun n hn => ?_, fun hstation => ?_⟩
  · rw [peer_of_same hpeers, peer_noted_self hhears]
  · rw [peer_of_same hpeers, peer_noted_other hhears _ hn]
  · obtain ⟨p, hp⟩ := noted_shape s f.sender b
    rw [noticeStatus_of_unconfigured (by rw [hp]; exact hstation), hp]

/-! ## A BOARD's STATUS at a SET (R69, R70) -/

theorem settled_iff {b : BoardStatus} : b.settled = true ↔ b.state = chgCode .idle ∨ b.state = chgCode .locked := by
  simp [BoardStatus.settled]

section
variable {u : State} {board : Nat} {b : BoardStatus}

/-- A listed board that has settled with another set leaves the list and the overflow set (R70). -/
theorem feedStatus_leaves (hfeeds : u.feeds board = true) (hsettled : b.settled = true)
    (haway : (u.image.station == some b.feeding) = false) :
    feedStatus u board b = unloadTest { u with
      duty := { u.duty with
        feed := u.duty.feed.filter (fun e => e.board != board)
        overflow := u.duty.overflow.filter (fun n => n != board) } } := by
  simp only [feedStatus, hfeeds, hsettled, haway, if_true, Bool.not_false, Bool.and_self]
  exact if_pos hfeeds

/-- A listed board that is fed here, or has not settled, has its load refreshed (R70). -/
theorem feedStatus_refreshes (hfeeds : u.feeds board = true)
    (h : (u.image.station == some b.feeding) = true ∨ b.settled = false) :
    feedStatus u board b = feedUpdate u board b.load := by
  rw [feedStatus, if_pos hfeeds, if_neg]
  rcases h with h | h <;> simp [h]

/-- A board that is not listed and does not settle here, or holds a reservation, changes nothing (R69). -/
theorem feedStatus_passes (hfeeds : u.feeds board = false)
    (h : (u.image.station == some b.feeding) = false ∨ b.settled = false ∨
      u.reservations.any (fun r => r.board == board) = true) : feedStatus u board b = u := by
  rw [feedStatus, if_neg (ne_true_of_eq_false hfeeds)]
  refine if_neg ?_
  rcases h with h | h | h <;> simp only [h, Bool.false_and, Bool.and_false, Bool.not_true] <;> exact Bool.false_ne_true

/-- An unlisted board that has settled here is discovered where the list has room, and turned away where it has none
(R68, R69). -/
theorem feedStatus_discovers (hfeeds : u.feeds board = false) (hhere : (u.image.station == some b.feeding) = true)
    (hsettled : b.settled = true) (hlist : u.reservations.any (fun r => r.board == board) = false) :
    feedStatus u board b = if u.duty.feed.length < feedCap then
      addEvent (feedJoin u board b.load) (.feedDiscovered board b.load) else feedFull u board := by
  rw [feedStatus, if_neg (ne_true_of_eq_false hfeeds)]
  exact if_pos (by simp only [hhere, hsettled, hlist, Bool.not_false, Bool.and_self])

end

/-- Settles O24: the courses of R69 and R70. -/
theorem boardStatusKeepsTheFeedList : Obligations.BoardStatusKeepsTheFeedList := by
  intro s f own b hawake hfollows hsound hrun hrole hown hne hs hbody u overflow atRest
  obtain ⟨p, hp⟩ := noted_shape s f.sender (.board b)
  have hexec : exec (.status f) s = .next (settle (feedStatus (s.noted f.sender (.board b)) f.sender b)) := by
    rw [exec_status hawake hfollows hsound hown hne hbody, noticeStatus]
    refine congrArg Host.Outcome.next (dutyEvent_of_runs ?_ ?_ _)
    · rw [hp]; exact hawake
    · rw [hp]; exact runs_iff.mpr ⟨hrun, hrole⟩
  have hstation : ∀ q : State, q.image = s.image → b.feeding = own → (q.image.station == some b.feeding) = true :=
    fun q hq hb => by rw [hq, hown, hb]; simp
  have haway : ∀ q : State, q.image = s.image → b.feeding ≠ own → (q.image.station == some b.feeding) = false :=
    fun q hq hb => by rw [hq, hown]; simpa using fun h => hb h.symm
  have hunsettled : ¬ atRest → b.settled = false := fun h => eq_false_of_ne_true fun hc => h (settled_iff.mp hc)
  have hu : u = s.noted f.sender (.board b) := rfl
  refine ⟨fun hfeeds hhere hrest hlist hroom => ?_, fun hfeeds hhere hrest hlist hfull => ⟨fun hmem => ?_, fun hmem => ?_⟩,
    fun hfeeds hcond => ?_, fun hfeeds hb hrest => ?_, fun hfeeds hcond => ?_⟩
  · rw [hexec, hu, hp, feedStatus_discovers (by exact hfeeds) (hstation _ (by rfl) hhere) (settled_iff.mpr hrest)
      (by simpa using hlist), if_pos (by exact hroom)]
    exact congrArg Host.Outcome.next (settle_kept hs rfl rfl rfl rfl rfl)
  · rw [hexec, hu, hp, feedStatus_discovers (by exact hfeeds) (hstation _ (by rfl) hhere) (settled_iff.mpr hrest)
      (by simpa using hlist), if_neg (by exact Nat.not_lt.mpr hfull), feedFull, if_pos (by simpa using hmem)]
    exact congrArg Host.Outcome.next (settle_kept hs rfl rfl rfl rfl rfl)
  · rw [hexec, hu, hp, feedStatus_discovers (by exact hfeeds) (hstation _ (by rfl) hhere) (settled_iff.mpr hrest)
      (by simpa using hlist), if_neg (by exact Nat.not_lt.mpr hfull), feedFull, if_neg (by simpa using hmem)]
    exact congrArg Host.Outcome.next (settle_kept hs rfl rfl rfl rfl rfl)
  · rw [hexec, hu, hp, feedStatus_passes (by exact hfeeds)
      (by exact hcond.imp (haway _ rfl) (Or.imp hunsettled (by simp)))]
    exact congrArg Host.Outcome.next (settle_kept hs rfl rfl rfl rfl rfl)
  · intro feed left
    have hleaves : feedStatus (s.noted f.sender (.board b)) f.sender b = unloadTest left := by
      dsimp only [left]
      rw [hu, hp]
      exact feedStatus_leaves (by exact hfeeds) (settled_iff.mpr hrest) (haway _ (by rfl) hb)
    refine ⟨fun hcond => ?_, fun hstate hempty hlist hbreaker hcool => ?_⟩
    · have htest : unloadTest left = left := by
        dsimp only [left]
        rw [hu, hp]
        rcases hcond with h | h
        · exact unloadTest_of_not_unloading (by exact h)
        · exact unloadTest_of_some (by exact h)
      rw [hexec, hleaves, htest]
      dsimp only [left]
      rw [hu, hp]
      exact congrArg Host.Outcome.next (settle_kept hs rfl rfl rfl rfl rfl)
    · rw [hexec, hleaves]
      dsimp only [left]
      rw [hu, hp, unloadTest_cools (by exact hstate) (by exact hempty) (by exact hlist),
        enterCooling_timed (by exact hcool)]
      exact congrArg Host.Outcome.next (settle_cooled hs hstate hbreaker rfl rfl rfl)
  · rw [hexec, hu, hp, feedStatus_refreshes (by exact hfeeds) (by exact hcond.imp (hstation _ rfl) hunsettled), feedUpdate]
    exact congrArg Host.Outcome.next (settle_kept hs rfl rfl rfl rfl rfl)

/-! ## Ageing (R23) and the interval of the own STATUS (R25) -/

/-- The one entry of a station decides what is due of it. -/
theorem due_iff {s : State} {n : Nat} {p : Peer} (hp : s.peer n = some p) (hone : ∀ q ∈ s.peers, q.station = n → q = p)
    (g : Freshness) (k : Nat) :
    s.peers.any (fun q => q.station == n && q.fresh == g && decide (k ≤ q.since)) = true ↔ p.fresh = g ∧ k ≤ p.since := by
  have hmem := List.mem_of_find?_eq_some hp
  have hnamed : p.station = n := by simpa using List.find?_some hp
  constructor
  · intro h
    obtain ⟨q, hq, hd⟩ := List.any_eq_true.mp h
    simp only [Bool.and_eq_true, beq_iff_eq, decide_eq_true_eq] at hd
    obtain ⟨⟨hs, hg⟩, hk⟩ := hd
    cases hone q hq hs
    exact ⟨hg, hk⟩
  · rintro ⟨hg, hk⟩
    exact List.any_eq_true.mpr ⟨p, hmem, by simp [hnamed, hg, hk]⟩

theorem peer_gradePeer (s : State) (n m : Nat) (g : Freshness) :
    (gradePeer s n g).peer m = (s.peer m).map (fun p => if p.station = n then { p with fresh := g } else p) := by
  have hkeep : (fun q : Peer => q.station == m) ∘ (fun p : Peer => if p.station = n then { p with fresh := g } else p) =
      fun q => q.station == m := by
    funext q
    simp only [Function.comp]
    split <;> rfl
  rw [State.peer, State.peer, gradePeer, List.find?_map, hkeep]

theorem peer_gradePeer_self {s : State} {n : Nat} {p : Peer} (hp : s.peer n = some p) (g : Freshness) :
    (gradePeer s n g).peer n = some { p with fresh := g } := by
  have hnamed : p.station = n := by simpa using List.find?_some hp
  rw [peer_gradePeer, hp, Option.map_some, if_pos hnamed]

theorem peer_gradePeer_other {s : State} {n m : Nat} (hm : m ≠ n) (g : Freshness) :
    (gradePeer s n g).peer m = s.peer m := by
  rw [peer_gradePeer]
  cases hp : s.peer m with
  | none => rfl
  | some p =>
    have hnamed : p.station = m := by simpa using List.find?_some hp
    rw [Option.map_some, if_neg (by omega)]

/-- The LOST notice of a board that a SET in RUN is told of (R70). -/
theorem noticeLost_of_board {s : State} {n : Nat} {p : Peer} (hp : s.peer n = some p) (hawake : s.awake = true)
    (hs : s.Settled) (hrole : p.role = some .board) (hruns : s.runs .set = true) : noticeLost s n = feedLost s n := by
  rw [noticeLost, hp, if_pos (by simp [hrole]), dutyEvent_of_runs hawake hruns]
  exact settle_kept hs rfl rfl rfl rfl rfl

/-- Any other LOST notice changes nothing (R29). -/
theorem noticeLost_of_other {s : State} {n : Nat} {p : Peer} (hp : s.peer n = some p)
    (h : p.role ≠ some .board ∨ s.runs .set = false) : noticeLost s n = s := by
  rw [noticeLost, hp]
  split
  · next hboard =>
    refine whenRuns_of_not_runs (h.resolve_left fun hne => hne ?_) _
    simpa using hboard
  · rfl

/-- Settles O25. -/
theorem agesAndIntervalsRunOut : Obligations.AgesAndIntervalsRunOut := by
  intro s n hawake
  have hstale : exec (.peerStale n) s = .next (if s.staleDue n then gradePeer s n .stale else s) :=
    congrArg Host.Outcome.next (whenAwake_of_awake hawake _)
  have hlost : exec (.peerLost n) s = .next (if s.peerLostDue n then noticeLost (gradePeer s n .lost) n else s) :=
    congrArg Host.Outcome.next (whenAwake_of_awake hawake _)
  have hstatus : exec .statusIntervalExpiry s = .next (if s.statusDue then postStatus s else s) :=
    congrArg Host.Outcome.next (whenAwake_of_awake hawake _)
  refine ⟨fun p hp hone => ⟨fun hfresh hage => ?_, fun hnot => ?_, fun hfresh hage hs => ?_, fun hnot => ?_⟩,
    fun k b htimer hown hrun => ⟨fun hdue => ?_, fun hearly => ?_⟩, fun h => ?_, fun h => ?_, fun h => ?_⟩
  · have hdue : s.staleDue n = true := (due_iff hp hone .fresh 6).mpr ⟨hfresh, hage⟩
    exact ⟨gradePeer s n .stale, by rw [hstale, if_pos hdue], rfl, peer_gradePeer_self hp _,
      fun m hm => peer_gradePeer_other hm _⟩
  · have hdue : ¬ s.staleDue n = true := fun h => by
      obtain ⟨hg, hk⟩ := (due_iff hp hone .fresh 6).mp h
      rcases hnot with hnot | hnot
      · exact hnot hg
      · omega
    rw [hstale, if_neg hdue]
  · have hdue : s.peerLostDue n = true := (due_iff hp hone .stale 15).mpr ⟨hfresh, hage⟩
    have hself := peer_gradePeer_self hp .lost
    have hgraded : (gradePeer s n .lost).Settled := hs.of_same rfl rfl rfl id (.inl rfl)
    by_cases hboard : p.role = some .board ∧ s.runs .set = true
    · refine ⟨feedLost (gradePeer s n .lost) n, ?_, hself, fun m hm => peer_gradePeer_other hm _, rfl, fun hnot => ?_,
        fun _ _ => rfl⟩
      · rw [hlost, if_pos hdue, noticeLost_of_board hself hawake hgraded hboard.1 hboard.2]
      · exact absurd hboard (fun h => hnot.elim (fun hn => hn h.1) (fun hn => by simp [hn] at h))
    · have hother : p.role ≠ some .board ∨ s.runs .set = false := by
        by_cases hr : p.role = some .board
        · exact .inr (eq_false_of_ne_true fun h => hboard ⟨hr, h⟩)
        · exact .inl hr
      refine ⟨gradePeer s n .lost, ?_, hself, fun m hm => peer_gradePeer_other hm _, rfl, fun _ => rfl,
        fun h1 h2 => absurd ⟨h1, h2⟩ hboard⟩
      rw [hlost, if_pos hdue, noticeLost_of_other hself hother]
  · have hdue : ¬ s.peerLostDue n = true := fun h => by
      obtain ⟨hg, hk⟩ := (due_iff hp hone .stale 15).mp h
      rcases hnot with hnot | hnot
      · exact hnot hg
      · omega
    rw [hlost, if_neg hdue]
  · have hposts : s.posts = !s.line.listenOnly := by simp [State.posts, hawake, hrun]
    rw [hstatus, if_pos (by simp [State.statusDue, hrun, htimer, hdue]), postStatus, hown]
    dsimp only
    rw [if_pos hrun, hposts]
    cases s.line.listenOnly <;> rfl
  · rw [hstatus, if_neg (by simp [State.statusDue, htimer, hearly])]
  · rw [State.ownStatus, h]; rfl
  · rw [State.ownStatus, h]; rfl
  · rw [State.ownStatus, h]; rfl

end Sys2Proof.Machine
end

section
/-! PROOFS. The pulses (O42), the delivery sessions of a SET (O46), the deliveries of a TANKER (O47), and its requests (O58). -/
set_option Elab.async false

namespace Sys2Proof.Machine

/-! ## Pulses (R121) -/

theorem counts_of_unconfigured {s : State} (hmain : s.mainOn = true) (h : s.station = .unconfigured) (r : Role) :
    s.counts r = true := by
  simp [State.counts, hmain, h]

theorem counts_of_runs {s : State} {r : Role} (hmain : s.mainOn = true) (h : s.runs r = true) : s.counts r = true := by
  simp [State.counts, hmain, h]

theorem not_counts {s : State} {r : Role} (h : s.mainOn = false ∨ (s.station = .run ∧ s.image.role ≠ some r)) :
    s.counts r = false := by
  rcases h with h | ⟨hrun, hrole⟩
  · simp [State.counts, h]
  · simp [State.counts, State.runs, hrun, hrole]

theorem whenRuns_of_asleep {s : State} (h : s.awake = false) (r : Role) (f : State → State) : whenRuns r s f = s := by
  simp [whenRuns, h]

theorem not_awake_of_resetHeld {s : State} (h : s.resetHeld = true) : s.awake = false := by simp [State.awake, h]

/-- A TANKER's count where no run is to begin. -/
theorem dispensePulse_counted {s : State} (hcounts : s.counts .tanker = true)
    (h : ¬ (s.awake = true ∧ s.runs .tanker = true ∧
      ({ s with tanker := { s.tanker with pulses := incTo pulseTop s.tanker.pulses } } : State).dispenseCl ≠
        s.dispenseCl)) :
    dispensePulse s = { s with tanker := { s.tanker with pulses := incTo pulseTop s.tanker.pulses } } := by
  rw [dispensePulse, if_pos hcounts]
  exact if_neg (by simpa [and_assoc] using h)

/-- A change of the dispense cl in a TANKER in RUN (R145). -/
theorem dispensePulse_moves {s : State} (hawake : s.awake = true) (hruns : s.runs .tanker = true)
    (hmoved : ({ s with tanker := { s.tanker with pulses := incTo pulseTop s.tanker.pulses } } : State).dispenseCl ≠
        s.dispenseCl) :
    dispensePulse s = { s with
      tanker := { s.tanker with
        pulses := incTo pulseTop s.tanker.pulses, run := runAfter s s.dispenseCl } } := by
  have hmain : s.mainOn = true := (awake_iff.mp hawake).1
  rw [dispensePulse, if_pos (counts_of_runs hmain hruns)]
  exact if_pos (by simpa [hawake, hruns] using hmoved)

/-- Settles O42. -/
theorem pulsesAreCounted : Obligations.PulsesAreCounted := by
  intro s burned filled drawn
  refine ⟨fun hmain hstation => ⟨?_, ?_, ?_⟩, fun hmain hruns => ⟨?_, fun hreset => ?_, fun hreset hs hburn => ?_⟩,
    fun h => ⟨?_, ?_⟩, fun h => ?_, fun hawake hruns => ⟨fun hsame => ?_, fun hmoved => ⟨fun hrun hstate => ?_,
      fun r hrun => ?_, fun hrun hstate => ?_⟩⟩⟩
  · change Host.Outcome.next (burnPulse s) = _
    rw [burnPulse, if_pos (counts_of_unconfigured hmain hstation .set)]
    exact congrArg Host.Outcome.next (whenRuns_of_not_runs (s := burned) (not_runs_of_unconfigured hstation .set) _)
  · exact congrArg Host.Outcome.next (if_pos (counts_of_unconfigured hmain hstation .set))
  · exact congrArg Host.Outcome.next (dispensePulse_counted (counts_of_unconfigured hmain hstation .tanker)
      fun h => by simp [not_runs_of_unconfigured hstation] at h)
  · exact congrArg Host.Outcome.next (if_pos (counts_of_runs hmain hruns))
  · change Host.Outcome.next (burnPulse s) = _
    rw [burnPulse, if_pos (counts_of_runs hmain hruns)]
    exact congrArg Host.Outcome.next (whenRuns_of_asleep (s := burned) (not_awake_of_resetHeld hreset) .set _)
  · have hawake : s.awake = true := awake_iff.mpr ⟨hmain, hreset⟩
    change Host.Outcome.next (burnPulse s) = _
    rw [burnPulse, if_pos (counts_of_runs hmain hruns), dutyEvent_of_runs (by exact hawake) (by exact hruns),
      clearCondition_of_absent (by exact hburn)]
    exact congrArg Host.Outcome.next (settle_kept hs rfl rfl rfl rfl rfl)
  · exact congrArg Host.Outcome.next (if_neg (by simp [not_counts h]))
  · exact congrArg Host.Outcome.next (if_neg (by simp [not_counts h]))
  · exact congrArg Host.Outcome.next (if_neg (by simp [not_counts h]))
  · exact congrArg Host.Outcome.next (dispensePulse_counted (counts_of_runs (awake_iff.mp hawake).1 hruns)
      fun h => h.2.2 hsame)
  · have hafter : runAfter s s.dispenseCl = some { start := s.stationSeconds, before := s.dispenseCl, quiet := 0 } := by
      rw [runAfter, hrun]
      exact if_pos (by simpa [State.unbooked] using hstate)
    change Host.Outcome.next (dispensePulse s) = _
    rw [dispensePulse_moves hawake hruns hmoved, hafter]
    rfl
  · have hafter : runAfter s s.dispenseCl = some { r with quiet := 0 } := by rw [runAfter, hrun]
    change Host.Outcome.next (dispensePulse s) = _
    rw [dispensePulse_moves hawake hruns hmoved, hafter]
    rfl
  · have hafter : runAfter s s.dispenseCl = s.tanker.run := by
      rw [runAfter, hrun]
      exact if_neg (by rcases hstate with h | h <;> simp [State.unbooked, h])
    change Host.Outcome.next (dispensePulse s) = _
    rw [dispensePulse_moves hawake hruns hmoved, hafter]
    rfl

/-! ## The delivery session of a SET (R136 to R141) -/

section
variable {s : State}

theorem inletWatchStep_eq (hawake : s.awake = true) (hruns : s.runs .set = true) :
    inletWatchStep s = if s.watchDue then endWatch s else s := whenRuns_of_runs hawake hruns _

theorem quietCountStep_eq (hawake : s.awake = true) (hruns : s.runs .set = true) :
    quietCountStep s = if s.quietDue then quietMove s else s := whenRuns_of_runs hawake hruns _

theorem settleTimerStep_eq (hawake : s.awake = true) (hruns : s.runs .set = true) :
    settleTimerStep s = if s.settleDue then endSettling s else s := whenRuns_of_runs hawake hruns _

theorem watchDue_iff {w : Watch} (h : s.delivery.watch = some w) : s.watchDue = true ↔ 60 ≤ w.age := by
  simp [State.watchDue, h]

theorem endWatch_of_rise {w : Watch} (h : s.delivery.watch = some w)
    (hrise : watchRise ≤ diff32 s.inletCl w.anchor.inlet) :
    endWatch s = { s with
      delivery := { s.delivery with watch := none, session := some (openedOn w.anchor none none) } } := by
  simp only [endWatch, h]
  exact if_pos hrise

theorem endWatch_of_less {w : Watch} (h : s.delivery.watch = some w)
    (hrise : diff32 s.inletCl w.anchor.inlet < watchRise) :
    endWatch s = { s with delivery := { s.delivery with watch := none } } := by
  simp only [endWatch, h]
  exact if_neg (Nat.not_le.mpr hrise)

/-- The quiet count that moves a session moves it on (R137). -/
theorem quietCountStep_moves (hawake : s.awake = true) (hruns : s.runs .set = true) {x : Session} {p : Phase}
    (h : s.delivery.session = some x) (hnext : quietNext x = some p) :
    quietCountStep s = setSession s (some { x with phase := p, settle := if p = .settling then 0 else x.settle }) := by
  rw [quietCountStep_eq hawake hruns, if_pos (by simp [State.quietDue, h, hnext]), quietMove, h]
  simp only [hnext]

theorem quietCountStep_waits (hawake : s.awake = true) (hruns : s.runs .set = true) {x : Session}
    (h : s.delivery.session = some x) (hnext : quietNext x = none) : quietCountStep s = s := by
  rw [quietCountStep_eq hawake hruns, if_neg (by simp [State.quietDue, h, hnext])]

theorem quietNext_opened {x : Session} (hphase : x.phase = .opened) (hquiet : 120 ≤ x.quiet) :
    quietNext x = some (if x.tanker = none then .settling else .quiet) := by
  rw [quietNext, hphase]
  exact if_pos hquiet

theorem quietNext_quiet {x : Session} (hphase : x.phase = .quiet) (hquiet : 1800 ≤ x.quiet) :
    quietNext x = some .settling := by
  rw [quietNext, hphase]
  exact if_pos hquiet

theorem quietNext_none {x : Session}
    (h : (x.phase = .opened ∧ x.quiet < 120) ∨ (x.phase = .quiet ∧ x.quiet < 1800) ∨ x.phase = .settling) :
    quietNext x = none := by
  rcases h with ⟨hp, hq⟩ | ⟨hp, hq⟩ | hp
  · rw [quietNext, hp]; exact if_neg (Nat.not_le.mpr hq)
  · rw [quietNext, hp]; exact if_neg (Nat.not_le.mpr hq)
  · rw [quietNext, hp]

end

/-! ### The verdict (R139 to R141) -/

/-- The rise is that of two LIVE contents, and 0 otherwise (R140, log 43). -/
theorem riseOf_contentIn {m n : ContentMode} {b a : Nat} {rise : Int}
    (hlive : m = .live ∧ n = .live → rise = (a : Int) - b) (hnot : ¬ (m = .live ∧ n = .live) → rise = 0) :
    riseOf (contentIn m b) (contentIn n a) = rise := by
  by_cases hm : m = .live
  · by_cases hn : n = .live
    · rw [contentIn, contentIn, if_pos hm, if_pos hn, hlive ⟨hm, hn⟩]; rfl
    · rw [contentIn, contentIn, if_pos hm, if_neg hn, hnot fun h => hn h.2]; rfl
  · rw [contentIn, if_neg hm, hnot fun h => hm h.1]; rfl

/-- The level check stands on two LIVE contents and the larger tolerance (R140). -/
theorem levelCheckOf_contentIn {m n : ContentMode} {b a tolerance level : Nat} {variance : Int}
    (hnot : ¬ (m = .live ∧ n = .live) → level = levelUnavailable)
    (hok : m = .live ∧ n = .live → variance.natAbs ≤ tolerance → level = levelOk)
    (hoff : m = .live ∧ n = .live → tolerance < variance.natAbs → level = levelMismatch) :
    levelCheckOf (contentIn m b) (contentIn n a) variance tolerance = level := by
  have hboth : (contentIn m b).isSome = true ∧ (contentIn n a).isSome = true ↔ m = .live ∧ n = .live := by
    simp only [contentIn]
    split <;> split <;> simp [*]
  rw [levelCheckOf]
  by_cases hl : m = .live ∧ n = .live
  · rw [if_pos (hboth.mpr hl)]
    split
    · next h => exact (hok hl h).symm
    · next h => exact (hoff hl (Nat.not_le.mp h)).symm
  · rw [if_neg fun h => hl (hboth.mp h)]
    exact (hnot hl).symm

/-- The meter check stands on the docket's figure and the larger tolerance (R141). -/
theorem meterCheckOf_eq {dispensed : Option Nat} {inlet meter : Nat} (hnone : dispensed = none → meter = meterNoDocket)
    (hok : ∀ d, dispensed = some d → ((inlet : Int) - d).natAbs ≤ max (d * 5 / 1000) 200 → meter = meterOk)
    (hoff : ∀ d, dispensed = some d → max (d * 5 / 1000) 200 < ((inlet : Int) - d).natAbs → meter = meterMismatch) :
    meterCheckOf dispensed inlet = meter := by
  cases hd : dispensed with
  | none => exact (hnone hd).symm
  | some d =>
    rw [meterCheckOf]
    split
    · next h => exact (hok d hd h).symm
    · next h => exact (hoff d hd (Nat.not_le.mp h)).symm

/-- Settles O46. -/
theorem deliverySessionsEndInAVerdict : Obligations.DeliverySessionsEndInAVerdict := by
  constructor
  · intro s hawake hruns
    refine ⟨fun w hw => ⟨fun hage hrise => ?_, fun hage hrise => ?_, fun hage => ?_⟩, fun hw => ?_, fun x hx => ?_⟩
    · change Host.Outcome.next (inletWatchStep s) = _
      rw [inletWatchStep_eq hawake hruns, if_pos ((watchDue_iff hw).mpr hage), endWatch_of_rise hw hrise]
      rfl
    · change Host.Outcome.next (inletWatchStep s) = _
      rw [inletWatchStep_eq hawake hruns, if_pos ((watchDue_iff hw).mpr hage), endWatch_of_less hw hrise]
    · change Host.Outcome.next (inletWatchStep s) = _
      rw [inletWatchStep_eq hawake hruns, if_neg fun h => Nat.not_le.mpr hage ((watchDue_iff hw).mp h)]
    · change Host.Outcome.next (inletWatchStep s) = _
      rw [inletWatchStep_eq hawake hruns, if_neg (by simp [State.watchDue, hw])]
    · intro moved
      refine ⟨fun hphase hquiet => ⟨fun htanker => ?_, fun htanker => ?_⟩, fun hphase hquiet => ?_, fun h => ?_⟩
      · change Host.Outcome.next (quietCountStep s) = _
        rw [quietCountStep_moves hawake hruns hx (quietNext_opened hphase hquiet), if_neg htanker]
        rfl
      · change Host.Outcome.next (quietCountStep s) = _
        rw [quietCountStep_moves hawake hruns hx (quietNext_opened hphase hquiet), if_pos htanker]
        rfl
      · change Host.Outcome.next (quietCountStep s) = _
        rw [quietCountStep_moves hawake hruns hx (quietNext_quiet hphase hquiet)]
        rfl
      · exact congrArg Host.Outcome.next (quietCountStep_waits hawake hruns hx (quietNext_none h))
  · intro s x hawake hruns hx inlet burned live
    have hdue : s.settleDue = true ↔ x.phase = .settling ∧ 60 ≤ x.settle := by simp [State.settleDue, hx]
    refine ⟨fun hnot => ?_, fun hphase hsettle rise level meter hrise hrise0 hlevel0 hlevel1 hlevel2 hmeter0 hmeter1 hmeter2 => ?_⟩
    · change Host.Outcome.next (settleTimerStep s) = _
      rw [settleTimerStep_eq hawake hruns, if_neg fun h => ?_]
      obtain ⟨hp, hs⟩ := hdue.mp h
      rcases hnot with hn | hn
      · exact hn hp
      · omega
    · intro recorded
      have hstep : exec .settleTimerExpiry s = .next (settleSession s x) := by
        change Host.Outcome.next (settleTimerStep s) = _
        rw [settleTimerStep_eq hawake hruns, if_pos (hdue.mpr ⟨hphase, hsettle⟩), endSettling, hx]
      have hr := riseOf_contentIn (b := x.anchor.content) (a := s.tank.reported) hrise hrise0
      have hl := levelCheckOf_contentIn (b := x.anchor.content) (a := s.tank.reported) hlevel0 hlevel1 hlevel2
      have hm := meterCheckOf_eq hmeter0 hmeter1 hmeter2
      have hverdict : addRecord s (.delivery (verdictOf s x)) = recorded := by
        simp only [verdictOf, hr, levelTolerance]
        rw [hm, hl]
        rfl
      have hfields : (verdictOf s x).meterCheck = meter ∧ (verdictOf s x).levelCheck = level ∧
          (verdictOf s x).inlet = inlet ∧ (verdictOf s x).rise = rise := by
        refine ⟨hm, ?_, rfl, hr⟩
        simp only [verdictOf, hr, levelTolerance]
        exact hl
      obtain ⟨hmf, hlf, hif, hrf⟩ := hfields
      refine ⟨fun tanker docket htanker hdocket => ?_, fun htanker => ?_⟩
      · rw [hstep, settleSession, htanker, hdocket]
        dsimp only
        rw [hverdict, hmf, hlf, hif, hrf]
        rfl
      · rw [hstep, settleSession, htanker]
        dsimp only
        rw [hverdict]
        rfl

/-! ## The deliveries of a TANKER (R143 to R146) -/

theorem exec_deliverAck {s : State} {f : RxFrame} {d1 d0 a : Byte} {rest : List Byte} (h : s.Takes f)
    (hrole : s.image.role = some .tanker) (hbody : f.body = d1 :: d0 :: a :: rest) :
    exec (.deliverAck f) s = .next (deliverAckFrame (s.heard f) f.sender (rd2 d1 d0) a.toNat) := by
  have hreceive := receive_of_takes h (k := .deliverAck) (by decide) (b := .deliverAck (rd2 d1 d0) a.toNat)
    (by rw [hbody]; rfl)
  exact congrArg Host.Outcome.next (hreceive.trans (deliver_to_tanker h hrole fun t => deliverAckFrame t f.sender (rd2 d1 d0) a.toNat))

theorem exec_deliverResult {s : State} {f : RxFrame} {d1 d0 m l i3 i2 i1 i0 r3 r2 r1 r0 : Byte} {rest : List Byte}
    (h : s.Takes f) (hrole : s.image.role = some .tanker)
    (hbody : f.body = d1 :: d0 :: m :: l :: i3 :: i2 :: i1 :: i0 :: r3 :: r2 :: r1 :: r0 :: rest) :
    exec (.deliverResult f) s = .next (deliverResultFrame (s.heard f) f.sender (rd2 d1 d0) m.toNat l.toNat
      (rd4 i3 i2 i1 i0) (signed32 (rd4 r3 r2 r1 r0))) := by
  have hreceive := receive_of_takes h (k := .deliverResult) (by decide)
    (b := .deliverResult (rd2 d1 d0) m.toNat l.toNat (rd4 i3 i2 i1 i0) (signed32 (rd4 r3 r2 r1 r0))) (by rw [hbody]; rfl)
  exact congrArg Host.Outcome.next (hreceive.trans (deliver_to_tanker h hrole fun t =>
    deliverResultFrame t f.sender (rd2 d1 d0) m.toNat l.toNat (rd4 i3 i2 i1 i0) (signed32 (rd4 r3 r2 r1 r0))))

section
variable {u : State} {o : OpenDelivery} {sender number : Nat}

/-- A DELIVER_ACK that the open delivery does not wait for is ignored (R143). -/
theorem deliverAckFrame_ignores (ho : u.tanker.delivery = some o) {answer : Nat}
    (h : ¬ (u.tanker.state = .opening ∧ o.target = sender ∧ o.docket = number) ∨ 1 < answer) :
    deliverAckFrame u sender number answer = u := by
  rw [deliverAckFrame, ho]
  split
  · next hstate heq =>
    cases heq
    split
    · next hmine =>
      rcases h with h | h
      · exact absurd ⟨hstate, hmine⟩ h
      · rw [if_neg (by simp only [ackReady]; omega), if_neg (by simp only [ackBusy]; omega)]
    · rfl
  · rfl

/-- The DELIVER_ACK that the open delivery waits for (R143). -/
theorem deliverAckFrame_mine (ho : u.tanker.delivery = some o)
    (h : u.tanker.state = .opening ∧ o.target = sender ∧ o.docket = number) (answer : Nat) :
    deliverAckFrame u sender number answer =
      if answer = ackReady then { u with tanker := { u.tanker with state := .dispensing } }
      else if answer = ackBusy then endDelivery u (undone o (dispensedSoFar u o) .busy)
      else u := by
  rw [deliverAckFrame, h.1, ho]
  exact if_pos h.2

theorem deliverResultFrame_ignores (ho : u.tanker.delivery = some o) {m l i : Nat} {rise : Int}
    (h : ¬ (u.tanker.state = .closing ∧ o.target = sender ∧ o.docket = number)) :
    deliverResultFrame u sender number m l i rise = u := by
  rw [deliverResultFrame, ho]
  split
  · next hstate heq =>
    cases heq
    exact if_neg fun hmine => h ⟨hstate, hmine⟩
  · rfl

theorem deliverResultFrame_mine (ho : u.tanker.delivery = some o) {m l i : Nat} {rise : Int}
    (h : u.tanker.state = .closing ∧ o.target = sender ∧ o.docket = number) :
    deliverResultFrame u sender number m l i rise = endDelivery u
      { docket := o.docket, target := o.target, dispensed := o.dispensed.getD 0, outcome := .done,
        meterCheck := some m, levelCheck := some l, inlet := some i, rise := some rise } := by
  rw [deliverResultFrame, h.1, ho]
  exact if_pos h.2

theorem openingDue_iff (ho : u.tanker.delivery = some o) :
    u.openingDue = true ↔ u.tanker.state = .opening ∧ 2 ≤ o.timer := by
  rw [State.openingDue, ho]
  cases u.tanker.state <;> simp

theorem repeatDue_iff (ho : u.tanker.delivery = some o) :
    u.repeatDue = true ↔ u.tanker.state = .closing ∧ 90 ≤ o.timer ∧ o.again = false := by
  rw [State.repeatDue, ho]
  cases u.tanker.state <;> simp

theorem resultDue_iff (ho : u.tanker.delivery = some o) :
    u.resultDue = true ↔ u.tanker.state = .closing ∧ 180 ≤ o.timer := by
  rw [State.resultDue, ho]
  cases u.tanker.state <;> simp

theorem runDue_iff {r : UnbookedRun} (hr : u.tanker.run = some r) : u.runDue = true ↔ 120 ≤ r.quiet := by
  simp [State.runDue, hr]

end

/-- Settles O47. -/
theorem tankerDeliveriesEndInADocket : Obligations.TankerDeliveriesEndInADocket := by
  constructor
  · intro s f o h hrole ho u ended
    obtain ⟨p, hp⟩ := heard_shape s f
    have hu : u = { s with peers := p, line := { s.line with phase := .waiting } } := hp
    refine ⟨fun d1 d0 a rest hbody => ?_, fun d1 d0 m l i3 i2 i1 i0 r3 r2 r1 r0 rest hbody => ?_⟩
    · intro mine
      have hexec := exec_deliverAck h hrole hbody
      rw [hp] at hexec
      refine ⟨fun hmine ha => ?_, fun hmine ha => ?_, fun hnot => ?_⟩
      · rw [hexec, deliverAckFrame_mine (by exact ho) (by exact hmine), if_pos ha, hu]
      · dsimp only [ended]
        rw [hexec, deliverAckFrame_mine (by exact ho) (by exact hmine), if_neg (by simp [ha]), if_pos ha, hu]
        rfl
      · rw [hexec, deliverAckFrame_ignores (by exact ho) (by exact hnot), hu]
    · intro mine
      have hexec := exec_deliverResult h hrole hbody
      rw [hp] at hexec
      refine ⟨fun hmine => ?_, fun hnot => ?_⟩
      · dsimp only [ended]
        rw [hexec, deliverResultFrame_mine (by exact ho) (by exact hmine), hu]
        rfl
      · rw [hexec, deliverResultFrame_ignores (by exact ho) (by exact hnot), hu]
  · intro s hawake hruns
    have hrunEnd : exec .unbookedRunEnd s = .next (if s.runDue then endRun s else s) :=
      congrArg Host.Outcome.next (whenRuns_of_runs hawake hruns _)
    have hopening : exec .openingTimeout s = .next (if s.openingDue then openingExpired s else s) :=
      congrArg Host.Outcome.next (whenRuns_of_runs hawake hruns _)
    have hrepeat : exec .docketRepeat s = .next (if s.repeatDue then docketAgain s else s) :=
      congrArg Host.Outcome.next (whenRuns_of_runs hawake hruns _)
    have hmissing : exec .resultMissing s = .next (if s.resultDue then resultLost s else s) :=
      congrArg Host.Outcome.next (whenRuns_of_runs hawake hruns _)
    refine ⟨fun r hr => ⟨fun hquiet => ?_, fun hquiet => ?_⟩, fun hr => ?_, fun o ho => ?_⟩
    · rw [hrunEnd, if_pos ((runDue_iff hr).mpr hquiet), endRun, hr]
    · rw [hrunEnd, if_neg fun h => Nat.not_le.mpr hquiet ((runDue_iff hr).mp h)]
    · rw [hrunEnd, if_neg (by simp [State.runDue, hr])]
    · intro ended
      refine ⟨fun hstate htimer htries => ?_, fun hstate htimer htries => ?_, fun hnot => ?_, fun hstate htimer hagain => ?_,
        fun hnot => ?_, fun hstate htimer => ?_, fun hnot => ?_⟩
      · rw [hopening, if_pos ((openingDue_iff ho).mpr ⟨hstate, htimer⟩), openingExpired, ho]
        exact congrArg Host.Outcome.next (if_pos htries)
      · rw [hopening, if_pos ((openingDue_iff ho).mpr ⟨hstate, htimer⟩), openingExpired, ho]
        exact congrArg Host.Outcome.next (if_neg (Nat.not_lt.mpr htries))
      · rw [hopening, if_neg fun h => ?_]
        obtain ⟨hs, ht⟩ := (openingDue_iff ho).mp h
        rcases hnot with hn | hn
        · exact hn hs
        · omega
      · rw [hrepeat, if_pos ((repeatDue_iff ho).mpr ⟨hstate, htimer, hagain⟩), docketAgain, ho]
        rfl
      · rw [hrepeat, if_neg fun h => ?_]
        obtain ⟨hs, ht, ha⟩ := (repeatDue_iff ho).mp h
        rcases hnot with hn | hn | hn
        · exact hn hs
        · omega
        · simp [hn] at ha
      · rw [hmissing, if_pos ((resultDue_iff ho).mpr ⟨hstate, htimer⟩), resultLost, ho]
        rfl
      · rw [hmissing, if_neg fun h => ?_]
        obtain ⟨hs, ht⟩ := (resultDue_iff ho).mp h
        rcases hnot with hn | hn
        · exact hn hs
        · omega

/-! ## Requests (R187) -/

section
variable {s : State} {r : Role} {a b c d : Byte} {act : Nat → State → Answer}

theorem request_of_unconfigured (h : s.station = .unconfigured) :
    request r [a, b, c, d] act s = refuse .state s := if_neg (by simp [h])

theorem request_of_other_role (hrun : s.station = .run) (hrole : s.image.role ≠ some r) :
    request r [a, b, c, d] act s = refuse .role s := (if_pos hrun).trans (if_neg hrole)

theorem request_of_runs (h : s.runs r = true) : request r [a, b, c, d] act s = act (rd4 a b c d) s := by
  obtain ⟨hrun, hrole⟩ := runs_iff.mp h
  exact (if_pos hrun).trans (if_pos hrole)

end

/-- The delivery that begins, an unbooked run having ended first (R143, R145). -/
theorem beginDelivery_of_run {s : State} {run : UnbookedRun} (h : s.tanker.run = some run) (target : Nat) :
    beginDelivery s target = post
      { s with
          records := appendTo s.records s.stationSeconds s.powerUps
            (.event (.unbookedDispense ((s.dispenseCl + two32 - run.before) % two32) run.start))
          tanker := { s.tanker with
            state := .opening, nextDocket := nextNumber 65535 s.tanker.nextDocket, run := none
            delivery := some
              { target := target, docket := s.tanker.nextDocket, begin := s.dispenseCl, attempts := 1, timer := 0,
                again := false, dispensed := none } } }
      target (.deliverOpen s.tanker.nextDocket) := by
  simp only [beginDelivery, endRun, h]
  rfl

theorem beginDelivery_of_none {s : State} (h : s.tanker.run = none) (target : Nat) :
    beginDelivery s target = post
      { s with
          tanker := { s.tanker with
            state := .opening, nextDocket := nextNumber 65535 s.tanker.nextDocket, run := none
            delivery := some
              { target := target, docket := s.tanker.nextDocket, begin := s.dispenseCl, attempts := 1, timer := 0,
                again := false, dispensed := none } } }
      target (.deliverOpen s.tanker.nextDocket) := by
  simp only [beginDelivery, endRun, h]

/-- Settles O58. -/
theorem tankerRequestsAreAnswered : Obligations.TankerRequestsAreAnswered := by
  intro s a b c d hl v begins ends loads replied
  have hbegin : exec begins s = .next (let w := request .tanker [a, b, c, d] deliveryBeginAct s
      w.state.replied 8 w.code w.payload) := congrArg Host.Outcome.next (takeCommand_of_listens hl 8 _)
  have hend : exec ends s = .next (let w := request .tanker [a, b, c, d] (fun _ => deliveryEndAct) s
      w.state.replied 8 w.code w.payload) := congrArg Host.Outcome.next (takeCommand_of_listens hl 8 _)
  have hload : exec loads s = .next (let w := request .tanker [a, b, c, d] loadAct s
      w.state.replied 8 w.code w.payload) := congrArg Host.Outcome.next (takeCommand_of_listens hl 8 _)
  refine ⟨fun hstation => ⟨?_, ?_, ?_⟩, fun hrun hrole => ⟨?_, ?_, ?_⟩, fun hruns => ⟨?_, fun hrange => ?_,
    fun hlow hhigh hother => ⟨fun hbusy => ?_, fun hidle => ⟨fun hnone => ?_, fun run hrun => ?_⟩⟩, fun hstate => ?_,
    fun o hstate ho => ?_⟩⟩
  · rw [hbegin, request_of_unconfigured hstation]; rfl
  · rw [hend, request_of_unconfigured hstation]; rfl
  · rw [hload, request_of_unconfigured hstation]; rfl
  · rw [hbegin, request_of_other_role hrun hrole]; rfl
  · rw [hend, request_of_other_role hrun hrole]; rfl
  · rw [hload, request_of_other_role hrun hrole]; rfl
  · rw [hload, request_of_runs hruns]; rfl
  · rw [hbegin, request_of_runs hruns, deliveryBeginAct, if_pos hrange]; rfl
  · have hfits : ¬ (v = 0 ∨ 30 < v ∨ s.image.station = some v) := by
      rintro (h | h | h)
      · omega
      · omega
      · exact hother h
    rw [hbegin, request_of_runs hruns, deliveryBeginAct, if_neg hfits, if_pos hbusy]; rfl
  · have hfits : ¬ (v = 0 ∨ 30 < v ∨ s.image.station = some v) := by
      rintro (h | h | h)
      · omega
      · omega
      · exact hother h
    rw [hbegin, request_of_runs hruns, deliveryBeginAct, if_neg hfits, if_neg (by simp [hidle]),
      beginDelivery_of_none hnone]
    rfl
  · have hfits : ¬ (v = 0 ∨ 30 < v ∨ s.image.station = some v) := by
      rintro (h | h | h)
      · omega
      · omega
      · exact hother h
    rw [hbegin, request_of_runs hruns, deliveryBeginAct, if_neg hfits, if_neg (by simp [hidle]),
      beginDelivery_of_run hrun]
    rfl
  · rw [hend, request_of_runs hruns, deliveryEndAct, if_neg hstate]; rfl
  · rw [hend, request_of_runs hruns, deliveryEndAct, if_pos hstate, closeDelivery, ho]; rfl

end Sys2Proof.Machine
end

section
/-! PROOFS. The periods of a SET (O48) and the apportionment of their fuel (O49). -/
set_option Elab.async false

namespace Sys2Proof.Machine

/-! ## What posting the ALLOTs leaves -/

theorem post_shape (s : State) (dest : Nat) (b : Body) :
    ∃ l r, post s dest b = { s with line := l, records := r } := ⟨_, _, rfl⟩

/-- The ALLOTs change the line and the records alone. -/
theorem postAllots_shape (period : Nat) (lines : List ClaimLine) (s : State) :
    ∃ l r, lines.foldl (postAllot period) s = { s with line := l, records := r } := by
  induction lines generalizing s with
  | nil => exact ⟨s.line, s.records, rfl⟩
  | cons x lines ih =>
    obtain ⟨l, r, h⟩ := ih (postAllot period s x)
    exact ⟨l, r, h⟩

/-- A frame other than a STATUS finds its place in a queue with room (R11). -/
theorem post_of_room {s : State} {dest : Nat} {b : Body} (hposts : s.posts = true) (hb : b.kind ≠ .status)
    (hroom : s.line.queue.length < txCap) :
    post s dest b = { s with line := { s.line with queue := queueInsert (newFrame dest b) s.line.queue } } := by
  have hf : (newFrame dest b).isStatus = false := by simp [newFrame_isStatus, hb]
  have hline : acceptFrame s.line (newFrame dest b) =
      { s.line with queue := queueInsert (newFrame dest b) s.line.queue } := by
    simp [acceptFrame, hf, hroom]
  have hrefuses : refusesFrame s.line (newFrame dest b) = false := by simp [refusesFrame, Nat.not_le.mpr hroom]
  simp [post, hposts, hline, hrefuses]

/-- With room for all of them every ALLOT is queued and nothing is recorded (R153). -/
theorem postAllots_of_room {period : Nat} {lines : List ClaimLine} {s : State} (hposts : s.posts = true)
    (hroom : s.line.queue.length + lines.length ≤ txCap) :
    (lines.foldl (postAllot period) s).records = s.records ∧
      (∀ g ∈ s.line.queue, g ∈ (lines.foldl (postAllot period) s).line.queue) ∧
      ∀ x ∈ lines, newFrame x.board (.allot period x.share allotAllotted) ∈
        (lines.foldl (postAllot period) s).line.queue := by
  induction lines generalizing s with
  | nil => exact ⟨rfl, fun _ h => h, fun _ h => by cases h⟩
  | cons x lines ih =>
    rw [List.length_cons] at hroom
    have hpost := post_of_room (dest := x.board) (b := .allot period x.share allotAllotted) hposts (by simp [Body.kind])
      (by omega)
    obtain ⟨hrecords, hkept, hqueued⟩ := ih (s := postAllot period s x)
      (by rw [postAllot, hpost]; exact hposts) (by rw [postAllot, hpost]; simp only [queueInsert_length]; omega)
    have hplaced : ∀ g, g = newFrame x.board (.allot period x.share allotAllotted) ∨ g ∈ s.line.queue →
        g ∈ (lines.foldl (postAllot period) (postAllot period s x)).line.queue := fun g hg => by
      refine hkept g ?_
      rw [postAllot, hpost]
      exact mem_queueInsert.mpr hg
    refine ⟨hrecords.trans (by rw [postAllot, hpost]), fun g hg => hplaced g (.inr hg), fun y hy => ?_⟩
    rcases List.mem_cons.mp hy with rfl | hy
    · exact hplaced _ (.inl rfl)
    · exact hqueued y hy

/-! ## The apportionment (R152 to R154) -/

/-- The shares, each rounded down, come to no more than the fuel that is shared (R152). -/
theorem sumOf_shares_le (fuel d : Nat) (energies : List Nat) (h : sumOf energies ≤ d) :
    sumOf (energies.map (shareOf fuel d)) ≤ fuel := by
  by_cases hd : d = 0
  · have hzero : energies.map (shareOf fuel d) = energies.map fun _ => 0 :=
      List.map_congr_left fun _ _ => if_pos hd
    rw [hzero]
    clear h hzero
    induction energies with
    | nil => simp [sumOf]
    | cons e l ih => rw [List.map_cons, sumOf_cons]; omega
  · have hscaled : ∀ l : List Nat, sumOf (l.map (shareOf fuel d)) * d ≤ fuel * sumOf l := fun l => by
      induction l with
      | nil => simp [sumOf]
      | cons e l ih =>
        have hshare : shareOf fuel d e * d ≤ fuel * e := by
          rw [shareOf, if_neg hd]; exact Nat.div_mul_le_self ..
        rw [List.map_cons, sumOf_cons, sumOf_cons, Nat.add_mul, Nat.mul_add]
        exact Nat.add_le_add hshare ih
    refine Nat.le_of_mul_le_mul_right (Nat.le_trans (hscaled energies) ?_) (Nat.pos_of_ne_zero hd)
    exact Nat.mul_le_mul_left _ h

/-- What the apportionment leaves: the record, the last allotments, and a SET without a closed period (R152 to R154). -/
theorem apportion_eq {s : State} {c : ClosedPeriod} (h : s.setBill.closed = some c) :
    ∃ l r, apportion s = { s with
      line := l
      records := r
      setBill := { s.setBill with
        closed := none, window := none, claims := []
        last := some
          { period := c.period, shares := (claimLines c s.setBill.claims).map (fun l => (l.board, l.share)) }
        late := if (decide (0 < c.run) || !s.setBill.claims.isEmpty) = true then 0 else s.setBill.late } } := by
  obtain ⟨l, r, hposted⟩ := postAllots_shape c.period (claimLines c s.setBill.claims) s
  have hclaims : (settleSetOf c s.setBill.claims s.setBill.late).claims = claimLines c s.setBill.claims := rfl
  simp only [apportion, h, hclaims, hposted]
  split
  · exact ⟨l, _, rfl⟩
  · exact ⟨l, _, rfl⟩

/-! ## The period's end (R149) -/

theorem periodDue_iff {s : State} {o : OpenPeriod} (ho : s.setBill.opened = some o) (hput : s.setBill.putOff = false) :
    s.periodDue = true ↔ s.image.periodLength ≤ o.elapsed := by
  simp [State.periodDue, ho, hput]

theorem exec_periodEnd {s : State} (hawake : s.awake = true) (hruns : s.runs .set = true) :
    exec .periodEnd s = .next (if s.periodDue then endPeriod s else s) :=
  congrArg Host.Outcome.next (whenRuns_of_runs hawake hruns _)

theorem exec_claimWindowEnd {s : State} (hawake : s.awake = true) (hruns : s.runs .set = true) :
    exec .claimWindowEnd s = .next (if s.windowDue then endWindow s else s) :=
  congrArg Host.Outcome.next (whenRuns_of_runs hawake hruns _)

/-- Settles O48. -/
theorem periodEndClosesAndOpens : Obligations.PeriodEndClosesAndOpens := by
  intro s o hawake hruns ho hput fuel energy
  refine ⟨fun hdue hwindow => ?_, fun hdue hwindow hclosed => ?_, fun hearly => ?_⟩
  · rw [exec_periodEnd hawake hruns, if_pos ((periodDue_iff ho hput).mpr hdue), endPeriod, hwindow,
      if_neg (by simp), ho]
    rfl
  · obtain ⟨c, hc⟩ := Option.isSome_iff_exists.mp (Option.isSome_iff_ne_none.mpr hclosed)
    obtain ⟨l, r, hshared⟩ := apportion_eq hc
    have hdueNow := (periodDue_iff ho hput).mpr hdue
    have hdueThen : (apportion s).periodDue = true := by
      rw [hshared]
      exact (periodDue_iff (s := { s with setBill := _ }) ho hput).mpr hdue
    have hnone : (apportion s).setBill.window = none := by rw [hshared]
    rw [exec_periodEnd hawake hruns, exec_periodEnd (by rw [hshared]; exact hawake) (by rw [hshared]; exact hruns),
      if_pos hdueNow, if_pos hdueThen, endPeriod, endPeriod, if_pos (Option.isSome_iff_ne_none.mpr hwindow), hnone,
      if_neg (by simp)]
  · rw [exec_periodEnd hawake hruns, if_neg fun h => Nat.not_le.mpr hearly ((periodDue_iff ho hput).mp h)]

/-- Settles O49. -/
theorem apportionmentSharesTheFuel : Obligations.ApportionmentSharesTheFuel := by
  intro s c w hawake hruns hc hw hput claims divided share allotted
  have hshares : (claimLines c claims).map ClaimLine.share = claims.map share := by
    rw [claimLines, List.map_map]; rfl
  have hwithin : allotted ≤ c.fuel := by
    have := sumOf_shares_le c.fuel divided (claims.map Claim.energy) (Nat.le_max_right ..)
    rwa [List.map_map] at this
  refine ⟨hwithin, fun hdue hposts hroom => ?_, fun hearly => ?_⟩
  · have hdueNow : s.windowDue = true := by simp [State.windowDue, hw, hdue]
    have hlines : (claimLines c claims).length = claims.length := by simp [claimLines]
    obtain ⟨hrecords, -, hqueued⟩ := postAllots_of_room (period := c.period) (lines := claimLines c claims) hposts
      (by rw [hlines]; exact hroom)
    obtain ⟨l, r, hposted⟩ := postAllots_shape c.period (claimLines c claims) s
    have hr : r = s.records := by rw [hposted] at hrecords; exact hrecords
    have hkeeps : (apportion s).setBill.putOff = false := by
      obtain ⟨l', r', hshared⟩ := apportion_eq hc
      rw [hshared]; exact hput
    have hstep : exec .claimWindowEnd s = .next (apportion s) := by
      rw [exec_claimWindowEnd hawake hruns, if_pos hdueNow, endWindow, hkeeps]
      rfl
    have hidle : (decide (0 < c.run) || !claims.isEmpty) = true ↔ ¬ (c.run = 0 ∧ claims = []) := by
      simp only [Bool.or_eq_true, decide_eq_true_eq, Bool.not_eq_true', List.isEmpty_eq_false_iff, Classical.not_and_iff_not_or_not,
        Nat.pos_iff_ne_zero]
    have hline : (apportion s).line = l := by
      simp only [apportion, hc]
      rw [(show (settleSetOf c s.setBill.claims s.setBill.late).claims = claimLines c claims from rfl), hposted]
      split <;> rfl
    refine ⟨apportion s, hstep, fun x hx => ?_, ?_⟩
    · have := hqueued { board := x.board, energy := x.energy, share := share x }
        (List.mem_map.mpr ⟨x, hx, rfl⟩)
      rw [hposted] at this
      rw [hline]
      exact this
    · have hrecord : settleSetOf c claims s.setBill.late =
          { period := c.period, interrupted := c.interrupted, run := c.run, idle := c.idle, fuel := c.fuel,
            energy := c.energy, claims := claims.map (fun x => { board := x.board, energy := x.energy, share := share x }),
            allotted := allotted, retained := c.fuel - allotted, late := s.setBill.late } := by
        rw [settleSetOf, allottedOf, hshares]
        rfl
      have hlast : (claimLines c claims).map (fun l => (l.board, l.share)) = claims.map (fun x => (x.board, share x)) := by
        rw [claimLines, List.map_map]; rfl
      rw [hline, ← hrecord, ← hlast]
      subst hr
      simp only [apportion, hc]
      rw [(show (settleSetOf c s.setBill.claims s.setBill.late).claims = claimLines c claims from rfl), hposted]
      by_cases hnone : c.run = 0 ∧ claims = []
      · rw [if_neg (fun h => hidle.mp h hnone), if_neg (fun h => hidle.mp h hnone), if_pos hnone, if_pos hnone]
      · rw [if_pos (hidle.mpr hnone), if_pos (hidle.mpr hnone), if_neg hnone, if_neg hnone]
        rfl
  · have hnot : ¬ s.windowDue = true := by simp [State.windowDue, hw]; omega
    rw [exec_claimWindowEnd hawake hruns, if_neg hnot]

end Sys2Proof.Machine
end

section
/-! PROOFS. The local port: command frames (O50) and WRITE_CONFIG (O51). -/
set_option Elab.async false

namespace Sys2Proof.Machine

/-! ## Command frames (R187) -/

/-- The commands that the port takes by their rows. -/
def portCommands (p : List Byte) : List Instr :=
  [.writeConfig p, .start p, .readStatus p, .readPeer p, .readTotals p, .readRecord p, .removeRecord p, .mode p,
    .stopForce p, .changeover p, .abort p, .deliveryBegin p, .deliveryEnd p, .load p, .ackFault p, .clearFault p,
    .warmRestart p, .requestCodeOutOfRange p]

theorem exec_portCommand {p : List Byte} {i : Instr} (h : i ∈ portCommands p) :
    ∃ n act, ∀ s, exec i s = .next (takeCommand n act s) := by
  simp only [portCommands, List.mem_cons, List.not_mem_nil, or_false] at h
  rcases h with rfl | rfl | rfl | rfl | rfl | rfl | rfl | rfl | rfl | rfl | rfl | rfl | rfl | rfl | rfl | rfl | rfl | rfl <;>
    exact ⟨_, _, fun _ => rfl⟩

theorem hostCommand_of_not_ready {s : State} (h : s.port.reply.ready = false) (code : Nat) (p : List Byte) :
    hostCommand code p s = s := by
  unfold hostCommand
  split
  · rfl
  · exact takeCommand_of_not_ready h _ _

theorem commandAct_of_unknown {code : Nat} (h : 11 < code) (p : List Byte) (s : State) :
    commandAct code p s = refuse .unknown s := by
  unfold commandAct
  split
  all_goals first | rfl | omega

/-- A REQUEST code that names no request (log 13). -/
theorem requestAct_of_no_request {c a1 a2 a3 a4 : Byte} (h : c.toNat = 0 ∨ 7 < c.toNat) (s : State) :
    requestAct [c, a1, a2, a3, a4] s = inRun (refuse .range) s := by
  unfold requestAct
  dsimp only
  split
  all_goals first | rfl | omega

theorem requestAct_of_length {p : List Byte} (h : p.length ≠ 5) (s : State) : requestAct p s = refuse .range s := by
  unfold requestAct
  split
  · exact absurd rfl h
  · rfl

/-- Settles O50. -/
theorem commandFramesAreJudgedFirst : Obligations.CommandFramesAreJudgedFirst := by
  refine ⟨fun s l rest => ?_, fun s c l rest => ⟨rfl, rfl, fun h => congrArg Host.Outcome.next (if_pos h)⟩,
    fun s p c h i hi => ?_, fun s h => congrArg Host.Outcome.next (whenAwake_of_awake h _), fun s c p hl hc => ?_,
    fun s c a1 a2 a3 a4 hl hc => ⟨fun hstation => ?_, fun hstation => ?_⟩, fun s p hl hp => ?_⟩
  · change Host.Outcome.next (frameIn (0#8 :: l :: rest) s) = _
    rw [frameIn]
    split <;> rfl
  · change i ∈ portCommands p ++ [.unknownCommand c p] at hi
    rcases List.mem_append.mp hi with hi | hi
    · obtain ⟨n, act, hexec⟩ := exec_portCommand hi
      rw [hexec, takeCommand_of_not_ready h]
    · rw [List.mem_singleton.mp hi]
      exact congrArg Host.Outcome.next (hostCommand_of_not_ready h _ _)
  · change Host.Outcome.next (hostCommand c.toNat p s) = _
    rw [hostCommand, if_neg (by omega), takeCommand_of_listens hl, commandAct_of_unknown hc]
    rfl
  · change Host.Outcome.next (takeCommand 8 (requestAct [c, a1, a2, a3, a4]) s) = _
    rw [takeCommand_of_listens hl, requestAct_of_no_request hc, inRun, if_neg (by simp [hstation])]
    rfl
  · change Host.Outcome.next (takeCommand 8 (requestAct [c, a1, a2, a3, a4]) s) = _
    rw [takeCommand_of_listens hl, requestAct_of_no_request hc, inRun, if_pos hstation]
    rfl
  · change Host.Outcome.next (takeCommand 8 (requestAct p) s) = _
    rw [takeCommand_of_listens hl, requestAct_of_length hp]
    rfl

/-! ## WRITE_CONFIG (R190, section 11.3) -/

theorem inRange_map {α : Type} (lo hi v : Nat) (f : Nat → α) :
    (inRange lo hi v).map f = if lo ≤ v ∧ v ≤ hi then some (f v) else none := by
  unfold inRange
  split <;> rfl

theorem among_map {α : Type} (l : List Nat) (v : Nat) (f : Nat → α) :
    (among l v).map f = if v ∈ l then some (f v) else none := by
  unfold among
  by_cases h : v ∈ l <;> simp [h]

theorem rd4_le (a b c d : Byte) : rd4 a b c d ≤ 4294967295 := by
  have := a.isLt; have := b.isLt; have := c.isLt; have := d.isLt
  simp only [rd4, rd2]
  omega

/-- The plain items whose whole range of values is written: code, lowest and highest value, and the field of the image. -/
def plainItems : List (Nat × Nat × Nat × (Image → Nat → Image)) :=
  [ (2, 0, 2, fun i v => { i with role := some (if v = 0 then .set else if v = 1 then .board else .tanker) }),
    (4, 1, 5, fun i v => { i with statusInterval := some v }),
    (5, 100, 20000, fun i v => { i with rated := some v }),
    (6, 0, 30, fun i v => { i with margin := some v }),
    (7, 20, 180, fun i v => { i with startTimeout := some v }),
    (8, 0, 600, fun i v => { i with warmup := some v }),
    (9, 0, 600, fun i v => { i with cooldown := some v }),
    (10, 60, 3600, fun i v => { i with idleStop := some v }),
    (11, 60, 1800, fun i v => { i with unloadLimit := some v }),
    (12, 5, 60, fun i v => { i with resHold := some v }),
    (14, 10, 60, fun i v => { i with claimWindow := some v }),
    (15, 10, 10000, fun i v => { i with kBurn := some v }),
    (16, 10, 10000, fun i v => { i with kInlet := some v }),
    (17, 3600, 20500, fun i v => { i with calEmpty := some v }),
    (18, 3600, 20500, fun i v => { i with calFull := some v }),
    (19, 100, 5000, fun i v => { i with span := some v }),
    (21, 2, 16, fun i v => { i with strapCount := some v }),
    (23, 0, 4294967295, fun i v => { i with reserve := some v }),
    (24, 10, 240, fun i v => { i with dryWarn := some v }),
    (25, 5, 100, fun i v => { i with captureBand := some v }),
    (26, 0, 2, fun i v => { i with reactTankEmpty := some v }),
    (27, 0, 1, fun i v => { i with reactLevelLoop := some v }),
    (28, 0, 1, fun i v => { i with reactBurnSilent := some v }),
    (29, 0, 1, fun i v => { i with reactMeterLost := some v }),
    (30, 0, 2, fun i v => { i with reactOverload := some v }),
    (31, 0, 2, fun i v => { i with defaultMode := some v }),
    (34, 2, 20, fun i v => { i with deadTime := some v }),
    (35, 1, 12, fun i v => { i with accounts := some v }),
    (36, 0, 1, fun i v => { i with followDry := some v }),
    (37, 0, 1, fun i v => { i with autoRestore := some v }),
    (38, 10, 300, fun i v => { i with retryInterval := some v }),
    (39, 0, 65535, fun i v => { i with stageLoadDefault := some v }),
    (40, 10, 10000, fun i v => { i with kDispense := some v })]

/-- What a plain item does: its range decides, and it is neither STATION nor LINE_RATE, STRAP or POS_SET. -/
def PlainRow (r : Nat × Nat × Nat × (Image → Nat → Image)) : Prop :=
  (r.1 ≠ itemStation ∧ r.1 ≠ itemLineRate ∧ r.1 ≠ itemStrap ∧ r.1 ≠ itemPosSet) ∧
  ∀ i v, v ≤ 4294967295 → writePlain i r.1 v = if r.2.1 ≤ v ∧ v ≤ r.2.2.1 then some (r.2.2.2 i v) else none

theorem plainRow_of_range {k lo hi : Nat} {f : Image → Nat → Image}
    (hk : k ≠ itemStation ∧ k ≠ itemLineRate ∧ k ≠ itemStrap ∧ k ≠ itemPosSet)
    (h : ∀ i v, writePlain i k v = (inRange lo hi v).map (f i)) : PlainRow (k, lo, hi, f) :=
  ⟨hk, fun i v _ => (h i v).trans (inRange_map lo hi v (f i))⟩

theorem plainRow_role : PlainRow (2, 0, 2, fun i v =>
    { i with role := some (if v = 0 then .set else if v = 1 then .board else .tanker) }) := by
  refine ⟨by decide, fun i v _ => ?_⟩
  match v with
  | 0 => rfl
  | 1 => rfl
  | 2 => rfl
  | n + 3 =>
    exact (if_neg fun h : 0 ≤ n + 3 ∧ n + 3 ≤ 2 => by omega).symm

theorem plainRow_reserve : PlainRow (23, 0, 4294967295, fun i v => { i with reserve := some v }) :=
  ⟨by decide, fun _ _ hv => (if_pos ⟨Nat.zero_le _, hv⟩).symm⟩

theorem plainItems_rows : ∀ r ∈ plainItems, PlainRow r := by
  unfold plainItems
  refine List.forall_mem_cons.mpr ⟨plainRow_role, ?_⟩
  iterate 16 refine List.forall_mem_cons.mpr ⟨plainRow_of_range (by decide) fun _ _ => rfl, ?_⟩
  refine List.forall_mem_cons.mpr ⟨plainRow_reserve, ?_⟩
  iterate 15 refine List.forall_mem_cons.mpr ⟨plainRow_of_range (by decide) fun _ _ => rfl, ?_⟩
  exact fun _ h => by cases h

theorem writePlain_of_no_item {item : Nat} (h : item = 0 ∨ 40 < item) (i : Image) (v : Nat) :
    writePlain i item v = none := by
  unfold writePlain
  split
  all_goals first | rfl | omega

/-- The six orders of the three positions (section 11.3, log 55). -/
theorem preferenceOf_eq (v : Nat) : preferenceOf v =
    if v ∈ [0x010203, 0x010302, 0x020103, 0x020301, 0x030102, 0x030201] then
      some [v / 65536, v / 256 % 256, v % 256] else none := by
  have hiff : ([v / 65536, v / 256 % 256, v % 256].all (fun p => decide (1 ≤ p ∧ p ≤ 3)) = true ∧
      [v / 65536, v / 256 % 256, v % 256].Nodup) ↔
      v ∈ [0x010203, 0x010302, 0x020103, 0x020301, 0x030102, 0x030201] := by
    simp only [List.all_cons, List.all_nil, Bool.and_true, Bool.and_eq_true, decide_eq_true_eq, List.nodup_cons,
      List.mem_cons, List.not_mem_nil, or_false, not_or, List.nodup_nil, and_true, not_false_eq_true]
    have hdigits : v / 256 / 256 = v / 65536 := Nat.div_div_eq_div_mul ..
    omega
  unfold preferenceOf
  by_cases h : v ∈ [0x010203, 0x010302, 0x020103, 0x020301, 0x030102, 0x030201]
  · rw [if_pos h]; exact if_pos (hiff.mpr h)
  · rw [if_neg h]; exact if_neg fun hc => h (hiff.mp hc)

section
variable {s : State} {item index a b c d l1 l0 : Byte} {i : Image}

theorem exec_writeConfig (hl : s.listens) (p : List Byte) :
    exec (.writeConfig p) s = .next ((writeConfigAct p s).state.replied 1 (writeConfigAct p s).code
      (writeConfigAct p s).payload) := congrArg Host.Outcome.next (takeCommand_of_listens hl 1 _)

/-- A frame of the length of its item in UNCONFIGURED. -/
theorem writeConfigAct_of_unconfigured {p : List Byte} (hlen : p.length = writeLength p) (h : s.station = .unconfigured) :
    writeConfigAct p s = writeAct p s :=
  (if_pos hlen).trans (if_neg (by simp [h]))

theorem writeConfigAct_of_run {p : List Byte} (hlen : p.length = writeLength p) (h : s.station = .run) :
    writeConfigAct p s = refuse .state s := (if_pos hlen).trans (if_pos h)

theorem writeConfigAct_of_length {p : List Byte} (hlen : p.length ≠ writeLength p) : writeConfigAct p s = refuse .range s :=
  if_neg hlen

theorem writeLength_of_strap (h : item.toNat = itemStrap) (rest : List Byte) : writeLength (item :: rest) = 8 := if_pos h

theorem writeLength_of_other (h : item.toNat ≠ itemStrap) (rest : List Byte) : writeLength (item :: rest) = 6 := if_neg h

/-- A write that is refused, its frame having its length. -/
theorem exec_write_refused (hl : s.listens) {p : List Byte} (hlen : p.length = writeLength p)
    (h : s.station = .unconfigured) (hnone : writeItem s.image p = none) :
    exec (.writeConfig p) s = .next (s.replied 1 .range []) := by
  rw [exec_writeConfig hl, writeConfigAct_of_unconfigured hlen h, writeAct, hnone]
  rfl

/-- A write that is taken, its frame having its length. -/
theorem exec_write_taken (hl : s.listens) {p : List Byte} (hlen : p.length = writeLength p)
    (h : s.station = .unconfigured) (hsome : writeItem s.image p = some i) :
    exec (.writeConfig p) s = .next ((actOnWrite { s with image := i } (itemOf p)).replied 1 .ok []) := by
  rw [exec_writeConfig hl, writeConfigAct_of_unconfigured hlen h, writeAct, hsome]
  rfl

/-- Another item than STATION and LINE_RATE changes the image alone. -/
theorem actOnWrite_of_image {n : Nat} (h1 : n ≠ itemStation) (h3 : n ≠ itemLineRate) (s : State) : actOnWrite s n = s :=
  (if_neg h1).trans (if_neg h3)

theorem writeItem_plain (hp : item.toNat ≠ itemPosSet) (hindex : index = 0#8) :
    writeItem i [item, index, a, b, c, d] = writePlain i item.toNat (rd4 a b c d) :=
  (if_neg hp).trans (if_pos hindex)

theorem writeItem_of_index (hp : item.toNat ≠ itemPosSet) (hindex : index ≠ 0#8) :
    writeItem i [item, index, a, b, c, d] = none :=
  (if_neg hp).trans (if_neg hindex)

theorem writeItem_posSet (hp : item.toNat = itemPosSet) :
    writeItem i [item, index, a, b, c, d] = writePosSet i index.toNat (rd4 a b c d) := if_pos hp

theorem writeItem_strap (hp : item.toNat = itemStrap) :
    writeItem i [item, index, l1, l0, a, b, c, d] = writeStrap i index.toNat (rd2 l1 l0) (rd4 a b c d) := if_pos hp

end

/-- Settles O51. -/
theorem writeConfigKeepsToTheRanges : Obligations.WriteConfigKeepsToTheRanges := by
  refine ⟨fun s p hl h6 h8 => ?_, fun s item index a b c d hl => ?_⟩
  · have hlen : p.length ≠ writeLength p := by
      unfold writeLength
      split <;> assumption
    rw [exec_writeConfig hl, writeConfigAct_of_length hlen]
    rfl
  intro v write writePoint refused written
  have hv : v ≤ 4294967295 := rd4_le a b c d
  refine ⟨fun hitem => ?_, fun hitem l1 l0 => ?_, fun hrun => ⟨fun hitem => ?_, fun hitem l1 l0 => ?_⟩, fun hstation => ?_⟩
  · rw [exec_writeConfig hl, writeConfigAct_of_length (by simp [writeLength_of_strap hitem])]; rfl
  · rw [exec_writeConfig hl, writeConfigAct_of_length (by simp [writeLength_of_other hitem])]; rfl
  · rw [exec_writeConfig hl, writeConfigAct_of_run (by rw [writeLength_of_other hitem]; rfl) hrun]; rfl
  · rw [exec_writeConfig hl, writeConfigAct_of_run (by rw [writeLength_of_strap hitem]; rfl) hrun]; rfl
  have hsix : item.toNat ≠ itemStrap → [item, index, a, b, c, d].length = writeLength [item, index, a, b, c, d] :=
    fun h => (writeLength_of_other h _).symm
  have height : ∀ l1 l0 : Byte, item.toNat = itemStrap →
      [item, index, l1, l0, a, b, c, d].length = writeLength [item, index, l1, l0, a, b, c, d] :=
    fun l1 l0 h => (writeLength_of_strap h _).symm
  have hrefused : item.toNat ≠ itemStrap → writeItem s.image [item, index, a, b, c, d] = none → exec write s = refused :=
    fun h => exec_write_refused hl (hsix h) hstation
  have hindexed : item.toNat ≠ itemStrap → item.toNat ≠ itemPosSet → index ≠ 0#8 → exec write s = refused := fun h hp hi =>
    hrefused h (writeItem_of_index hp hi)
  have hplain : item.toNat ≠ itemStrap → item.toNat ≠ itemPosSet → item.toNat ≠ itemStation → item.toNat ≠ itemLineRate →
      index = 0#8 → ∀ i, writePlain s.image item.toNat v = some i → exec write s = written i :=
    fun h hp h1 h3 hi i hw => (exec_write_taken hl (hsix h) hstation ((writeItem_plain hp hi).trans hw)).trans
      (congrArg (fun t : State => Host.Outcome.next (t.replied 1 .ok [])) (actOnWrite_of_image h1 h3 _))
  refine ⟨fun hitem => ⟨fun hi hlo hhi => ?_, fun h => ?_⟩, fun hitem => ⟨fun hi hhi => ?_, fun h => ?_⟩,
    fun r hr hitem => ⟨fun hi hlo hhi => ?_, fun h => ?_⟩, fun hitem => ?_, fun hitem hi => ?_,
    fun hitem hi => ⟨fun h => ?_, fun h => ?_⟩, fun hitem hi => ⟨fun h => ?_, fun h => ?_⟩,
    fun hitem hi => ⟨fun h => ?_, fun h => ?_⟩, fun hitem => ⟨fun hlo hhi hvalue => ?_, fun h => ?_⟩,
    fun l1 l0 hitem => ⟨fun hlo hhi hlevel => ?_, fun h => ?_⟩⟩
  · have hw : writeItem s.image [item, index, a, b, c, d] = some { s.image with station := some v } := by
      rw [writeItem_plain (by rw [hitem]; decide) hi, hitem]
      exact (inRange_map 1 30 v _).trans (if_pos ⟨hlo, hhi⟩)
    refine (exec_write_taken hl (hsix (by rw [hitem]; decide)) hstation hw).trans ?_
    have hact : actOnWrite { s with image := { s.image with station := some v } } item.toNat =
        { s with
          image := { s.image with station := some v }
          peers := s.peers.filter (fun p => p.station != v) } := by
      have hne : (fun p : Peer => some v != some p.station) = fun p => p.station != v := by
        funext p
        refine congrArg (!·) (Bool.eq_iff_iff.mpr ?_)
        rw [beq_iff_eq, beq_iff_eq]
        exact ⟨fun h => (Option.some.inj h).symm, fun h => congrArg some h.symm⟩
      rw [hitem, actOnWrite, if_pos rfl]
      exact congrArg (fun g => { ({ s with image := { s.image with station := some v } } : State) with
        peers := s.peers.filter g }) hne
    exact congrArg (fun t : State => Host.Outcome.next (t.replied 1 .ok [])) hact
  · by_cases hi : index = 0#8
    · refine hrefused (by rw [hitem]; decide) ?_
      rw [writeItem_plain (by rw [hitem]; decide) hi, hitem]
      refine (inRange_map 1 30 v _).trans (if_neg ?_)
      rcases h with h | h | h
      · exact absurd hi h
      · omega
      · omega
    · exact hindexed (by rw [hitem]; decide) (by rw [hitem]; decide) hi
  · have hw : writeItem s.image [item, index, a, b, c, d] = some { s.image with lineRate := v } := by
      rw [writeItem_plain (by rw [hitem]; decide) hi, hitem]
      exact (inRange_map 0 2 v _).trans (if_pos ⟨Nat.zero_le _, hhi⟩)
    refine (exec_write_taken hl (hsix (by rw [hitem]; decide)) hstation hw).trans ?_
    have hact : actOnWrite { s with image := { s.image with lineRate := v } } item.toNat =
        setPhase { s with image := { s.image with lineRate := v } } .waiting := by
      rw [hitem]
      exact (if_neg (by decide)).trans (if_pos rfl)
    exact congrArg (fun t : State => Host.Outcome.next (t.replied 1 .ok [])) hact
  · by_cases hi : index = 0#8
    · refine hrefused (by rw [hitem]; decide) ?_
      rw [writeItem_plain (by rw [hitem]; decide) hi, hitem]
      refine (inRange_map 0 2 v _).trans (if_neg ?_)
      rcases h with h | h
      · exact absurd hi h
      · omega
    · exact hindexed (by rw [hitem]; decide) (by rw [hitem]; decide) hi
  · obtain ⟨⟨h1, h3, h22, h32⟩, hrow⟩ := plainItems_rows r hr
    refine hplain (by rw [hitem]; exact h22) (by rw [hitem]; exact h32) (by rw [hitem]; exact h1)
      (by rw [hitem]; exact h3) hi _ ?_
    rw [hitem, hrow _ _ hv, if_pos ⟨hlo, hhi⟩]
  · obtain ⟨⟨h1, h3, h22, h32⟩, hrow⟩ := plainItems_rows r hr
    by_cases hi : index = 0#8
    · refine hrefused (by rw [hitem]; exact h22) ?_
      rw [writeItem_plain (by rw [hitem]; exact h32) hi, hitem, hrow _ _ hv]
      refine if_neg ?_
      rcases h with h | h | h
      · exact absurd hi h
      · exact fun hc => Nat.not_le.mpr h hc.1
      · exact fun hc => Nat.not_le.mpr h hc.2
    · exact hindexed (by rw [hitem]; exact h22) (by rw [hitem]; exact h32) hi
  · have h22 : item.toNat ≠ itemStrap := by simp only [itemStrap]; omega
    have h32 : item.toNat ≠ itemPosSet := by simp only [itemPosSet]; omega
    by_cases hi : index = 0#8
    · exact hrefused h22 ((writeItem_plain h32 hi).trans (writePlain_of_no_item hitem _ _))
    · exact hindexed h22 h32 hi
  · exact hindexed (by simp only [itemStrap]; omega) (by simp only [itemPosSet]; omega) hi
  · refine hplain (by rw [hitem]; decide) (by rw [hitem]; decide) (by rw [hitem]; decide) (by rw [hitem]; decide) hi _ ?_
    rw [hitem]
    exact (among_map _ v _).trans (if_pos h)
  · refine hrefused (by rw [hitem]; decide) ?_
    rw [writeItem_plain (by rw [hitem]; decide) hi, hitem]
    exact (among_map _ v _).trans (if_neg h)
  · refine hplain (by rw [hitem]; decide) (by rw [hitem]; decide) (by rw [hitem]; decide) (by rw [hitem]; decide) hi _ ?_
    rw [hitem]
    exact (among_map _ v _).trans (if_pos h)
  · refine hrefused (by rw [hitem]; decide) ?_
    rw [writeItem_plain (by rw [hitem]; decide) hi, hitem]
    exact (among_map _ v _).trans (if_neg h)
  · refine hplain (by rw [hitem]; decide) (by rw [hitem]; decide) (by rw [hitem]; decide) (by rw [hitem]; decide) hi _ ?_
    rw [hitem]
    change (preferenceOf v).map _ = _
    rw [preferenceOf_eq, if_pos h]
    rfl
  · refine hrefused (by rw [hitem]; decide) ?_
    rw [writeItem_plain (by rw [hitem]; decide) hi, hitem]
    change (preferenceOf v).map _ = _
    rw [preferenceOf_eq, if_neg h]
    rfl
  · have hw : writeItem s.image [item, index, a, b, c, d] =
        some { s.image with posSet := s.image.posSet.set (index.toNat - 1) (some v) } :=
      (writeItem_posSet hitem).trans (if_pos ⟨hlo, hhi, hvalue⟩)
    refine (exec_write_taken hl (hsix (by rw [hitem]; decide)) hstation hw).trans ?_
    exact congrArg (fun t : State => Host.Outcome.next (t.replied 1 .ok []))
      (actOnWrite_of_image (n := item.toNat) (by rw [hitem]; decide) (by rw [hitem]; decide) _)
  · refine hrefused (by rw [hitem]; decide) ((writeItem_posSet hitem).trans (if_neg ?_))
    change ¬ (1 ≤ index.toNat ∧ index.toNat ≤ 3 ∧ v ≤ 30)
    omega
  · have hw : writeItem s.image [item, index, l1, l0, a, b, c, d] = some { s.image with
        strap := s.image.strap.set (index.toNat - 1) (some { level := rd2 l1 l0, volume := v }) } :=
      (writeItem_strap hitem).trans (if_pos ⟨hlo, hhi, hlevel⟩)
    refine (exec_write_taken hl (height l1 l0 hitem) hstation hw).trans ?_
    exact congrArg (fun t : State => Host.Outcome.next (t.replied 1 .ok []))
      (actOnWrite_of_image (n := item.toNat) (by rw [hitem]; decide) (by rw [hitem]; decide) _)
  · refine exec_write_refused hl (height l1 l0 hitem) hstation ((writeItem_strap hitem).trans (if_neg ?_))
    omega

end Sys2Proof.Machine
end

section
/-! PROOFS. The reads of the local port (O54): the bytes of each part, field by field. -/
set_option Elab.async false

namespace Sys2Proof.Machine

/-! ## Field types -/

theorem optField_map {α β : Type} (w : Nat) (enc : β → List Byte) (g : α → β) (x : Option α) :
    optField w enc (x.map g) = optField w (fun a => enc (g a)) x := by
  cases x <;> rfl

theorem optField_some {α : Type} (w : Nat) (enc : α → List Byte) (x : α) : optField w enc (some x) = be1 1 ++ enc x := rfl

theorem append_congr {a b c d : List Byte} (h : a = b) (g : c = d) : a ++ c = b ++ d := by rw [h, g]

theorem flatMap_singleton_eq {α : Type} (l : List α) : l.flatMap (fun b => [b]) = l := by
  induction l with
  | nil => rfl
  | cons a l ih => simp [ih]

/-- What a line of an account carries: bit 0 its fuel, bit 1 its peak (R196). -/
theorem flagSet_account (fuel peak : Option Nat) :
    flagSet [fuel.isSome, peak.isSome] = (if fuel = none then 0 else 1) + (if peak = none then 0 else 2) := by
  cases fuel <;> cases peak <;> rfl

theorem flagSet_carryLine (account : Nat) : flagSet [true, account != 0] = if account = 0 then 1 else 3 := by
  by_cases h : account = 0
  · simp [h, flagSet]
  · have hb : (account != 0) = true := by simpa using h
    simp [h, hb, flagSet]

/-! ## What the reads answer -/

theorem exec_readStatus {s : State} (h : s.listens) :
    exec (.readStatus []) s = .next (s.replied 3 .ok (statusPayload s)) :=
  congrArg Host.Outcome.next (takeCommand_of_listens h 3 _)

theorem exec_readTotals {s : State} (h : s.listens) :
    exec (.readTotals []) s = .next (s.replied 5 .ok (totalsPayload s)) :=
  congrArg Host.Outcome.next (takeCommand_of_listens h 5 _)

theorem exec_readRecord_of_none {s : State} (h : s.listens) (hq : s.records.queue = []) :
    exec (.readRecord []) s = .next (s.replied 6 .none []) := by
  have hact : readRecordAct [] s = refuse .none s := by
    change readHead s = _
    rw [readHead, hq]
  change Host.Outcome.next (takeCommand 6 (readRecordAct []) s) = _
  rw [takeCommand_of_listens h, hact]
  rfl

theorem exec_readRecord_of_head {s : State} (h : s.listens) {r : Record} {rest : List Record}
    (hq : s.records.queue = r :: rest) :
    exec (.readRecord []) s = .next (s.replied 6 .ok (recordBytes r)) := by
  have hact : readRecordAct [] s = returning (recordBytes r) s := by
    change readHead s = _
    rw [readHead, hq]
  change Host.Outcome.next (takeCommand 6 (readRecordAct []) s) = _
  rw [takeCommand_of_listens h, hact]
  rfl

theorem ofLength_of_ne {n : Nat} {p : List Byte} (h : p.length ≠ n) (act : State → Answer) (s : State) :
    ofLength n p act s = refuse .range s := if_neg h

/-- A read that takes no parameter is refused with any (R189). -/
theorem reads_of_params {s : State} (h : s.listens) {p : List Byte} (hp : p ≠ []) :
    exec (.readStatus p) s = .next (s.replied 3 .range []) ∧ exec (.readTotals p) s = .next (s.replied 5 .range []) ∧
      exec (.readRecord p) s = .next (s.replied 6 .range []) := by
  have hlen : p.length ≠ 0 := fun h0 => hp (List.length_eq_zero_iff.mp h0)
  have hread : ∀ n (act : State → Answer), takeCommand n (ofLength 0 p act) s = s.replied n .range [] := fun n act => by
    rw [takeCommand_of_listens h, ofLength_of_ne hlen]
    rfl
  exact ⟨congrArg Host.Outcome.next (hread 3 _), congrArg Host.Outcome.next (hread 5 _),
    congrArg Host.Outcome.next (hread 6 _)⟩

theorem exec_readPeer {s : State} (h : s.listens) (n : Byte) :
    exec (.readPeer [n]) s = .next ((readPeerOf n.toNat s).state.replied 4 (readPeerOf n.toNat s).code
      (readPeerOf n.toNat s).payload) := congrArg Host.Outcome.next (takeCommand_of_listens h 4 _)

theorem readPeerOf_out_of_range {n : Nat} (h : n = 0 ∨ 30 < n) (s : State) : readPeerOf n s = refuse .range s := if_pos h

theorem readPeerOf_none {n : Nat} {s : State} (hlow : 1 ≤ n) (hhigh : n ≤ 30)
    (h : s.image.station = none ∨ s.image.station = some n ∨ s.peer n = none) : readPeerOf n s = refuse .none s := by
  rw [readPeerOf, if_neg (by omega)]
  split
  · rfl
  · next hne =>
    have hp : s.peer n = none := by
      rcases h with h | h | h
      · exact absurd (.inl h) hne
      · exact absurd (.inr h) hne
      · exact h
    rw [hp]

theorem readPeerOf_some {n own : Nat} {s : State} {p : Peer} (hlow : 1 ≤ n) (hhigh : n ≤ 30)
    (hown : s.image.station = some own) (hne : own ≠ n) (hp : s.peer n = some p) :
    readPeerOf n s = returning (peerPayload p) s := by
  rw [readPeerOf, if_neg (by omega), if_neg (by simp [hown, hne]), hp]

theorem peerPayload_eq (p : Peer) : peerPayload p =
    be1 p.station ++ be1 (peerRoleCode p.role) ++ be1 (freshCode p.fresh) ++ be4 p.since ++
      match p.body with
      | none => be1 0
      | some b => be1 (statusFields b).length ++ statusFields b := by
  rw [peerPayload, listField, flatMap_singleton_eq]
  cases p.body <;> rfl

/-! ## The parts of the totals -/

theorem roleTotals_of_unconfigured {s : State} (h : s.station = .unconfigured) :
    roleTotals s = be8 s.tank.burnPulses ++ be8 s.tank.inletPulses ++ be8 s.tanker.pulses := by
  rw [roleTotals, h]

theorem roleTotals_of_runs {s : State} {r : Role} (h : s.runs r = true) : roleTotals s =
    match r with
    | .set => be4 s.duty.starts ++ be4 s.duty.runSeconds ++ be8 s.tank.burnPulses ++ be8 s.tank.inletPulses ++
        optField 4 be4 (some s.burnCl) ++ optField 4 be4 (some s.inletCl) ++ periodTotals s
    | .board => []
    | .tanker => be8 s.tanker.pulses ++ optField 4 be4 (some s.dispenseCl) := by
  obtain ⟨hrun, hrole⟩ := runs_iff.mp h
  cases r <;> rw [roleTotals, hrun, hrole]

theorem periodTotals_eq (s : State) : periodTotals s = optField 24 (fun (o : OpenPeriod) =>
    be4 o.burn ++ be4 o.output ++ be4 o.run ++ be4 (diff32 s.duty.runSeconds o.run) ++ be4 (diff32 s.burnCl o.burn) ++
      be4 (diff32 (s.channel 0).wh o.output)) s.setBill.opened := rfl

theorem blockParts_of_unconfigured {s : State} (h : s.station = .unconfigured) :
    blockParts s = meterPart s ++ loopPart s ++ billPart s := by
  rw [blockParts, h]

theorem blockParts_of_runs {s : State} {r : Role} (h : s.runs r = true) : blockParts s =
    match r with
    | .set => meterPart s ++ dutyPart s ++ arbiterPart s ++ tankPart s ++ deliveryPart s ++ setBillPart s
    | .board => meterPart s ++ stagePart s ++ boardBillPart s
    | .tanker => tankerPart s := by
  obtain ⟨hrun, hrole⟩ := runs_iff.mp h
  cases r <;> rw [blockParts, hrun, hrole]

/-! ## The statement -/

/-- Settles O54: each part that the statement writes out is the part of the payload, and the payload is their row. -/
theorem readsReturnWhatIsHeld : Obligations.ReadsReturnWhatIsHeld := by
  intro s hl optByte optTwo optFour place setCarry boardCarry meterPlace deliveryCarry docketCarry common meters loop duty
    arbiter stage tank delivery tanker setBill named boardBill store status
  have hset : ∀ c, setCarry c = setCarryBytes c := fun c => by
    simp only [setCarry, setCarryBytes, List.flatMap_cons, List.flatMap_nil, List.append_assoc, List.append_nil]
  have hboard : ∀ c, boardCarry c = boardCarryBytes c := fun c => by
    have hline : carryLineBytes = fun l : CarryLine =>
        be1 l.account ++ be8 l.wh ++ be1 (if l.account = 0 then 1 else 3) ++ be8 l.fuel ++ be4 l.peak := by
      funext l
      rw [carryLineBytes, flagSet_carryLine]
    simp only [boardCarry, boardCarryBytes, hline, listField, List.flatMap_cons, List.flatMap_nil, List.append_assoc,
      List.append_nil]
  have hdelivery : ∀ c, deliveryCarry c = deliveryCarryBytes c := fun c => by
    simp only [deliveryCarry, deliveryCarryBytes, List.flatMap_cons, List.flatMap_nil, List.append_assoc, List.append_nil]
    rfl
  have hdocket : ∀ c, docketCarry c = docketCarryBytes c := fun c => rfl
  have hcommon : common = commonPart s := by
    simp only [common, commonPart, optByte, optField_map, place, firstOf]
    cases s.image.role with
    | none => rfl
    | some r => cases r <;> rfl
  have hmeters : meters = meterPart s := rfl
  have hloop : loop = loopPart s := rfl
  have hduty : duty = dutyPart s := by
    simp only [duty, dutyPart, optByte, optField_map, listField, List.append_assoc]
    rfl
  have harbiter : arbiter = arbiterPart s := by
    simp only [arbiter, arbiterPart, listField, List.append_assoc]
    rfl
  have hattempt : attemptBytes = fun a : Attempt => be1 (recordReasonCode a.reason) ++ be1 a.fromPos ++ be1 a.oldPos ++
      be2 a.estimate ++ be1 a.candidates.length ++ a.candidates.flatMap be1 ++ be1 a.cursor ++ be2 a.ticket ++
      be2 a.sends ++ be4 a.timer ++ be4 a.unfed := by
    funext a
    simp only [attemptBytes, listField, List.append_assoc]
  have hstage : stage = stagePart s := by
    simp only [stage, stagePart, optByte, optField_map, hattempt, List.flatMap_cons, List.flatMap_nil, List.append_assoc,
      List.append_nil]
    cases s.chg.cmd with
    | none => rfl
    | some c => cases c <;> rfl
  have htank : tank = tankPart s := by
    have hhold : holdBytes s = fun h : Hold => be4 h.content ++ be4 h.burn ++ be4 h.inlet ++ be4 h.start ++
        be1 (badCode h.cause) ++ be4 (diff32 s.burnCl h.burn) ++ be4 (diff32 s.inletCl h.inlet) := rfl
    simp only [tank, hloop, tankPart, optByte, optField_map, listField, hhold, List.append_assoc]
    rfl
  have hsession : delivery = deliveryPart s := rfl
  have htanker : tanker = tankerPart s := rfl
  have hbill : setBill = setBillPart s := by
    simp only [setBill, setBillPart, listField, List.append_assoc]
    rfl
  have hentry : entryBytes s.image = fun e : Entry => be1 e.set ++ be1 e.pos ++ be2 e.period ++ be1 (entryCode e.state) ++
      be4 e.incomer ++ (e.wh.take s.image.accountCount).flatMap be4 ++ (e.peaks.take s.image.accountCount).flatMap be4 ++
      beBool e.incomerLost ++ be4 e.unmetered ++ be4 e.openedAt ++ be4 e.age ++ optField 4 be4Fit e.claim ++
      optField 1 be1 e.attempt ++ be4 e.wait ++ be4 e.waitLength := rfl
  have htable : boardBill = boardBillPart s := by
    simp only [boardBill, boardBillPart, listField, hentry, List.append_assoc]
    rfl
  have hcount : ∀ l : List Record, l.filter (fun r => match r.body with | .changeover _ | .event _ => true | _ => false) =
      l.filter (fun r => r.body.isEvent) := fun l => List.filter_congr fun r _ => by cases r.body <;> rfl
  have hstore : store = storePart s := by
    refine append_congr (append_congr (append_congr (append_congr (append_congr (append_congr (append_congr
      (append_congr (append_congr (append_congr (append_congr rfl ?_) rfl) rfl) rfl) ?_) ?_) ?_) ?_) rfl) rfl) rfl
    · exact congrArg (fun l : List Record => be2 l.length) (hcount _)
    · cases s.records.setCarry with
      | none => rfl
      | some c => exact append_congr rfl (hset c)
    · cases s.records.boardCarry with
      | none => rfl
      | some c => exact append_congr rfl (hboard c)
    · cases s.records.deliveryCarry with
      | none => rfl
      | some c => exact append_congr rfl (hdelivery c)
    · cases s.records.docketCarry with
      | none => rfl
      | some c => exact append_congr rfl (hdocket c)
  have hstatus : ∀ parts, blockParts s = parts → status parts := fun parts hp => by
    change exec (.readStatus []) s = .next (s.replied 3 .ok (common ++ parts ++ store))
    rw [exec_readStatus hl, statusPayload, hcommon, hstore, hp]
  refine ⟨fun h => ⟨fun hr => ?_, fun hr => ?_, fun hr => ?_⟩, fun h => ?_, fun h => ?_, fun h => ?_, ?_, ?_, ?_, ?_, ?_⟩
  · refine hstatus _ ?_
    rw [blockParts_of_unconfigured h, hmeters, hloop, hbill, billPart, hr]
  · refine hstatus _ ?_
    rw [blockParts_of_unconfigured h, hmeters, hloop, htable, billPart, hr]
  · refine hstatus _ ?_
    rw [blockParts_of_unconfigured h, hmeters, hloop, billPart]
    rcases hr with hr | hr <;> rw [hr] <;> exact List.append_nil _
  · refine hstatus _ ?_
    rw [blockParts_of_runs h, hmeters, hduty, harbiter, htank, hsession, hbill]
  · refine hstatus _ ?_
    rw [blockParts_of_runs h, hmeters, hstage, htable]
  · refine hstatus _ ?_
    rw [blockParts_of_runs h, htanker]
  · intro channels totals
    have htotals : ∀ part, roleTotals s = part → totals part := fun part hp => by
      change exec (.readTotals []) s = .next (s.replied 5 .ok (channels ++ part))
      rw [exec_readTotals hl, totalsPayload, hp]
      rfl
    refine ⟨fun h => htotals _ (roleTotals_of_unconfigured h), fun h => htotals _ ?_, fun h => htotals _ ?_,
      fun h => htotals _ ?_⟩
    · rw [roleTotals_of_runs h]
      simp only [optField_some, periodTotals_eq, List.append_assoc]
    · rw [roleTotals_of_runs h]
    · rw [roleTotals_of_runs h]
      simp only [optField_some, List.append_assoc]
  · exact fun hq => exec_readRecord_of_none hl hq
  · intro r rest hq absorbed merged record
    have habsorbed : absorbed = (r.carry.map carryBytes).getD [] := by
      simp only [absorbed, hset, hboard, hdelivery, hdocket]
      cases r.carry with
      | none => rfl
      | some c => cases c <;> rfl
    have hmerged : merged = (r.carry.map Carry.merged).getD 0 := by
      simp only [merged]
      cases r.carry with
      | none => rfl
      | some c => cases c <;> rfl
    have hrecord : ∀ kind event count body, recordKind r.body = kind → bodyEventKind r.body = event →
        headerCount r = count → bodyBytes r.body = body → record kind event count body := by
      intro kind event count body h1 h2 h3 h4
      change exec (.readRecord []) s = .next (s.replied 6 .ok (_ ++ absorbed))
      rw [exec_readRecord_of_head hl hq, recordBytes, h1, h2, h3, h4, habsorbed]
    have hbilling : r.body.isEvent = false → headerCount r = merged := fun h => by
      rw [headerCount, h, hmerged]
      rfl
    have hlost : r.body.isEvent = true → headerCount r = r.lost := fun h => if_pos h
    cases hb : r.body with
    | settleSet x =>
      refine hrecord 1 0 merged _ (by rw [hb]; rfl) (by rw [hb]; rfl) (hbilling (by rw [hb]; rfl)) ?_
      rw [hb, bodyBytes, settleSetBytes, listField]
      simp only [List.append_assoc]
      rfl
    | settleBoard x =>
      refine hrecord 2 0 merged _ (by rw [hb]; rfl) (by rw [hb]; rfl) (hbilling (by rw [hb]; rfl)) ?_
      have hline : accountLineBytes = fun l : AccountLine => be1 l.account ++ be4 l.wh ++
          be1 ((if l.fuel = none then 0 else 1) + (if l.peak = none then 0 else 2)) ++ be4 (l.fuel.getD 0) ++
          be4 (l.peak.getD 0) := by
        funext l
        rw [accountLineBytes, flagSet_account]
      rw [hb, bodyBytes, settleBoardBytes, listField, hline]
      simp only [List.append_assoc]
      rfl
    | delivery x =>
      exact hrecord 3 0 merged _ (by rw [hb]; rfl) (by rw [hb]; rfl) (hbilling (by rw [hb]; rfl)) (by rw [hb]; rfl)
    | docket x =>
      exact hrecord 4 0 merged _ (by rw [hb]; rfl) (by rw [hb]; rfl) (hbilling (by rw [hb]; rfl)) (by rw [hb]; rfl)
    | changeover x =>
      exact hrecord 5 0 r.lost _ (by rw [hb]; rfl) (by rw [hb]; rfl) (hlost (by rw [hb]; rfl)) (by rw [hb]; rfl)
    | event e =>
      have hevent : ∀ kind body, eventKind e = kind → eventBytes e = body → record 6 kind r.lost body :=
        fun kind body h1 h2 =>
          hrecord 6 kind r.lost body (by rw [hb]; rfl) (by rw [hb]; exact h1) (hlost (by rw [hb]; rfl)) (by rw [hb]; exact h2)
      cases e <;> exact hevent _ _ rfl rfl
  · exact fun p hp => reads_of_params hl hp
  · intro n
    refine ⟨fun h => ?_, fun hlow hhigh => ⟨fun h => ?_, fun own p hown hne hp => ?_⟩⟩
    · rw [exec_readPeer hl, readPeerOf_out_of_range h]; rfl
    · rw [exec_readPeer hl, readPeerOf_none hlow hhigh h]; rfl
    · rw [exec_readPeer hl, readPeerOf_some hlow hhigh hown hne hp, returning, peerPayload_eq]
      cases p.role with
      | none => rfl
      | some r => cases r <;> rfl

end Sys2Proof.Machine
end

section
/-! PROOFS. How a claim of a BOARD ends (O28), and the split of its fuel over the accounts (O29). -/
set_option Elab.async false

namespace Sys2Proof.Machine

/-! ## The end of an entry -/

theorem exec_allot {s : State} {f : RxFrame} {p1 p0 f3 f2 f1 f0 o : Byte} {rest : List Byte} (h : s.Takes f)
    (hrole : s.image.role = some .board) (hbody : f.body = p1 :: p0 :: f3 :: f2 :: f1 :: f0 :: o :: rest) :
    exec (.allot f) s = .next (allotFrame (s.heard f) f.sender (rd2 p1 p0) (rd4 f3 f2 f1 f0) o.toNat) := by
  have hreceive := receive_of_takes h (k := .allot) (by decide) (b := .allot (rd2 p1 p0) (rd4 f3 f2 f1 f0) o.toNat)
    (by rw [hbody]; rfl)
  exact congrArg Host.Outcome.next (hreceive.trans
    (deliver_to_board h hrole (fun t => allotFrame t f.sender (rd2 p1 p0) (rd4 f3 f2 f1 f0) o.toNat)))

/-- With energy the entry leaves a record, and the unattributed Wh go with it. -/
theorem leaveTable_of_entry {s : State} {n : Nat} {e : Entry} (he : s.boardBill.table[n]? = some e) (o : SettleOutcome)
    (a : Option Nat) :
    leaveTable s n o a =
      if hasEnergy s.image e then
        { s with
            boardBill := { s.boardBill with table := s.boardBill.table.eraseIdx n, unattributed := 0 }
            records := appendTo s.records s.stationSeconds s.powerUps (.settleBoard (settleBoardOf s e o a)) }
      else { s with boardBill := { s.boardBill with table := s.boardBill.table.eraseIdx n } } := by
  unfold leaveTable
  simp only [he]
  split <;> rfl

theorem claimedPlace_none {t : List Entry} {set period : Nat}
    (h : ∀ x ∈ t, x.set = set → x.period = period → x.state ≠ .claimed) : claimedPlace t set period = none := by
  refine List.findIdx?_eq_none_iff.mpr (fun x hx => ?_)
  have hx := h x hx
  rw [Bool.eq_false_iff, ne_eq, Bool.and_eq_true, Bool.and_eq_true, beq_iff_eq, beq_iff_eq, beq_iff_eq]
  exact fun ⟨⟨hset, hperiod⟩, hstate⟩ => hx hset hperiod hstate

theorem allotFrame_of_claimed {s : State} {set period n : Nat}
    (h : claimedPlace s.boardBill.table set period = some n) (fuel : Nat) :
    allotFrame s set period fuel allotAllotted = leaveTable s n .allotted (some fuel) ∧
      allotFrame s set period fuel allotLate = leaveTable s n .late none ∧
      allotFrame s set period fuel allotStale = leaveTable s n .stale none ∧
      allotFrame s set period fuel allotFull = leaveTable s n .full none ∧
      ∀ o, 3 < o → allotFrame s set period fuel o = s := by
  simp only [allotFrame, h, otherOutcome]
  refine ⟨rfl, rfl, rfl, rfl, fun o ho => ?_⟩
  have beyond : ∀ k : Nat, k ≤ 3 → ¬ o = k := fun k hk hok => by omega
  rw [if_neg (beyond _ (by decide)), if_neg (beyond _ (by decide)), if_neg (beyond _ (by decide)),
    if_neg (beyond _ (by decide))]

theorem claimWaitStep_of_over {s : State} {n : Nat} {e : Entry} (hawake : s.awake = true) (hruns : s.runs .board = true)
    (he : s.boardBill.table[n]? = some e) (h : waitOver e = true) : claimWaitStep s n = waitRunsOut s n e := by
  rw [claimWaitStep, whenRuns_of_runs hawake hruns]
  simp only [he, h, if_true]

theorem claimWaitStep_of_waiting {s : State} {n : Nat} {e : Entry} (hawake : s.awake = true)
    (hruns : s.runs .board = true) (he : s.boardBill.table[n]? = some e) (h : waitOver e = false) :
    claimWaitStep s n = s := by
  rw [claimWaitStep, whenRuns_of_runs hawake hruns]
  simp only [he, h, Bool.false_eq_true, if_false]

theorem lapseStep_of_over {s : State} {n : Nat} {e : Entry} (hawake : s.awake = true) (hruns : s.runs .board = true)
    (he : s.boardBill.table[n]? = some e) (h : ageOver e = true) : lapseStep s n = leaveTable s n .lapsed none := by
  rw [lapseStep, whenRuns_of_runs hawake hruns]
  simp only [he, h, if_true]

theorem lapseStep_of_waiting {s : State} {n : Nat} {e : Entry} (hawake : s.awake = true) (hruns : s.runs .board = true)
    (he : s.boardBill.table[n]? = some e) (h : ageOver e = false) : lapseStep s n = s := by
  rw [lapseStep, whenRuns_of_runs hawake hruns]
  simp only [he, h, Bool.false_eq_true, if_false]

/-- Settles O28: an ALLOT, the end of a wait and the lapse each act through `leaveTable`, whose outcome is said once. -/
theorem claimedEntriesEndInARecord : Obligations.ClaimedEntriesEndInARecord := by
  unfold Obligations.ClaimedEntriesEndInARecord
  intro s
  constructor
  · intro f p1 p0 f3 f2 f1 f0 o rest htakes hrole hbody hnone
    obtain ⟨p, hp⟩ := heard_shape s f
    rw [exec_allot htakes hrole hbody, hp, allotFrame]
    rw [claimedPlace_none (t := s.boardBill.table) hnone]
  intro n e he left
  have hleft : ∀ (p : List Peer) (l : LineCtl) (o : SettleOutcome) (a : Option Nat),
      leaveTable { s with peers := p, line := l } n o a = left { s with peers := p, line := l } o a := fun p l o a =>
    leaveTable_of_entry (s := { s with peers := p, line := l }) he o a
  constructor
  · intro f p1 p0 f3 f2 f1 f0 o rest htakes hrole hbody hplace
    obtain ⟨p, hp⟩ := heard_shape s f
    rw [exec_allot htakes hrole hbody, hp]
    simp only [← hleft]
    obtain ⟨hallotted, hlate, hstale, hfull, hother⟩ := allotFrame_of_claimed
      (s := { s with peers := p, line := { s.line with phase := .waiting } }) hplace (rd4 f3 f2 f1 f0)
    refine ⟨fun h => ?_, fun h => ?_, fun h => ?_, fun h => ?_, fun h => ?_⟩
    · rw [h, hallotted]
    · rw [h, hlate]
    · rw [h, hstale]
    · rw [h, hfull]
    · rw [hother _ h]
  · intro hawake hruns
    have hlapses : leaveTable s n .lapsed none = left s .lapsed none := hleft s.peers s.line .lapsed none
    have wait_over : e.state = .claimed → e.waitLength ≤ e.wait → waitOver e = true := fun hs hw => by
      simp [waitOver, hs, hw]
    refine ⟨fun hstate hover => ⟨fun hfirst => ?_, fun hsecond => ?_⟩, fun h => ?_, fun hstate hage => ?_, fun h => ?_⟩
    · refine congrArg Host.Outcome.next
        ((claimWaitStep_of_over hawake hruns he (wait_over hstate hover)).trans ?_)
      rw [waitRunsOut, if_pos hfirst]
      rfl
    · refine congrArg Host.Outcome.next
        ((claimWaitStep_of_over hawake hruns he (wait_over hstate hover)).trans ?_)
      rw [waitRunsOut, if_neg (by rw [hsecond]; decide), hlapses]
    · refine congrArg Host.Outcome.next (claimWaitStep_of_waiting hawake hruns he ?_)
      rcases h with h | h <;> simp [waitOver, h]
    · refine congrArg Host.Outcome.next ((lapseStep_of_over hawake hruns he ?_).trans hlapses)
      simp [ageOver, hstate, hage]
    · refine congrArg Host.Outcome.next (lapseStep_of_waiting hawake hruns he ?_)
      rcases h with h | h <;> simp [ageOver, h]

/-! ## The split over the accounts -/

/-- What the search for the largest figure has found in the figures passed. -/
def LargestFound (l : List Nat) (acc : Nat × Nat × Nat) : Prop :=
  acc.1 = l.length ∧ (∀ j, l.getD j 0 ≤ acc.2.1) ∧ (∀ j, j < acc.2.2 → l.getD j 0 < acc.2.1) ∧ l.getD acc.2.2 0 = acc.2.1

theorem getD_of_lt {α : Type} (l : List α) (d : α) {n : Nat} (h : n < l.length) : l.getD n d = l[n] := by
  rw [List.getD_eq_getElem?_getD, List.getElem?_eq_getElem h, Option.getD_some]

theorem getD_of_le {α : Type} (l : List α) (d : α) {n : Nat} (h : l.length ≤ n) : l.getD n d = d := by
  rw [List.getD_eq_getElem?_getD, List.getElem?_eq_none h, Option.getD_none]

theorem getD_append_one (l : List Nat) (w j : Nat) :
    (l ++ [w]).getD j 0 = if j = l.length then w else l.getD j 0 := by
  rcases Nat.lt_trichotomy j l.length with h | h | h
  · rw [if_neg (Nat.ne_of_lt h), List.getD_eq_getElem?_getD, List.getElem?_append_left h, List.getD_eq_getElem?_getD]
  · rw [if_pos h, h, List.getD_eq_getElem?_getD, List.getElem?_concat_length]
    rfl
  · have past : l.length ≤ j := Nat.le_of_lt h
    have beyond : (l ++ [w]).length ≤ j := by rw [List.length_append]; exact h
    rw [if_neg (Nat.ne_of_gt h), getD_of_le _ _ past, getD_of_le _ _ beyond]

theorem LargestFound.step {l : List Nat} {acc : Nat × Nat × Nat} (h : LargestFound l acc) (w : Nat) :
    LargestFound (l ++ [w])
      (if acc.2.1 < w then (acc.1 + 1, w, acc.1) else (acc.1 + 1, acc.2.1, acc.2.2)) := by
  obtain ⟨hlength, hmost, hbefore, hat⟩ := h
  have passed : ∀ j, l.length ≤ j → l.getD j 0 = 0 := fun j hj => by simp [List.getD, hj]
  split
  · refine ⟨by simp [hlength], fun j => ?_, fun j hj => ?_, ?_⟩
    · rw [getD_append_one]
      have := hmost j
      split <;> dsimp only <;> omega
    · rw [getD_append_one, if_neg (fun h : j = l.length => by simp only [hlength] at hj; omega)]
      have := hmost j
      dsimp only
      omega
    · rw [getD_append_one, if_pos hlength]
  · refine ⟨by simp [hlength], fun j => ?_, fun j hj => ?_, ?_⟩
    · rw [getD_append_one]
      have := hmost j
      split <;> dsimp only <;> omega
    · have hlt := hbefore j hj
      rw [getD_append_one]
      split
      · have hzero := passed l.length (Nat.le_refl _)
        have hbound : acc.2.2 ≤ l.length := by
          refine Classical.byContradiction fun hcontra => ?_
          have := passed acc.2.2 (by omega)
          omega
        dsimp only at hj
        omega
      · exact hlt
    · rw [getD_append_one]
      split
      · rename_i heq
        have := passed acc.2.2 (by dsimp only at heq; omega)
        dsimp only at heq ⊢
        omega
      · exact hat

theorem largestFound_foldl (whs l : List Nat) {acc : Nat × Nat × Nat} (h : LargestFound l acc) :
    LargestFound (l ++ whs) (whs.foldl (fun (acc : Nat × Nat × Nat) w =>
      if acc.2.1 < w then (acc.1 + 1, w, acc.1) else (acc.1 + 1, acc.2.1, acc.2.2)) acc) := by
  induction whs generalizing l acc with
  | nil => simpa using h
  | cons w whs ih =>
    have := ih (l ++ [w]) (h.step w)
    rwa [List.append_assoc] at this

/-- The place found holds the largest figure, and no equal one stands before it (R166). -/
theorem largestPlace_spec (whs : List Nat) :
    (∀ j, whs.getD j 0 ≤ whs.getD (largestPlace whs) 0) ∧
      ∀ j, j < largestPlace whs → whs.getD j 0 < whs.getD (largestPlace whs) 0 := by
  have hstart : LargestFound [] (0, 0, 0) := ⟨rfl, by simp, by simp, rfl⟩
  obtain ⟨-, hmost, hbefore, hat⟩ := largestFound_foldl whs [] hstart
  rw [List.nil_append] at hmost hbefore hat
  rw [← hat] at hmost hbefore
  exact ⟨hmost, hbefore⟩

theorem sumOf_eq_zero {l : List Nat} (h : ∀ j, l.getD j 0 = 0) : sumOf l = 0 := by
  induction l with
  | nil => rfl
  | cons x l ih =>
    have hx : x = 0 := h 0
    rw [sumOf_cons, hx, ih (fun j => h (j + 1))]

theorem getD_eq_zero_of_sumOf {l : List Nat} (h : sumOf l = 0) (j : Nat) : l.getD j 0 = 0 := by
  induction l generalizing j with
  | nil => simp
  | cons x l ih =>
    rw [sumOf_cons] at h
    cases j with
    | zero => simp; omega
    | succ j => simpa using ih (by omega) j

theorem sumOf_set (l : List Nat) {k : Nat} (hk : k < l.length) (extra : Nat) :
    sumOf (l.set k (l.getD k 0 + extra)) = sumOf l + extra := by
  induction l generalizing k with
  | nil => simp at hk
  | cons x l ih =>
    cases k with
    | zero => simp; omega
    | succ k =>
      have := ih (k := k) (by simpa using hk)
      simp only [List.set_cons_succ, List.getD_cons_succ, sumOf_cons, this]
      omega

/-- The figure of an energy has a place where it is above 0. -/
theorem largestPlace_lt {whs : List Nat} (h : 0 < sumOf whs) : largestPlace whs < whs.length := by
  refine Classical.byContradiction fun hcontra => ?_
  have hzero : whs.getD (largestPlace whs) 0 = 0 := by simp [List.getD, Nat.not_lt.mp hcontra]
  have := sumOf_eq_zero (l := whs) (fun j => by have := (largestPlace_spec whs).1 j; omega)
  omega

theorem splitShares_of_energy (a : Nat) {whs : List Nat} (h : 0 < sumOf whs) :
    splitShares a whs = (floorShares a whs).set (largestPlace whs)
      ((floorShares a whs).getD (largestPlace whs) 0 + (a - sumOf (floorShares a whs))) := by
  unfold splitShares
  rw [if_neg (by omega)]

theorem splitShares_length (a : Nat) (whs : List Nat) : (splitShares a whs).length = whs.length := by
  by_cases h : sumOf whs = 0
  · unfold splitShares
    rw [if_pos h]
    cases whs <;> simp
  · rw [splitShares_of_energy a (by omega)]
    simp [floorShares]

/-- With energy the shares sum to the whole (R166). -/
theorem sumOf_splitShares (a : Nat) {whs : List Nat} (h : 0 < sumOf whs) : sumOf (splitShares a whs) = a := by
  have hfloor : floorShares a whs = whs.map (shareOf a (sumOf whs)) :=
    List.map_congr_left (fun w _ => (if_neg (by omega)).symm)
  have hle : sumOf (floorShares a whs) ≤ a := hfloor ▸ sumOf_shares_le a (sumOf whs) whs (Nat.le_refl _)
  rw [splitShares_of_energy a h, sumOf_set _ (by simpa [floorShares] using largestPlace_lt h)]
  omega

theorem floorShares_getD (a : Nat) (whs : List Nat) (j : Nat) :
    (floorShares a whs).getD j 0 = a * whs.getD j 0 / sumOf whs := by
  have : (fun w => a * w / sumOf whs) 0 = 0 := by simp
  rw [floorShares, List.getD_eq_getElem?_getD, List.getElem?_map, List.getD_eq_getElem?_getD]
  cases whs[j]? <;> simp

/-- Away from the largest figure a share is rounded down (R166). -/
theorem splitShares_getD (a : Nat) {whs : List Nat} (h : 0 < sumOf whs) {j : Nat} (hj : j ≠ largestPlace whs) :
    (splitShares a whs).getD j 0 = a * whs.getD j 0 / sumOf whs := by
  rw [splitShares_of_energy a h, ← floorShares_getD, List.getD_eq_getElem?_getD, List.getElem?_set_ne hj.symm,
    List.getD_eq_getElem?_getD]

theorem splitShares_of_none (a house : Nat) {rest : List Nat} (h : sumOf (house :: rest) = 0) :
    splitShares a (house :: rest) = a :: rest.map (fun _ => 0) := by
  unfold splitShares
  rw [if_pos h]

theorem sumOf_zeros (l : List Nat) : sumOf (l.map (fun _ => 0)) = 0 := by
  induction l with
  | nil => rfl
  | cons x l ih => rw [List.map_cons, sumOf_cons, ih]

/-- The house stands first, so that the shares always sum to the whole (R166). -/
theorem sumOf_splitShares_cons (a house : Nat) (rest : List Nat) : sumOf (splitShares a (house :: rest)) = a := by
  by_cases h : sumOf (house :: rest) = 0
  · rw [splitShares_of_none a house h, sumOf_cons, sumOf_zeros]; omega
  · exact sumOf_splitShares a (by omega)

/-- An account without energy has no share: the remainder and, with no energy at all, the whole go elsewhere (R166). -/
theorem splitShares_of_no_energy (a house : Nat) (rest : List Nat) {j : Nat} (hj : rest.getD j 0 = 0) :
    (splitShares a (house :: rest)).getD (j + 1) 0 = 0 := by
  by_cases h : sumOf (house :: rest) = 0
  · rw [splitShares_of_none a house h, List.getD_cons_succ, List.getD_eq_getElem?_getD, List.getElem?_map]
    cases rest[j]? <;> rfl
  · have hne : j + 1 ≠ largestPlace (house :: rest) := fun heq => by
      have hmost := (largestPlace_spec (house :: rest)).1
      rw [← heq, List.getD_cons_succ, hj] at hmost
      exact h (sumOf_eq_zero (fun i => Nat.le_zero.mp (hmost i)))
    rw [splitShares_getD a (by omega) hne, List.getD_cons_succ, hj]
    simp

/-! ## The lines of a record -/

/-- The fuel of a list of account lines. -/
def fuelOf (l : List AccountLine) : Nat := sumOf (l.map (fun x => x.fuel.getD 0))

theorem fuelOf_append (l m : List AccountLine) : fuelOf (l ++ m) = fuelOf l + fuelOf m := by
  rw [fuelOf, List.map_append, sumOf_append]; rfl

/-- The lines left out carry no fuel. -/
theorem fuelOf_filter {l : List AccountLine} (h : ∀ x ∈ l, x.wh = 0 → x.fuel.getD 0 = 0) :
    fuelOf (l.filter (fun x => decide (0 < x.wh))) = fuelOf l := by
  induction l with
  | nil => rfl
  | cons x l ih =>
    have hrest := ih (fun y hy => h y (List.mem_cons_of_mem _ hy))
    simp only [fuelOf, List.map_cons, sumOf_cons] at hrest ⊢
    by_cases hx : x.wh = 0
    · rw [List.filter_cons_of_neg (by simp [hx]), hrest, h x (List.mem_cons_self ..) hx, Nat.zero_add]
    · rw [List.filter_cons_of_pos (by simp; omega), List.map_cons, sumOf_cons, hrest]

/-- The account lines before those without energy are left out. -/
def accountRows (i : Image) (e : Entry) (a : Nat) : List AccountLine :=
  (accountWh i e).mapIdx (fun n w =>
    { account := n + 1, wh := w, fuel := some ((splitShares a (splitBase i e)).getD (n + 1) 0),
      peak := some (e.peaks.getD n 0) })

/-- The house's line. -/
def houseRow (i : Image) (e : Entry) (a : Nat) : AccountLine :=
  { account := 0, wh := houseWh i e, fuel := some ((splitShares a (splitBase i e)).getD 0 0), peak := none }

theorem accountLines_some (i : Image) (e : Entry) (a : Nat) :
    accountLines i e (some a) = (accountRows i e a).filter (fun l => decide (0 < l.wh)) ++
      (if 0 < (houseRow i e a).wh ∨ 0 < (houseRow i e a).fuel.getD 0 then [houseRow i e a] else []) := rfl

theorem mem_accountRows {i : Image} {e : Entry} {a : Nat} {l : AccountLine} (h : l ∈ accountRows i e a) :
    ∃ n, l.account = n + 1 ∧ l.wh = (accountWh i e).getD n 0 ∧
      l.fuel = some ((splitShares a (splitBase i e)).getD (n + 1) 0) := by
  obtain ⟨n, hn, rfl⟩ := List.mem_mapIdx.mp h
  exact ⟨n, rfl, by simp [List.getD, hn], rfl⟩

/-- A line's figures are those of its account, whether it is the house's or another's. -/
theorem line_of_accountLines {i : Image} {e : Entry} {a : Nat} {l : AccountLine} (h : l ∈ accountLines i e (some a)) :
    l.wh = (splitBase i e).getD l.account 0 ∧ l.fuel = some ((splitShares a (splitBase i e)).getD l.account 0) := by
  rw [accountLines_some] at h
  rcases List.mem_append.mp h with haccount | hhouse
  · obtain ⟨n, hn, hwh, hfuel⟩ := mem_accountRows (List.mem_filter.mp haccount).1
    rw [hn]
    exact ⟨hwh, hfuel⟩
  · split at hhouse
    · rw [List.mem_singleton.mp hhouse]
      exact ⟨rfl, rfl⟩
    · simp at hhouse

theorem fuelOf_accountRows (i : Image) (e : Entry) (a : Nat) :
    fuelOf (accountRows i e a) = sumOf ((splitShares a (splitBase i e)).drop 1) := by
  have hlength := splitShares_length a (splitBase i e)
  rw [fuelOf]
  congr 1
  refine List.ext_getElem ?_ (fun n h1 h2 => ?_)
  · simp only [accountRows, List.length_map, List.length_mapIdx, List.length_drop, hlength]
    rfl
  · have hn : 1 + n < (splitShares a (splitBase i e)).length := by simp at h2; omega
    simp [accountRows, List.getD, Nat.add_comm n 1, hn]

theorem sumOf_head_drop {l : List Nat} (h : l ≠ []) : l.getD 0 0 + sumOf (l.drop 1) = sumOf l := by
  cases l with
  | nil => exact absurd rfl h
  | cons x l => rfl

/-- The fuel of the lines, house included, is the fuel allotted (R166). -/
theorem fuelOf_accountLines (i : Image) (e : Entry) (a : Nat) : fuelOf (accountLines i e (some a)) = a := by
  have hrows : fuelOf ((accountRows i e a).filter (fun l => decide (0 < l.wh))) = fuelOf (accountRows i e a) :=
    fuelOf_filter (fun l hl hzero => by
      obtain ⟨n, -, hwh, hfuel⟩ := mem_accountRows hl
      rw [hfuel]
      exact splitShares_of_no_energy a _ _ (hwh ▸ hzero))
  have hhouse : fuelOf (if 0 < (houseRow i e a).wh ∨ 0 < (houseRow i e a).fuel.getD 0 then [houseRow i e a] else []) =
      (splitShares a (splitBase i e)).getD 0 0 := by
    split
    · simp [fuelOf, houseRow]
    · rename_i hnone
      have : (houseRow i e a).fuel.getD 0 = 0 := by omega
      exact this.symm
  have hne : splitShares a (splitBase i e) ≠ [] := fun h => by
    have := splitShares_length a (splitBase i e)
    rw [h] at this
    simp [splitBase] at this
  rw [accountLines_some, fuelOf_append, hrows, hhouse, fuelOf_accountRows, Nat.add_comm, sumOf_head_drop hne]
  exact sumOf_splitShares_cons a _ _

/-- Settles O29: the shares sum to the whole because the largest takes what rounding down leaves. -/
theorem accountSharesSumToTheAllotment : Obligations.AccountSharesSumToTheAllotment := by
  unfold Obligations.AccountSharesSumToTheAllotment
  constructor
  · intro s e a
    exact ⟨fuelOf_accountLines s.image e a, fun l hl => line_of_accountLines hl⟩
  · intro a whs
    refine ⟨splitShares_length a whs, fun h => ⟨sumOf_splitShares a h, largestPlace whs, largestPlace_lt h,
      fun j _ => ⟨(largestPlace_spec whs).1 j, (largestPlace_spec whs).2 j⟩,
      fun j _ hne => splitShares_getD a h hne⟩, ?_⟩
    rintro house rest rfl h
    exact splitShares_of_none a house h

end Sys2Proof.Machine
end

section
/-! PROOFS. What makes a BOARD claim: CLOSE and a set's STATUS (O27). -/
set_option Elab.async false

namespace Sys2Proof.Machine

/-! ## Opening an entry beside those of the table -/

theorem split_at {t : List Entry} {n : Nat} {e : Entry} (he : t[n]? = some e) :
    t = t.take n ++ e :: t.drop (n + 1) ∧ (t.take n).length = n := by
  obtain ⟨hn, rfl⟩ := List.getElem?_eq_some_iff.mp he
  exact ⟨by rw [← List.drop_eq_getElem_cons hn, List.take_append_drop], by simp; omega⟩

/-- A place before another, or the place of an entry at all, read as a lookup. -/
theorem getElem?_of_mem_take {t : List Entry} {m : Nat} {x : Entry} (h : x ∈ t.take m) :
    ∃ k, k < m ∧ t[k]? = some x := by
  obtain ⟨k, hk, rfl⟩ := List.mem_take_iff_getElem.mp h
  exact ⟨k, by omega, List.getElem?_eq_getElem (by omega)⟩

theorem freePeriod_of_free {t : List Entry} {set period : Nat} (h : ∀ y ∈ t, y.set = set → y.period ≠ period) :
    freePeriod t set period = period := by
  rw [freePeriod, if_neg]
  simp only [List.any_eq_true, Bool.and_eq_true, beq_iff_eq, not_exists, not_and]
  exact fun y hy hset => h y hy hset

theorem freePeriod_of_held {t : List Entry} {y : Entry} (hy : y ∈ t) : freePeriod t y.set y.period = 0 := by
  rw [freePeriod, if_pos]
  exact List.any_eq_true.mpr ⟨y, hy, by simp⟩

theorem openEntry_of_room {s : State} (h : s.boardBill.table.length < tableCap) (set pos period : Nat) :
    openEntry s set pos period =
      setTable s (s.boardBill.table ++ [newEntry s set pos (freePeriod s.boardBill.table set period)]) := by
  rw [openEntry, makeRoom, if_pos h]

theorem not_waits_of_free {t : List Entry} {set period : Nat} (h : ∀ y ∈ t, y.set = set → y.period ≠ period) :
    ∀ x ∈ t, ¬ (x.state = .waitingClose ∧ x.set = set ∧ x.period = period ∧ period ≠ 0) :=
  fun x hx ⟨_, hset, hperiod, _⟩ => h x hx hset hperiod

/-- A period that no entry of the set holds opens a new entry, where the table has room. -/
theorem makeCurrent_of_room {s : State} {set pos period : Nat}
    (h : ∀ y ∈ s.boardBill.table, y.set = set → y.period ≠ period) (hroom : s.boardBill.table.length < tableCap) :
    makeCurrent s set pos period = setTable s (s.boardBill.table ++ [newEntry s set pos period]) := by
  rw [makeCurrent_opens (not_waits_of_free h), openEntry_of_room hroom, freePeriod_of_free h]

/-- A full table gives up its oldest entry for it (R160). -/
theorem makeCurrent_of_full {s : State} {set pos period m : Nat} {x : Entry}
    (h : ∀ y ∈ s.boardBill.table, y.set = set → y.period ≠ period) (hfull : tableCap ≤ s.boardBill.table.length)
    (hx : s.boardBill.table[m]? = some x) (hold : evictPlace s.boardBill.table = some m) :
    makeCurrent s set pos period =
      setTable (leaveTable s m .evicted none) (s.boardBill.table.eraseIdx m ++ [newEntry s set pos period]) := by
  have hrest : ∀ y ∈ s.boardBill.table.eraseIdx m, y.set = set → y.period ≠ period :=
    fun y hy => h y (List.mem_of_mem_eraseIdx hy)
  have hroom : makeRoom s = leaveTable s m .evicted none := by
    rw [makeRoom, if_neg (Nat.not_lt.mpr hfull)]
    simp only [hold]
  have htable : (leaveTable s m .evicted none).boardBill.table = s.boardBill.table.eraseIdx m := leaveTable_table ..
  have hentry : newEntry (leaveTable s m .evicted none) set pos period = newEntry s set pos period := by
    rw [leaveTable_of_entry hx]
    split <;> rfl
  rw [makeCurrent_opens (not_waits_of_free h), openEntry, hroom, htable, freePeriod_of_free hrest, hentry]

/-- A period that a CLAIMED entry of the set holds is not given again: the new entry opens unbound (log 45). -/
theorem makeCurrent_beside {s : State} {pos m : Nat} {y : Entry} (hy : s.boardBill.table[m]? = some y)
    (hclaimed : y.state = .claimed)
    (hother : ∀ k z, k ≠ m → s.boardBill.table[k]? = some z → z.set ≠ y.set ∨ z.period ≠ y.period)
    (hroom : s.boardBill.table.length < tableCap) :
    makeCurrent s y.set pos y.period = setTable s (s.boardBill.table ++ [newEntry s y.set pos 0]) := by
  have hnone : ∀ x ∈ s.boardBill.table,
      ¬ (x.state = .waitingClose ∧ x.set = y.set ∧ x.period = y.period ∧ y.period ≠ 0) := by
    rintro x hx ⟨hstate, hset, hperiod, -⟩
    obtain ⟨k, hk, rfl⟩ := List.getElem_of_mem hx
    by_cases hkm : k = m
    · subst hkm
      rw [List.getElem?_eq_getElem hk] at hy
      rw [Option.some.inj hy, hclaimed] at hstate
      exact absurd hstate (by decide)
    · rcases hother k _ hkm (List.getElem?_eq_getElem hk) with h | h
      · exact h hset
      · exact h hperiod
  rw [makeCurrent_opens hnone, openEntry_of_room hroom, freePeriod_of_held (List.mem_of_getElem? hy)]

/-- The one entry of the set and period that waits becomes CURRENT again, in its place. -/
theorem makeCurrent_again {s : State} {pos m : Nat} {y : Entry} (hy : s.boardBill.table[m]? = some y)
    (hwaits : y.state = .waitingClose) (hperiod : y.period ≠ 0)
    (hother : ∀ k z, k ≠ m → s.boardBill.table[k]? = some z → z.set ≠ y.set ∨ z.period ≠ y.period) :
    makeCurrent s y.set pos y.period =
      setTable s (s.boardBill.table.set m (reopen ((s.channel 0).state == .lost) pos y)) := by
  obtain ⟨hsplit, -⟩ := split_at hy
  have hm : m < s.boardBill.table.length := (List.getElem?_eq_some_iff.mp hy).1
  rw [makeCurrent_reopens hsplit ⟨hwaits, rfl, rfl, hperiod⟩, List.set_eq_take_append_cons_drop, if_pos hm]
  rintro x hx ⟨-, hset, hsame, -⟩
  obtain ⟨k, hk, hz⟩ := getElem?_of_mem_take hx
  rcases hother k x (by omega) hz with h | h
  · exact h hset
  · exact h hsame

/-! ## The claim of an entry -/

/-- The entry as it claims (R162). -/
def Entry.claiming (e : Entry) (i : Image) (wait : Nat) : Entry :=
  { e with state := .claimed, claim := some (claimValue i e), attempt := some 1, wait := 0, waitLength := wait }

theorem claimEntry_of_energy {s : State} {n : Nat} {e : Entry} (he : s.boardBill.table[n]? = some e)
    (henergy : hasEnergy s.image e = true) (wait : Nat) :
    claimEntry s n wait = setTable (post s e.set (.claim e.period (claimValue s.image e) 1))
      (s.boardBill.table.set n (e.claiming s.image wait)) := by
  unfold claimEntry
  simp only [he, henergy, if_true]
  rfl

theorem claimEntry_of_none {s : State} {n : Nat} {e : Entry} (he : s.boardBill.table[n]? = some e)
    (henergy : hasEnergy s.image e = false) (wait : Nat) :
    claimEntry s n wait = setTable s (s.boardBill.table.eraseIdx n) := by
  unfold claimEntry
  simp only [he, henergy, Bool.false_eq_true, if_false]

/-- A claim leaves the sets and periods of the table as they are. -/
theorem free_of_claiming {t : List Entry} {n : Nat} {e : Entry} {i : Image} {wait set period : Nat}
    (he : t[n]? = some e) (h : ∀ y ∈ t, y.set = set → y.period ≠ period) :
    ∀ y ∈ t.set n (e.claiming i wait), y.set = set → y.period ≠ period := fun y hy => by
  rcases List.mem_or_eq_of_mem_set hy with hy | rfl
  · exact h y hy
  · exact h e (List.mem_of_getElem? he)

/-! ## CLOSE at the table -/

theorem exec_close {s : State} {f : RxFrame} {p1 p0 f3 f2 f1 f0 e3 e2 e1 e0 w a : Byte} {rest : List Byte}
    (h : s.Takes f) (hrole : s.image.role = some .board)
    (hbody : f.body = p1 :: p0 :: f3 :: f2 :: f1 :: f0 :: e3 :: e2 :: e1 :: e0 :: w :: a :: rest) :
    exec (.close f) s = .next (closeFrame (s.heard f) f.sender (rd2 p1 p0) w.toNat a.toNat) := by
  have hreceive := receive_of_takes h (k := .close) (by decide)
    (b := .close (rd2 p1 p0) (rd4 f3 f2 f1 f0) (rd4 e3 e2 e1 e0) w.toNat a.toNat) (by rw [hbody]; rfl)
  exact congrArg Host.Outcome.next (hreceive.trans
    (deliver_to_board h hrole (fun t => closeFrame t f.sender (rd2 p1 p0) w.toNat a.toNat)))

theorem namesSet_iff {s : State} {set : Nat} :
    s.namesSet set = true ↔
      set ≠ 0 ∧ (s.image.setAt 1 = set ∨ s.image.setAt 2 = set ∨ s.image.setAt 3 = set) := by
  simp [State.namesSet]

/-- The period heard is noted for a set that a position names, and nothing else changes. -/
theorem hearClose_shape (s : State) (set period : Nat) :
    ∃ last, hearClose s set period = { s with boardBill := { s.boardBill with lastClosed := last } } ∧
      (s.namesSet set = true → last.find? (fun x => x.1 == set) = some (set, period)) ∧
      (s.namesSet set = false → last = s.boardBill.lastClosed) := by
  unfold hearClose
  split
  · rename_i hnames
    refine ⟨_, rfl, fun _ => ?_, fun h => by rw [hnames] at h; cases h⟩
    rw [List.find?_append, List.find?_eq_none.mpr (fun x hx => ?_)]
    · simp
    · simpa using (List.mem_filter.mp hx).2
  · rename_i hnames
    exact ⟨s.boardBill.lastClosed, rfl, fun h => absurd h hnames, fun _ => rfl⟩

theorem placeOf_spec {t : List Entry} {set period n : Nat} {e : Entry} (h : placeOf t set period = some n)
    (he : t[n]? = some e) : e.set = set ∧ e.period = period := by
  obtain ⟨hn, hat, -⟩ := List.findIdx?_eq_some_iff_getElem.mp h
  rw [List.getElem?_eq_getElem hn] at he
  rw [Option.some.inj he] at hat
  simpa using hat

theorem closeFrame_of_place {s : State} {set period n : Nat} {e : Entry} (hperiod : period ≠ 0)
    (hplace : placeOf s.boardBill.table set period = some n) (he : s.boardBill.table[n]? = some e) (window again : Nat) :
    closeFrame s set period window again = closeActs (hearClose s set period) n window again e := by
  obtain ⟨last, hclose, -, -⟩ := hearClose_shape s set period
  simp only [closeFrame, hclose, if_neg hperiod, closeRows, hplace, Option.isSome_some, if_true, he]

theorem closeFrame_of_repeat {s : State} {set period : Nat} (hperiod : period ≠ 0)
    (hplace : placeOf s.boardBill.table set period = none) (window : Nat) {again : Nat} (hagain : again ≠ 0) :
    closeFrame s set period window again = hearClose s set period := by
  obtain ⟨last, hclose, -, -⟩ := hearClose_shape s set period
  simp only [closeFrame, hclose, if_neg hperiod, hplace, Option.isSome_none, Bool.false_eq_true, if_false, if_neg hagain]

theorem closeFrame_binds {s : State} {set period : Nat} (hperiod : period ≠ 0)
    (hplace : placeOf s.boardBill.table set period = none) (window : Nat) :
    closeFrame s set period window 0 =
      closeRows { setTable (hearClose s set period) (bindTable s.free s.boardBill.table set period) with
        free := s.free + 1 } set period window 0 := by
  obtain ⟨last, hclose, -, -⟩ := hearClose_shape s set period
  simp only [closeFrame, hclose, if_neg hperiod, hplace, Option.isSome_none, Bool.false_eq_true, if_false, if_true]

theorem placeOf_none {t : List Entry} {set period : Nat} (h : ∀ e ∈ t, e.set = set → e.period ≠ period) :
    placeOf t set period = none := by
  refine List.findIdx?_eq_none_iff.mpr (fun e he => ?_)
  rw [Bool.eq_false_iff, ne_eq, Bool.and_eq_true, beq_iff_eq, beq_iff_eq]
  exact fun ⟨hset, hperiod⟩ => h e he hset hperiod

/-! ## Binding (R161) -/

theorem unbound_iff {set : Nat} {e : Entry} :
    unbound set e = true ↔ e.set = set ∧ e.period = 0 ∧ e.state ≠ .claimed := by
  simp [unbound, and_assoc]

theorem bindTable_of_none (free : Nat) {t : List Entry} {set : Nat} (period : Nat)
    (h : ∀ x ∈ t, unbound set x = false) : bindTable free t set period = t := by
  have hnone : t.findIdx? (unbound set) = none := List.findIdx?_eq_none_iff.mpr h
  simp only [bindTable, hnone]

/-- The oldest unbound entry takes the period, and the younger ones merge into it. -/
theorem bindTable_of_oldest (free : Nat) {before after : List Entry} {e : Entry} {set : Nat} (period : Nat)
    (he : unbound set e = true) (hbefore : ∀ x ∈ before, unbound set x = false) :
    bindTable free (before ++ e :: after) set period =
      before ++ (after.filter (unbound set)).foldl (mergeEntry free) { e with period := period } ::
        after.filter (fun x => !unbound set x) := by
  have hfound : (before ++ e :: after).findIdx? (unbound set) = some before.length :=
    findIdx?_of_split rfl he hbefore
  simp [bindTable, hfound]

theorem filter_of_all {α : Type} {p : α → Bool} {l : List α} (h : ∀ x ∈ l, p x = false) :
    l.filter p = [] ∧ l.filter (fun x => !p x) = l :=
  ⟨List.filter_eq_nil_iff.mpr (fun x hx => by simp [h x hx]), List.filter_eq_self.mpr (fun x hx => by simp [h x hx])⟩

theorem bindTable_of_one (free : Nat) {before after : List Entry} {e : Entry} {set : Nat} (period : Nat)
    (he : unbound set e = true) (hothers : ∀ x ∈ before ++ after, unbound set x = false) :
    bindTable free (before ++ e :: after) set period = before ++ { e with period := period } :: after := by
  obtain ⟨hnone, hall⟩ := filter_of_all (fun x hx => hothers x (List.mem_append_right _ hx))
  rw [bindTable_of_oldest free period he (fun x hx => hothers x (List.mem_append_left _ hx)), hnone, hall]
  rfl

theorem bindTable_of_two (free : Nat) {before between after : List Entry} {o y : Entry} {set : Nat} (period : Nat)
    (ho : unbound set o = true) (hy : unbound set y = true)
    (hothers : ∀ x ∈ before ++ between ++ after, unbound set x = false) :
    bindTable free (before ++ o :: (between ++ y :: after)) set period =
      before ++ mergeEntry free { o with period := period } y :: (between ++ after) := by
  have hbefore : ∀ x ∈ before, unbound set x = false := fun x hx => hothers x (by simp [hx])
  obtain ⟨hnone, hall⟩ := filter_of_all (l := between) (fun x hx => hothers x (by simp [hx]))
  obtain ⟨hnone', hall'⟩ := filter_of_all (l := after) (fun x hx => hothers x (by simp [hx]))
  rw [bindTable_of_oldest free period ho hbefore, List.filter_append, List.filter_append, hnone, hall,
    List.filter_cons_of_pos hy, List.filter_cons_of_neg (by simp [hy]), hnone', hall']
  rfl

/-- Another table and drawer of free values do not change what is heard, nor the period noted. -/
theorem hearClose_heard_with (s : State) (f : RxFrame) (t : List Entry) (n period : Nat) :
    hearClose (State.heard { s with boardBill := { s.boardBill with table := t }, free := n } f) f.sender period =
      { setTable (hearClose (s.heard f) f.sender period) t with free := n } := by
  have hheard : State.heard { s with boardBill := { s.boardBill with table := t }, free := n } f =
      { setTable (s.heard f) t with free := n } := by
    unfold State.heard showPeer
    split
    · rw [if_pos (by assumption)]; rfl
    · rw [if_neg (by assumption)]; rfl
  rw [hheard]
  unfold hearClose
  change (if (s.heard f).namesSet f.sender = true then _ else _) = _
  split <;> rfl

/-- Where the bound table holds the period, CLOSE acts as on that table (R161). -/
theorem exec_close_binds {s : State} {f : RxFrame} {p1 p0 f3 f2 f1 f0 e3 e2 e1 e0 w a : Byte} {rest : List Byte}
    (h : s.Takes f) (hrole : s.image.role = some .board)
    (hbody : f.body = p1 :: p0 :: f3 :: f2 :: f1 :: f0 :: e3 :: e2 :: e1 :: e0 :: w :: a :: rest)
    (hperiod : rd2 p1 p0 ≠ 0) (hnone : ∀ e ∈ s.boardBill.table, e.set = f.sender → e.period ≠ rd2 p1 p0)
    (ha : a.toNat = 0) {t : List Entry} (ht : bindTable s.free s.boardBill.table f.sender (rd2 p1 p0) = t)
    (hheld : (placeOf t f.sender (rd2 p1 p0)).isSome = true) :
    exec (.close f) s =
      exec (.close f) { s with boardBill := { s.boardBill with table := t }, free := s.free + 1 } := by
  have htakes : ({ s with boardBill := { s.boardBill with table := t }, free := s.free + 1 } : State).Takes f :=
    ⟨h.awake, h.follows, h.run, h.sound, h.other, h.ours⟩
  obtain ⟨p, hp⟩ := heard_shape s f
  obtain ⟨last, hlast, -, -⟩ := hearClose_shape (s.heard f) f.sender (rd2 p1 p0)
  rw [exec_close h hrole hbody, exec_close htakes hrole hbody, ha,
    closeFrame_binds hperiod (by rw [hp]; exact placeOf_none hnone)]
  simp only [closeFrame, hearClose_heard_with]
  have hfree : (s.heard f).free = s.free := by rw [hp]
  have htable : (s.heard f).boardBill.table = s.boardBill.table := by rw [hp]
  rw [hfree, htable, ht, if_neg hperiod, if_pos (by exact hheld)]

/-! ## The rows of R161 for the entry of the set and period -/

/-- A fresh entry for the period that follows one. -/
theorem nextNumber_ne_zero (top n : Nat) : nextNumber top n ≠ 0 := by
  unfold nextNumber
  split <;> omega

/-- The table without an entry has room, where it was within its capacity. -/
theorem eraseIdx_room {t : List Entry} {n : Nat} {e : Entry} (he : t[n]? = some e) (h : t.length ≤ tableCap) :
    (t.eraseIdx n).length < tableCap := by
  have hn : n < t.length := (List.getElem?_eq_some_iff.mp he).1
  rw [List.length_eraseIdx, if_pos hn]
  omega

section turnover
variable {s : State} {n : Nat} {e : Entry} (he : s.boardBill.table[n]? = some e)
include he

theorem turnOver_of_energy (henergy : hasEnergy s.image e = true) (wait : Nat) {period : Nat}
    (hfresh : ∀ y ∈ s.boardBill.table, y.set = e.set → y.period ≠ period)
    (hroom : s.boardBill.table.length < tableCap) :
    turnOver s n wait e period = setTable (post s e.set (.claim e.period (claimValue s.image e) 1))
      (s.boardBill.table.set n (e.claiming s.image wait) ++ [newEntry s e.set e.pos period]) := by
  rw [turnOver, claimEntry_of_energy he henergy, makeCurrent_of_room (by exact free_of_claiming he hfresh)
    (by exact Nat.lt_of_le_of_lt (Nat.le_of_eq (List.length_set ..)) hroom)]
  rfl

theorem turnOver_of_none (henergy : hasEnergy s.image e = false) (wait : Nat) {period : Nat}
    (hfresh : ∀ y ∈ s.boardBill.table, y.set = e.set → y.period ≠ period)
    (hroom : s.boardBill.table.length ≤ tableCap) :
    turnOver s n wait e period =
      setTable s (s.boardBill.table.eraseIdx n ++ [newEntry s e.set e.pos period]) := by
  rw [turnOver, claimEntry_of_none he henergy, makeCurrent_of_room
    (by exact fun y hy => hfresh y (List.mem_of_mem_eraseIdx hy)) (by exact eraseIdx_room he hroom)]
  rfl

theorem turnOver_evicts (henergy : hasEnergy s.image e = true) (wait : Nat) {period m : Nat} {x : Entry}
    (hfresh : ∀ y ∈ s.boardBill.table, y.set = e.set → y.period ≠ period)
    (hfull : tableCap ≤ s.boardBill.table.length)
    (hx : (s.boardBill.table.set n (e.claiming s.image wait))[m]? = some x)
    (hold : evictPlace (s.boardBill.table.set n (e.claiming s.image wait)) = some m) :
    turnOver s n wait e period =
      setTable (leaveTable (setTable (post s e.set (.claim e.period (claimValue s.image e) 1))
          (s.boardBill.table.set n (e.claiming s.image wait))) m .evicted none)
        ((s.boardBill.table.set n (e.claiming s.image wait)).eraseIdx m ++ [newEntry s e.set e.pos period]) := by
  rw [turnOver, claimEntry_of_energy he henergy, makeCurrent_of_full (by exact free_of_claiming he hfresh)
    (by exact Nat.le_trans hfull (Nat.le_of_eq (List.length_set ..).symm)) hx hold]
  rfl

theorem turnOver_again (henergy : hasEnergy s.image e = true) (wait : Nat) {m : Nat} {y : Entry}
    (hy : (s.boardBill.table.set n (e.claiming s.image wait))[m]? = some y) (hset : y.set = e.set)
    (hwaits : y.state = .waitingClose) (hperiod : y.period ≠ 0)
    (hother : ∀ k z, k ≠ m → (s.boardBill.table.set n (e.claiming s.image wait))[k]? = some z →
      z.set ≠ e.set ∨ z.period ≠ y.period) :
    turnOver s n wait e y.period = setTable (post s e.set (.claim e.period (claimValue s.image e) 1))
      ((s.boardBill.table.set n (e.claiming s.image wait)).set m (reopen ((s.channel 0).state == .lost) e.pos y)) := by
  rw [turnOver, claimEntry_of_energy he henergy]
  rw [← hset] at hother ⊢
  rw [makeCurrent_again (by exact hy) hwaits hperiod (by exact hother)]
  rfl

theorem turnOver_beside (henergy : hasEnergy s.image e = true) (wait : Nat) {m : Nat} {y : Entry}
    (hy : (s.boardBill.table.set n (e.claiming s.image wait))[m]? = some y) (hset : y.set = e.set)
    (hclaimed : y.state = .claimed)
    (hother : ∀ k z, k ≠ m → (s.boardBill.table.set n (e.claiming s.image wait))[k]? = some z →
      z.set ≠ e.set ∨ z.period ≠ y.period)
    (hroom : s.boardBill.table.length < tableCap) :
    turnOver s n wait e y.period = setTable (post s e.set (.claim e.period (claimValue s.image e) 1))
      (s.boardBill.table.set n (e.claiming s.image wait) ++ [newEntry s e.set e.pos 0]) := by
  rw [turnOver, claimEntry_of_energy he henergy]
  rw [← hset] at hother ⊢
  rw [makeCurrent_beside (by exact hy) hclaimed (by exact hother) (by exact Nat.lt_of_le_of_lt (Nat.le_of_eq (List.length_set ..)) hroom)]
  rfl

end turnover

/-! ## A set's STATUS at the table (R164) -/

theorem supersedes_iff {set r : Nat} {e : Entry} :
    supersedes set r e = true ↔
      e.set = set ∧ e.period ≠ 0 ∧ e.state ≠ .claimed ∧ r ≠ e.period ∧
        r ≠ (if e.period = 1 then 65535 else e.period - 1) := by
  simp [supersedes, periodBefore, and_assoc]

/-- In IDLE the row of R98 asks the status just stored, and no note is tested; outside IDLE and WAITING nothing is. -/
theorem chgStatus_of_quiet {s : State} {set : Nat} {x : SetStatus} (hwaiting : s.chg.state ≠ .waiting)
    (hidle : s.chg.state = .idle → x.duty ≠ dutyCode .unloading ∧ s.chg.dryNote = none)
    (hstored : s.setStatusOf set = some x) : chgStatus s set x = s := by
  unfold chgStatus
  split
  · exact absurd (by assumption) hwaiting
  · obtain ⟨hduty, hnote⟩ := hidle (by assumption)
    split
    · rename_i hfeeding
      refine idleRows_of_quiet ?_ hnote
      have hstatus : s.feedingStatus = some x := by
        rw [State.feedingStatus, if_neg hfeeding.1, hfeeding.2, hstored]
      simp [firstTrigger, triggerTest, unloadingTest, hstatus, hduty]
    · rfl
  · rfl

theorem filter_single {t : List Entry} {p : Entry → Bool} {n : Nat} {e : Entry} (he : t[n]? = some e) (hp : p e = true)
    (hother : ∀ m y, m ≠ n → t[m]? = some y → p y = false) : t.filter p = [e] := by
  obtain ⟨hsplit, hlength⟩ := split_at he
  have hbefore : (t.take n).filter p = [] := List.filter_eq_nil_iff.mpr (fun y hy => by
    obtain ⟨k, hk, hat⟩ := getElem?_of_mem_take hy
    simp [hother k y (by omega) hat])
  have hafter : (t.drop (n + 1)).filter p = [] := List.filter_eq_nil_iff.mpr (fun y hy => by
    obtain ⟨k, hk, rfl⟩ := List.getElem_of_mem hy
    have hat : t[n + 1 + k]? = some ((t.drop (n + 1))[k]) := by rw [← List.getElem?_drop, List.getElem?_eq_getElem hk]
    exact Bool.eq_false_iff.mp (hother (n + 1 + k) _ (by omega) hat))
  rw [hsplit, List.filter_append, hbefore, List.filter_cons_of_pos hp, hafter]
  rfl

theorem placeOf_of_only {t : List Entry} {n : Nat} {e : Entry} (he : t[n]? = some e)
    (hother : ∀ m y, m ≠ n → t[m]? = some y → y.set ≠ e.set ∨ y.period ≠ e.period) :
    placeOf t e.set e.period = some n := by
  obtain ⟨hsplit, hlength⟩ := split_at he
  have := findIdx?_of_split (p := fun x => x.set == e.set && x.period == e.period) hsplit (by simp) (fun y hy => by
    obtain ⟨k, hk, hat⟩ := getElem?_of_mem_take hy
    have := hother k y (by omega) hat
    simp only [Bool.and_eq_false_iff, beq_eq_false_iff_ne, ne_eq]
    exact this)
  rw [placeOf, this, hlength]

theorem billStatus_of_none {s : State} {set r : Nat} (h : ∀ e ∈ s.boardBill.table, supersedes set r e = false) :
    billStatus s set r = s := by
  rw [billStatus, List.filter_eq_nil_iff.mpr (fun e he => by simp [h e he])]
  rfl

/-- One entry of the set that the status supersedes claims alone (R164). -/
theorem billStatus_of_one {s : State} {set r n : Nat} {e : Entry} (he : s.boardBill.table[n]? = some e)
    (hclosed : supersedes set r e = true)
    (hother : ∀ m y, m ≠ n → s.boardBill.table[m]? = some y →
      supersedes set r y = false ∧ (y.set ≠ e.set ∨ y.period ≠ e.period)) :
    billStatus s set r = if e.state = .current then turnOver s n statusWait e r else claimEntry s n statusWait := by
  rw [billStatus, filter_single he hclosed (fun m y hm hy => (hother m y hm hy).1)]
  simp only [List.map_cons, List.map_nil, List.foldl_cons, List.foldl_nil, statusActs,
    placeOf_of_only he (fun m y hm hy => (hother m y hm hy).2), he]

/-! ## The obligation -/

/-- What a CLOSE may leave of the settlement figures beside the table: the period it names is noted, where R161 has it. -/
structure NotesClose (s : State) (set period : Nat) (last : List (Nat × Nat)) : Prop where
  named : set ≠ 0 ∧ (s.image.setAt 1 = set ∨ s.image.setAt 2 = set ∨ s.image.setAt 3 = set) →
    last.find? (fun x => x.1 == set) = some (set, period)
  unnamed : ¬ (set ≠ 0 ∧ (s.image.setAt 1 = set ∨ s.image.setAt 2 = set ∨ s.image.setAt 3 = set)) →
    last = s.boardBill.lastClosed

/-- The state in which CLOSE acts on the table. -/
def State.closing (s : State) (p : List Peer) (last : List (Nat × Nat)) : State :=
  { s with
      peers := p
      line := { s.line with phase := .waiting }
      boardBill := { s.boardBill with lastClosed := last } }

theorem closing_of_heard (s : State) (f : RxFrame) (period : Nat) :
    ∃ p last, NotesClose s f.sender period last ∧
      s.heard f = { s with peers := p, line := { s.line with phase := .waiting } } ∧
      hearClose (s.heard f) f.sender period = s.closing p last := by
  obtain ⟨p, hp⟩ := heard_shape s f
  obtain ⟨last, hclose, hnamed, hunnamed⟩ := hearClose_shape (s.heard f) f.sender period
  rw [hp] at hclose hnamed hunnamed
  rw [hp]
  refine ⟨p, last, ⟨fun h => hnamed (namesSet_iff.mpr h), fun h => hunnamed ?_⟩, rfl, hclose⟩
  exact Bool.eq_false_iff.mpr (fun hnames => h (namesSet_iff.mp hnames))

/-- CLOSE at the entry that its set and period name is what `closeActs` makes of it. -/
theorem exec_close_of_place {s : State} {f : RxFrame} {p1 p0 f3 f2 f1 f0 e3 e2 e1 e0 w a : Byte} {rest : List Byte}
    (h : s.Takes f) (hrole : s.image.role = some .board)
    (hbody : f.body = p1 :: p0 :: f3 :: f2 :: f1 :: f0 :: e3 :: e2 :: e1 :: e0 :: w :: a :: rest)
    (hperiod : rd2 p1 p0 ≠ 0) {n : Nat} {e : Entry}
    (hplace : placeOf s.boardBill.table f.sender (rd2 p1 p0) = some n) (he : s.boardBill.table[n]? = some e)
    {p : List Peer} {last : List (Nat × Nat)}
    (hheard : s.heard f = { s with peers := p, line := { s.line with phase := .waiting } })
    (hclosing : hearClose (s.heard f) f.sender (rd2 p1 p0) = s.closing p last) :
    exec (.close f) s = .next (closeActs (s.closing p last) n w.toNat a.toNat e) := by
  rw [exec_close h hrole hbody, closeFrame_of_place hperiod (by rw [hheard]; exact hplace) (by rw [hheard]; exact he),
    hclosing]

theorem bound_is_held {t : List Entry} {e : Entry} (h : e ∈ t) : (placeOf t e.set e.period).isSome = true :=
  placeOf_isSome.mpr ⟨e, h, rfl, rfl⟩

/-- Settles O27: the rows of R161 at the entry found, then binding, then R164 at the one entry that a STATUS supersedes. -/
theorem closeMakesTheBoardClaim : Obligations.CloseMakesTheBoardClaim := by
  unfold Obligations.CloseMakesTheBoardClaim
  constructor
  · intro s f p1 p0 f3 f2 f1 f0 e3 e2 e1 e0 w a rest htakes hrole hbody hperiod period u named bill unbound'
    obtain ⟨p, last, hnotes, hheard, hclosing⟩ := closing_of_heard s f period
    have hu : u = { s with peers := p, line := { s.line with phase := .waiting } } := hheard
    have hbill : ∀ t, bill t { s.boardBill with table := t, lastClosed := last } := fun t =>
      ⟨rfl, rfl, hnotes.named, hnotes.unnamed⟩
    rw [hu]
    refine ⟨fun n e hplace he => ?_, fun hfree => ?_, fun hnone => ?_⟩
    · have hexec := exec_close_of_place htakes hrole hbody hperiod hplace he hheard hclosing
      obtain ⟨hset, hsame⟩ := placeOf_spec hplace he
      have hat : (s.closing p last).boardBill.table[n]? = some e := he
      intro c claimed
      refine ⟨fun hwaits => ?_, fun hcurrent => ?_, fun hclaimed => ?_⟩
      · simp only [hexec, closeActs, hwaits]
        exact ⟨fun henergy => ⟨_, hbill _, congrArg _ (claimEntry_of_energy hat (by exact henergy) _)⟩,
          fun henergy => ⟨_, hbill _, congrArg _ (claimEntry_of_none hat (by exact henergy) _)⟩⟩
      · intro next full v fresh
        simp only [hexec, closeActs, hcurrent, hsame]
        refine ⟨fun hfresh henergy hroom => ?_, fun hfresh henergy hroom => ?_,
          fun m y henergy hy hyset hyperiod hother => ⟨fun hywaits => ?_, fun hyclaimed hroom => ?_⟩,
          fun m x hfresh henergy hfull hx hold => ?_⟩
        · exact ⟨_, hbill _, congrArg _ (turnOver_of_energy hat (by exact henergy) _ (by exact hfresh) hroom)⟩
        · exact ⟨_, hbill _, congrArg _ (turnOver_of_none hat (by exact henergy) _ (by exact hfresh) hroom)⟩
        · have hnonzero : y.period ≠ 0 := by rw [hyperiod]; exact nextNumber_ne_zero 65535 period
          refine ⟨_, hbill _, congrArg _ ?_⟩
          rw [show periodAfter period = y.period from hyperiod.symm]
          exact turnOver_again hat (by exact henergy) _ hy hyset hywaits hnonzero (by rw [hyperiod]; exact hother)
        · refine ⟨_, hbill _, congrArg _ ?_⟩
          rw [show periodAfter period = y.period from hyperiod.symm]
          exact turnOver_beside hat (by exact henergy) _ hy hyset hyclaimed (by rw [hyperiod]; exact hother) hroom
        · have hturned := turnOver_evicts hat (by exact henergy) (w.toNat + waitExtra) (by exact hfresh)
            hfull (by exact hx) (evictPlace_of_oldest hx hold)
          refine ⟨_, hbill _, fun hnoenergy => congrArg _ (hturned.trans ?_), fun hxenergy => congrArg _ (hturned.trans ?_)⟩
          · rw [leaveTable_of_entry (by exact hx), if_neg (by rw [Bool.not_eq_true]; exact hnoenergy)]
            rfl
          · rw [leaveTable_of_entry (by exact hx), if_pos (by exact hxenergy)]
            rfl
      · have hacts : closeActs (s.closing p last) n w.toNat a.toNat e =
            if a.toNat = 1 then claimAgain (s.closing p last) n w.toNat e else s.closing p last := by
          simp only [closeActs, hclaimed]
        rw [hexec, hacts]
        refine ⟨fun hagain => ⟨_, hbill _, ?_⟩, fun hagain => ⟨_, hbill _, ?_⟩⟩
        · rw [if_pos hagain]
          rfl
        · rw [if_neg hagain]
          rfl
    · have hplace : placeOf (s.heard f).boardBill.table f.sender period = none := by
        rw [hheard]; exact placeOf_none (fun e he hset => (hfree e he hset).1)
      have hunbound : ∀ x ∈ s.boardBill.table, unbound f.sender x = false := fun x hx =>
        Bool.eq_false_iff.mpr (fun h => (hfree x hx (unbound_iff.mp h).1).2 (unbound_iff.mp h).2.1)
      rw [exec_close htakes hrole hbody]
      by_cases hagain : a.toNat = 0
      · refine ⟨_, s.free + 1, hbill _, congrArg _ ?_⟩
        rw [hagain, closeFrame_binds hperiod hplace, hclosing]
        rw [hheard] at hplace ⊢
        simp only [bindTable_of_none _ _ (by exact hunbound), closeRows]
        rw [show placeOf (setTable (s.closing p last) s.boardBill.table).boardBill.table f.sender (rd2 p1 p0) = none
          from hplace]
        rfl
      · refine ⟨_, s.free, hbill _, congrArg _ ?_⟩
        rw [closeFrame_of_repeat hperiod hplace _ hagain, hclosing]
        rfl
    · intro bound
      refine ⟨fun hagain => ?_, fun before e after hagain htable he hothers => ?_,
        fun before o between y after hagain htable ho hy hothers hsum => ?_⟩
      · refine ⟨_, hbill _, ?_⟩
        rw [exec_close htakes hrole hbody, closeFrame_of_repeat hperiod
          (by rw [hheard]; exact placeOf_none hnone) _ hagain, hclosing]
        rfl
      · refine exec_close_binds htakes hrole hbody hperiod hnone hagain ?_ ?_
        · rw [htable]
          exact bindTable_of_one s.free period (unbound_iff.mpr he)
            (fun x hx => Bool.eq_false_iff.mpr (fun h => hothers x hx (unbound_iff.mp h)))
        · rw [← he.1]
          exact bound_is_held (e := { e with period := period }) (by simp)
      · refine exec_close_binds htakes hrole hbody hperiod hnone hagain ?_ ?_
        · rw [htable, bindTable_of_two s.free period (unbound_iff.mpr ho) (unbound_iff.mpr hy)
            (fun x hx => Bool.eq_false_iff.mpr (fun h => hothers x hx (unbound_iff.mp h)))]
          simp only [mergeEntry, countOn, if_pos hsum]
          rfl
        · rw [← ho.1]
          exact placeOf_isSome.mpr ⟨_, List.mem_append_right _ (List.mem_cons_self ..), rfl, rfl⟩
  · intro s f own x hawake hfollows hsound hruns hown hne hbody hwaiting hidle u billed closed
    have hhears : s.hears f.sender = true := hears_of_other hown hne
    have hexec : exec (.status f) s = .next (billStatus u f.sender x.period) := by
      obtain ⟨p, hp⟩ := noted_shape s f.sender (.set x)
      have hstored : (s.noted f.sender (.set x)).setStatusOf f.sender = some x := by
        simp only [State.setStatusOf, peer_noted_self hhears]
      have hquiet : chgStatus (s.noted f.sender (.set x)) f.sender x = s.noted f.sender (.set x) :=
        chgStatus_of_quiet (by rw [hp]; exact hwaiting) (by rw [hp]; exact hidle) hstored
      rw [exec_status hawake hfollows hsound hown hne hbody, noticeStatus]
      rw [whenRuns_of_runs (by rw [hp]; exact hawake) (by rw [hp]; exact hruns), hquiet]
      rfl
    obtain ⟨p, hp⟩ := noted_shape s f.sender (.set x)
    have hu : u = { s with peers := p, line := { s.line with phase := .waiting } } := hp
    rw [hexec, hu]
    refine ⟨fun hnone => congrArg _ (billStatus_of_none (fun e he => ?_)), fun n e he hclosed hother => ?_⟩
    · exact Bool.eq_false_iff.mpr (fun h => hnone e he (supersedes_iff.mp h))
    · intro c full v
      have hat : ({ s with peers := p, line := { s.line with phase := .waiting } } : State).boardBill.table[n]? = some e :=
        he
      have hone := billStatus_of_one (r := x.period) hat (supersedes_iff.mpr hclosed) (fun m y hm hy =>
        ⟨Bool.eq_false_iff.mpr (fun h => (hother m y hm hy).1 (supersedes_iff.mp h)), (hother m y hm hy).2⟩)
      rw [hone]
      refine ⟨fun hwaits henergy => ?_, fun hwaits henergy => ?_, fun hcurrent henergy hroom hfresh => ?_⟩
      · rw [if_neg (by rw [hwaits]; decide)]
        exact congrArg _ (claimEntry_of_energy hat (by exact henergy) _)
      · rw [if_neg (by rw [hwaits]; decide)]
        exact congrArg _ (claimEntry_of_none hat (by exact henergy) _)
      · rw [if_pos hcurrent]
        exact congrArg _ (turnOver_of_energy hat (by exact henergy) _ (by exact hfresh) hroom)

end Sys2Proof.Machine
end

section
/-! PROOFS. What the tests of the changeover controller leave, and the frames it takes (O30, O31). -/
set_option Elab.async false

namespace Sys2Proof.Machine

/-! ## The tests in IDLE -/

theorem heldOff_iff {s : State} {r : Reason} : heldOff s r = true ↔ s.chg.retry.map Prod.snd = some r := by
  unfold heldOff
  cases s.chg.retry <;> simp

theorem heldOff_iff_exists {s : State} {r : Reason} : heldOff s r = true ↔ ∃ k, s.chg.retry = some (k, r) := by
  rw [heldOff_iff, Option.map_eq_some_iff]
  exact ⟨fun ⟨⟨k, _⟩, h, hr⟩ => ⟨k, by rw [h]; exact congrArg (fun x => some (k, x)) hr⟩, fun ⟨k, h⟩ => ⟨_, h, rfl⟩⟩

theorem unloadingTest_iff {s : State} :
    unloadingTest s = true ↔ s.closedPos ≠ 0 ∧ ∃ b, s.setStatusOf s.feedingSet = some b ∧ b.duty = dutyCode .unloading := by
  unfold unloadingTest State.feedingStatus
  split
  · simp [*]
  · simp [*, Option.any_eq_true]

/-- Where nothing begins an attempt, no row of R98 is taken. -/
theorem firstTrigger_of_calm {s : State} (h : s.Calm s.chg.retry s.chg.dwell) : firstTrigger s allRows = none := by
  refine Classical.byContradiction fun hsome => ?_
  obtain ⟨r, hr⟩ := Option.ne_none_iff_exists'.mp hsome
  obtain ⟨-, htest, hfree⟩ := firstTrigger_spec hr
  have hheld : heldOff s r = true := heldOff_iff.mpr (by
    cases r with
    | dead =>
      simp only [triggerTest, deadTest, Bool.and_eq_true, bne_iff_ne, beq_iff_eq] at htest
      exact h.dead htest.1 htest.2
    | restore =>
      simp only [triggerTest, restoreTest, Bool.and_eq_true, List.isEmpty_iff] at htest
      exact h.restore htest.1 htest.2
    | unload =>
      obtain ⟨hclosed, b, hb, hduty⟩ := unloadingTest_iff.mp htest
      exact h.unload b hclosed hb hduty
    | planned | dry => cases htest)
  rw [hheld] at hfree
  cases hfree

theorem noteTest_of_none {s : State} (h : s.chg.dryNote = none) : noteTest s = s := by
  simp only [noteTest, h]

theorem noteTest_of_dwell {s : State} (h : s.chg.dwell ≠ none) : noteTest s = s := by
  unfold noteTest
  split
  · rw [if_neg h]
  · rfl

/-- A note whose set feeds no longer, or shows DRY no longer, is cleared (R97). -/
theorem noteTest_clears {s : State} {n : Nat} (hnote : s.chg.dryNote = some n) (hdwell : s.chg.dwell = none)
    (h : n ≠ s.feedingSet ∨ s.feedingStatus.any SetStatus.dryFlag = false) :
    noteTest s = { s with chg := { s.chg with dryNote := none } } := by
  unfold noteTest
  simp only [hnote]
  rw [if_pos hdwell, if_neg]
  rintro ⟨hset, hflag⟩
  rcases h with h | h
  · exact h hset
  · rw [hflag] at h; cases h

/-- A note that still holds stands where a DRY retry runs, and is the DRY trigger otherwise (R97, R99). -/
theorem noteTest_holds {s : State} {n : Nat} (hnote : s.chg.dryNote = some n) (hdwell : s.chg.dwell = none)
    (hset : n = s.feedingSet) (hflag : s.feedingStatus.any SetStatus.dryFlag = true) :
    noteTest s = if heldOff s .dry then s else takeTrigger s .dry := by
  unfold noteTest
  simp only [hnote]
  rw [if_pos hdwell, if_pos ⟨hset, hflag⟩]

theorem noteTest_of_calm {s : State} (h : s.Calm s.chg.retry s.chg.dwell) : noteTest s = s := by
  by_cases hdwell : s.chg.dwell = none
  · cases hnote : s.chg.dryNote with
    | none => exact noteTest_of_none hnote
    | some n =>
      rcases h.note n hnote with hno | ⟨hset, hflag, hretry⟩
      · exact absurd hdwell hno
      · rw [noteTest_holds hnote hdwell hset hflag, if_pos (heldOff_iff.mpr hretry)]
  · exact noteTest_of_dwell hdwell

theorem idleRows_of_trigger {s : State} {rows : List Reason} {r : Reason} (hidle : s.chg.state = .idle)
    (h : firstTrigger s rows = some r) : idleRows s rows = takeTrigger s r := by
  rw [idleRows, if_pos hidle]
  simp only [h]

theorem idleRows_of_no_trigger {s : State} {rows : List Reason} (hidle : s.chg.state = .idle)
    (h : firstTrigger s rows = none) : idleRows s rows = noteTest s := by
  rw [idleRows, if_pos hidle]
  simp only [h]

theorem idleTests_of_calm {s : State} (h : s.Calm s.chg.retry s.chg.dwell) : idleTests s = s := by
  by_cases hidle : s.chg.state = .idle
  · rw [idleTests, idleRows_of_no_trigger hidle (firstTrigger_of_calm h), noteTest_of_calm h]
  · exact idleRows_of_not_idle hidle _

/-! ## The end of an attempt, and the next candidate -/

/-- An attempt that ends where nothing begins another leaves its record and its timers, and nothing else. -/
theorem endAttempt_of_calm {w : State} {a : Attempt} {o : ChgOutcome}
    (h : w.Calm (retryAfter w.chg a o) (dwellAfter w.chg o)) :
    endAttempt w a o = w.ended a o (retryAfter w.chg a o) (dwellAfter w.chg o) :=
  idleTests_of_calm (s := enterChg (closeAttempt w a o) .idle) ⟨h.dead, h.restore, h.unload, h.note⟩

theorem nextCandidate_of_place {w : State} {a : Attempt} {n : Nat} (h : nextPlace w a = some n) :
    nextCandidate w a = (if w.chg.state = .seeking then w else enterChg w .seeking).asking a n := by
  unfold nextCandidate
  simp only [h]
  rfl

theorem nextCandidate_of_none {w : State} {a : Attempt} (h : nextPlace w a = none)
    (hcalm : w.Calm (retryAfter w.chg a .allRefused) w.chg.dwell) :
    nextCandidate w a = w.ended a .allRefused (retryAfter w.chg a .allRefused) w.chg.dwell := by
  unfold nextCandidate
  simp only [h]
  exact endAttempt_of_calm hcalm

/-- A candidate given up while the attempt seeks (R102). -/
theorem abandonCandidate_of_seeking {w : State} {a : Attempt} {n : Nat} (hstate : w.chg.state = .seeking)
    (h : nextPlace w a = some n) : abandonCandidate w a = (w.released a).asking a n := by
  rw [abandonCandidate, nextCandidate_of_place (n := n) (by exact h), if_pos (by exact hstate)]
  rfl

/-- A candidate given up while the attempt waits (R104). -/
theorem abandonCandidate_of_waiting {w : State} {a : Attempt} {n : Nat} (hstate : w.chg.state = .waiting)
    (h : nextPlace w a = some n) :
    abandonCandidate w a =
      (postStatus { w.released a with chg := { (w.released a).chg with state := .seeking } }).asking a n := by
  have hnot : ¬ w.chg.state = .seeking := by rw [hstate]; decide
  rw [abandonCandidate, nextCandidate_of_place (n := n) (by exact h), if_neg (by exact hnot)]
  rfl

/-- The last candidate given up: the attempt ends ALL_REFUSED (R103). -/
theorem abandonCandidate_of_last {w : State} {a : Attempt} (h : nextPlace w a = none)
    (hcalm : w.Calm (retryAfter w.chg a .allRefused) w.chg.dwell) :
    abandonCandidate w a =
      (w.released a).ended { a with owed := false } .allRefused (retryAfter w.chg a .allRefused) w.chg.dwell := by
  rw [abandonCandidate, nextCandidate_of_none (by exact h) (by exact ⟨hcalm.dead, hcalm.restore, hcalm.unload, hcalm.note⟩)]
  rfl

/-! ## The candidates (R101) -/

theorem candidateList_eq {u : State} {estimate : Nat} {kept ready : Nat → Bool}
    (hkept : ∀ pos, kept pos = true ↔ u.Candidate estimate pos)
    (hready : ∀ pos, ready pos = true ↔ ∃ b, u.Hears pos b ∧ b.duty = dutyCode .ready) :
    candidateList u estimate = u.image.preferenceOrder.filter (fun pos => kept pos && ready pos) ++
      u.image.preferenceOrder.filter (fun pos => kept pos && !ready pos) := by
  have hk : kept = candidateOk u estimate := funext fun pos =>
    Bool.eq_iff_iff.mpr ((hkept pos).trans candidateOk_iff.symm)
  have hr : ready = showsReady u := funext fun pos => Bool.eq_iff_iff.mpr ((hready pos).trans showsReady_iff.symm)
  rw [candidateList, hk, hr, List.filter_filter, List.filter_filter]
  rw [List.filter_congr (fun x _ => Bool.and_comm (showsReady u x) (candidateOk u estimate x)),
    List.filter_congr (fun x _ => Bool.and_comm (!showsReady u x) (candidateOk u estimate x))]

theorem nextPlace_test_iff {u : State} {a : Attempt} {n : Nat} :
    n < a.candidates.length ∧ (decide (a.cursor < n) && candidateOk u a.estimate (a.candidates.getD n 0)) = true ↔
      a.cursor < n ∧ n < a.candidates.length ∧ u.Candidate a.estimate (a.candidates.getD n 0) := by
  rw [Bool.and_eq_true, decide_eq_true_eq, candidateOk_iff]
  exact and_left_comm

theorem nextPlace_some_iff {u : State} {a : Attempt} {n : Nat} :
    nextPlace u a = some n ↔
      (a.cursor < n ∧ n < a.candidates.length ∧ u.Candidate a.estimate (a.candidates.getD n 0)) ∧
        ∀ m, m < n → ¬ (a.cursor < m ∧ m < a.candidates.length ∧ u.Candidate a.estimate (a.candidates.getD m 0)) := by
  rw [nextPlace, List.find?_range_eq_some]
  simp only [← nextPlace_test_iff, List.mem_range, Bool.not_eq_true']
  constructor
  · rintro ⟨htest, hlt, hbefore⟩
    exact ⟨⟨hlt, htest⟩, fun m hm ⟨_, hpass⟩ => by rw [hbefore m hm] at hpass; cases hpass⟩
  · rintro ⟨⟨hlt, htest⟩, hbefore⟩
    exact ⟨htest, hlt, fun m hm => Bool.eq_false_iff.mpr (fun hpass => hbefore m hm ⟨by omega, hpass⟩)⟩

theorem nextPlace_none_iff {u : State} {a : Attempt} :
    nextPlace u a = none ↔
      ∀ n, ¬ (a.cursor < n ∧ n < a.candidates.length ∧ u.Candidate a.estimate (a.candidates.getD n 0)) := by
  rw [nextPlace, List.find?_range_eq_none]
  simp only [← nextPlace_test_iff, Bool.not_eq_true', Bool.eq_false_iff, ne_eq, not_and]

/-! ## DRY (R97) -/

theorem exec_dry {s : State} {f : RxFrame} {t1 t0 c1 c0 : Byte} {rest : List Byte} (h : s.Takes f)
    (hrole : s.image.role = some .board) (hbody : f.body = t1 :: t0 :: c1 :: c0 :: rest) :
    exec (.dry f) s = .next (dryFrame (s.heard f) f.sender) := by
  have hreceive := receive_of_takes h (k := .dry) (by decide) (b := .dry (rd2 t1 t0) (rd2 c1 c0)) (by rw [hbody]; rfl)
  exact congrArg Host.Outcome.next (hreceive.trans (deliver_to_board h hrole (fun t => dryFrame t f.sender)))

theorem feeding_iff {s : State} {sender : Nat} :
    (s.closedPos != 0 && s.feedingSet == sender && s.image.followsDry) = true ↔
      s.closedPos ≠ 0 ∧ s.image.setAt s.closedPos = sender ∧ s.image.followsDry = true := by
  simp [State.feedingSet, and_assoc]

theorem dryFrame_of_idle {s : State} (hidle : s.chg.state = .idle) (sender : Nat) :
    dryFrame s sender =
      if (s.closedPos != 0 && s.feedingSet == sender && s.image.followsDry) = true then
        if s.chg.dwell = none ∧ heldOff s .dry = false then takeTrigger s .dry else noteDry s sender
      else s := by
  simp only [dryFrame, hidle]

theorem dryFrame_of_asking {s : State} {a : Attempt} (hattempt : s.chg.attempt = some a)
    (hstate : s.chg.state = .seeking ∨ s.chg.state = .waiting) (sender : Nat) :
    dryFrame s sender =
      if s.image.setAt a.target = sender then
        abandonCandidate
          (if (s.closedPos != 0 && s.feedingSet == sender && s.image.followsDry) = true then noteDry s sender else s) a
      else if (s.closedPos != 0 && s.feedingSet == sender && s.image.followsDry) = true then noteDry s sender else s := by
  rcases hstate with h | h <;> simp [dryFrame, h, hattempt]

theorem dryFrame_of_moving {s : State} {a : Attempt} (hattempt : s.chg.attempt = some a)
    (hstate : s.chg.state = .breaking ∨ s.chg.state = .dead ∨ s.chg.state = .making) (sender : Nat) :
    dryFrame s sender =
      if s.image.setAt a.target = sender ∧ s.image.followsDry = true then noteDry s sender else s := by
  rcases hstate with h | h | h <;> simp [dryFrame, h, hattempt]

theorem beginAttempt_asks (s : State) (r : Reason) (c : Nat) (more : List Nat) :
    beginAttempt s r (c :: more) =
      askCandidate (enterChg
        { s with chg := { s.chg with retry := none, dryNote := if r = .dry then none else s.chg.dryNote } } .seeking)
        (newAttempt s r (c :: more)) := by
  rw [beginAttempt, if_neg (List.cons_ne_nil c more)]

theorem beginAttempt_empty (s : State) (r : Reason) :
    beginAttempt s r [] =
      emptyAttempt { s with chg := { s.chg with retry := none, dryNote := if r = .dry then none else s.chg.dryNote } }
        (newAttempt s r []) := by
  rw [beginAttempt, if_pos rfl]

/-- Settles O30: by the state of the changeover that the DRY frame meets. -/
theorem dryFrameTriggersOrIsNoted : Obligations.DryFrameTriggersOrIsNoted := by
  unfold Obligations.DryFrameTriggersOrIsNoted
  refine ⟨fun u estimate kept ready hkept hready => candidateList_eq hkept hready,
    fun u a => ⟨fun n => nextPlace_some_iff, nextPlace_none_iff⟩, ?_⟩
  intro s f t1 t0 c1 c0 rest htakes hrole hbody u feeding held noted taken estimate ticket
  have hexec : exec (.dry f) s = .next (dryFrame u f.sender) := exec_dry htakes hrole hbody
  obtain ⟨p, hp⟩ := heard_shape s f
  have hu : u = { s with peers := p, line := { s.line with phase := .waiting } } := hp
  have hfeeding : (u.closedPos != 0 && u.feedingSet == f.sender && u.image.followsDry) = true ↔ feeding := by
    rw [feeding_iff, hu]; rfl
  have hheld : (u.chg.dwell = none ∧ heldOff u .dry = false) ↔ ¬ held := by
    rw [hu, ← Bool.not_eq_true, heldOff_iff_exists]
    exact (not_or.trans (and_congr_left' Classical.not_not)).symm
  have hchg : u.chg = s.chg := by rw [hu]
  have hnoted : noteDry u f.sender = noted := by rw [noteDry, hchg]
  have hestimate : loadEstimate u = estimate := by rw [hu]; rfl
  rw [hexec]
  refine ⟨fun hidle hno => ?_, fun hidle hyes hh => ?_, fun hidle hyes hh => ?_, fun a hattempt => ⟨fun hstate => ?_, fun hstate => ?_⟩⟩
  · rw [dryFrame_of_idle (by rw [hchg]; exact hidle), if_neg (fun h => hno (hfeeding.mp h))]
  · rw [dryFrame_of_idle (by rw [hchg]; exact hidle), if_pos (hfeeding.mpr hyes), if_neg (fun h => hheld.mp h hh),
      hnoted]
  · rw [dryFrame_of_idle (by rw [hchg]; exact hidle), if_pos (hfeeding.mpr hyes), if_pos (hheld.mpr hh), takeTrigger,
      hestimate]
    refine ⟨fun c more hlist => ?_, fun hlist hquiet => ?_, fun hlist hquiet => ?_⟩
    · rw [hlist, beginAttempt_asks, newAttempt, hestimate, hu]
      rfl
    · have hsame : ({ taken with retry := some (0, .dry) } : Changeover) =
          { taken with retry := some (0, .dry), quiet := some .dry } := by rw [← hquiet]
      rw [hlist, beginAttempt_empty, emptyAttempt, if_pos (by rw [hu]; exact hquiet), hsame, hu]
      rfl
    · rw [hlist, beginAttempt_empty, emptyAttempt, if_neg (by rw [hu]; exact hquiet), hu]
      rfl
  · intro m hyes hno retry
    have hm : m = if (u.closedPos != 0 && u.feedingSet == f.sender && u.image.followsDry) = true then noteDry u f.sender
        else u := by
      split
      · rw [hyes (hfeeding.mp (by assumption)), hnoted]
      · exact hno (fun h => absurd (hfeeding.mpr h) (by assumption))
    have hmchg : m.chg.state = s.chg.state ∧ m.chg.retry = s.chg.retry ∧ m.chg.dwell = s.chg.dwell := by
      rw [hm]
      split <;> rw [hu] <;> exact ⟨rfl, rfl, rfl⟩
    obtain ⟨hmstate, hmretry, hmdwell⟩ := hmchg
    have hplace : nextPlace m a = nextPlace u a := by
      rw [hm]
      split <;> rfl
    rw [dryFrame_of_asking (by rw [hchg]; exact hattempt) (by rw [hchg]; exact hstate), ← hm]
    have htarget : u.image.setAt a.target = s.image.setAt a.target := by rw [hu]
    rw [htarget]
    refine ⟨fun hne => by rw [if_neg hne], fun heq => ?_⟩
    intro w v
    rw [if_pos heq]
    refine ⟨fun n hn => ?_, fun hlast hcalm => ?_⟩
    · rcases hstate with hseek | hwait
      · rw [abandonCandidate_of_seeking (hmstate.trans hseek) (hplace.trans hn)]
        simp only [v, if_neg (show ¬ s.chg.state = .waiting by rw [hseek]; decide)]
        rfl
      · rw [abandonCandidate_of_waiting (hmstate.trans hwait) (hplace.trans hn)]
        simp only [v, if_pos hwait]
        rfl
    · have hretry : retryAfter m.chg a .allRefused = retry := by rw [retryAfter, hmretry]
      rw [abandonCandidate_of_last (hplace.trans hlast) (by rw [hretry, hmdwell]; exact hcalm), hretry, hmdwell]
  · rw [dryFrame_of_moving (by rw [hchg]; exact hattempt) (by rw [hchg]; exact hstate), hnoted]
    have himage : u.image = s.image := by rw [hu]
    rw [himage]
    refine ⟨fun heq hfollows => by rw [if_pos ⟨heq, hfollows⟩], fun hne => ?_⟩
    rw [if_neg]
    rintro ⟨heq, hfollows⟩
    rcases hne with h | h
    · exact h heq
    · rw [hfollows] at h; cases h

/-! ## TAKE_REPLY (R102, R104, R110) -/

theorem exec_takeReply {s : State} {f : RxFrame} {t v r h1 h0 hd : Byte} {rest : List Byte} (h : s.Takes f)
    (hrole : s.image.role = some .board) (hbody : f.body = t :: v :: r :: h1 :: h0 :: hd :: rest) :
    exec (.takeReply f) s = .next (takeReplyFrame (s.heard f) f.sender t.toNat v.toNat) := by
  have hreceive := receive_of_takes h (k := .takeReply) (by decide)
    (b := .takeReply t.toNat v.toNat r.toNat (rd2 h1 h0) hd.toNat) (by rw [hbody]; rfl)
  exact congrArg Host.Outcome.next (hreceive.trans
    (deliver_to_board h hrole (fun w => takeReplyFrame w f.sender t.toNat v.toNat)))

theorem takeReplyFrame_of_none {s : State} (h : s.chg.attempt = none) (sender ticket verdict : Nat) :
    takeReplyFrame s sender ticket verdict = s := by
  simp only [takeReplyFrame, h]

/-- What a reply does to the attempt, by its verdict, in a state that asks. -/
def verdictActs (s : State) (a : Attempt) (verdict : Nat) : State :=
  if verdict = verdictGrant then moveSwitch s a
  else if verdict = verdictPending ∧ s.chg.state = .seeking then
    enterChg (setAttempt s (some { a with owed := true, timer := 0 })) .waiting
  else if verdict = verdictRefuse then nextCandidate s { a with owed := false }
  else s

theorem takeReplyFrame_of_asking {s : State} {a : Attempt} (h : s.chg.attempt = some a)
    (hstate : s.chg.state = .seeking ∨ s.chg.state = .waiting) {sender ticket : Nat}
    (hsender : sender = s.image.setAt a.target) (hticket : ticket = a.ticket) (verdict : Nat) :
    takeReplyFrame s sender ticket verdict = verdictActs s a verdict := by
  have hours : sender = s.image.setAt a.target ∧ ticket = a.ticket := ⟨hsender, hticket⟩
  rcases hstate with hs | hs
  · simp only [takeReplyFrame, h, if_pos hours, hs, verdictActs, and_true]
  · simp only [takeReplyFrame, h, if_pos hours, hs, verdictActs, reduceCtorEq, and_false, if_false]

theorem takeReplyFrame_of_other {s : State} {a : Attempt} (h : s.chg.attempt = some a) {sender ticket : Nat}
    (hother : sender ≠ s.image.setAt a.target ∨ ticket ≠ a.ticket ∨
      ¬ (s.chg.state = .seeking ∨ s.chg.state = .waiting)) (verdict : Nat) :
    takeReplyFrame s sender ticket verdict = s := by
  unfold takeReplyFrame
  simp only [h]
  by_cases hours : sender = s.image.setAt a.target ∧ ticket = a.ticket
  · rw [if_pos hours]
    obtain ⟨hseek, hwait⟩ := not_or.mp (hother.resolve_left (not_not_intro hours.1) |>.resolve_left (not_not_intro hours.2))
    split
    · next hs => exact absurd hs hseek
    · next hs => exact absurd hs hwait
    all_goals rfl
  · rw [if_neg hours]

/-- Settles O31: by the verdict, a GRANT by the closed position. -/
theorem takeReplyMovesTheAttempt : Obligations.TakeReplyMovesTheAttempt := by
  unfold Obligations.TakeReplyMovesTheAttempt
  intro s f t v r h1 h0 hd rest htakes hrole hbody u
  have hexec : exec (.takeReply f) s = .next (takeReplyFrame u f.sender t.toNat v.toNat) :=
    exec_takeReply htakes hrole hbody
  obtain ⟨p, hp⟩ := heard_shape s f
  have hu : u = { s with peers := p, line := { s.line with phase := .waiting } } := hp
  have hchg : u.chg = s.chg := by rw [hu]
  have himage : u.image = s.image := by rw [hu]
  have hclosed : u.closedPos = s.closedPos := by rw [hu]; rfl
  rw [hexec]
  refine ⟨fun hnone => by rw [takeReplyFrame_of_none (by rw [hchg]; exact hnone)], fun a hattempt => ?_⟩
  intro asking retry
  have hat : u.chg.attempt = some a := by rw [hchg]; exact hattempt
  refine ⟨fun hother => ?_, fun hsender hticket => ?_⟩
  · rw [takeReplyFrame_of_other hat (by rw [himage, hchg]; exact hother)]
  have hacts : asking → takeReplyFrame u f.sender t.toNat v.toNat = verdictActs u a v.toNat := fun h =>
    takeReplyFrame_of_asking hat (by rw [hchg]; exact h) (by rw [himage]; exact hsender) hticket _
  have hnot : ∀ {m k : Nat}, v.toNat = m → m ≠ k → ¬ v.toNat = k := fun h hne heq => hne (h.symm.trans heq)
  refine ⟨fun hask hv hopen hother => ?_, fun hask hv hopen => ?_, fun hseek hv => ?_, fun hwait hv => ?_,
    fun hask hv => ?_, fun hask hv hopen hown hcalm => ?_, fun n hask hv hplace => ?_, fun hask hv hplace hcalm => ?_⟩
  · rw [hacts hask, verdictActs, if_pos hv, moveSwitch, hclosed, if_neg (fun h => hother h.2), if_pos hopen, hu]
    rfl
  · rw [hacts hask, verdictActs, if_pos hv, moveSwitch, hclosed, if_neg (fun h => h.1 hopen), if_neg (not_not_intro hopen), hu]
    rfl
  · rw [hacts (.inl hseek), verdictActs, if_neg (hnot hv (by decide)), if_pos ⟨hv, by rw [hchg]; exact hseek⟩, hu]
    rfl
  · have hwaits : ¬ (v.toNat = verdictPending ∧ u.chg.state = .seeking) := fun h => by
      rw [hchg, hwait] at h
      cases h.2
    rw [hacts (.inr hwait), verdictActs, if_neg (hnot hv (by decide)), if_neg hwaits, if_neg (hnot hv (by decide))]
  · have hbeyond : ∀ k : Nat, k ≤ 2 → ¬ v.toNat = k := fun k hk h => by omega
    rw [hacts hask, verdictActs, if_neg (hbeyond _ (by decide)), if_neg (fun h => hbeyond _ (by decide) h.1),
      if_neg (hbeyond _ (by decide))]
  · intro b c
    rw [hacts hask, verdictActs, if_pos hv, moveSwitch, hclosed, if_pos ⟨hopen, hown⟩, commitMove]
    have hold : ¬ ((0 : Nat) ≠ 0 ∧ (setAttempt u (some b)).image.setAt 0 ≠ 0) := fun h => h.1 rfl
    dsimp only
    rw [if_neg (by exact hold), endAttempt_of_calm (by rw [hu] at hcalm ⊢; exact ⟨hcalm.dead, hcalm.restore, hcalm.unload, hcalm.note⟩)]
    dsimp only [c]
    rw [hsender, hu]
    rfl
  · intro w
    have hpending : ¬ (v.toNat = verdictPending ∧ u.chg.state = .seeking) := fun h => hnot hv (by decide) h.1
    rw [hacts hask, verdictActs, if_neg (hnot hv (by decide)), if_neg hpending, if_pos hv,
      nextCandidate_of_place (n := n) (by exact hplace), hchg]
    rcases hask with hseek | hwait
    · simp only [w, if_pos hseek, if_neg (show ¬ s.chg.state = .waiting by rw [hseek]; decide)]
      rfl
    · simp only [w, if_pos hwait, if_neg (show ¬ s.chg.state = .seeking by rw [hwait]; decide), enterChg, hchg]
      rfl
  · have hpending : ¬ (v.toNat = verdictPending ∧ u.chg.state = .seeking) := fun h => hnot hv (by decide) h.1
    have hretry : retryAfter u.chg { a with owed := false } .allRefused = retry := by rw [retryAfter, hchg]
    rw [hacts hask, verdictActs, if_neg (hnot hv (by decide)), if_neg hpending, if_pos hv,
      nextCandidate_of_none (by exact hplace) (by rw [hretry, hchg]; exact hcalm), hretry, hchg]

end Sys2Proof.Machine
end

section
/-! PROOFS. The candidates of a BOARD asked in turn (O32), its switch (O33) and the switch faults (O34). -/
set_option Elab.async false

namespace Sys2Proof.Machine

/-! ## The expiries of the step timer -/

/-- What a step of the changeover controller does where its test passes, and where it does not. -/
theorem chgStep_of_runs {s : State} (hawake : s.awake = true) (hruns : s.runs .board = true) (due : State → Bool)
    (f : State → State) :
    whenRuns .board s (fun t => if due t = true then f t else t) = if due s = true then f s else s :=
  whenRuns_of_runs hawake hruns _

theorem stepDue_iff {s : State} {a : Attempt} (h : s.chg.attempt = some a) (c : ChgState) :
    s.stepDue c = true ↔ s.chg.state = c ∧ stepLimit s.image c ≤ a.timer := by
  simp [State.stepDue, h]

theorem stepDue_false {s : State} {a : Attempt} (h : s.chg.attempt = some a) {c : ChgState}
    (hc : s.chg.state ≠ c ∨ a.timer < stepLimit s.image c) : s.stepDue c = false := by
  rw [← Bool.not_eq_true, stepDue_iff h]
  rintro ⟨hstate, htimer⟩
  rcases hc with hc | hc
  · exact hc hstate
  · omega

section steps
variable {s : State} {a : Attempt} (hawake : s.awake = true) (hruns : s.runs .board = true)
  (hattempt : s.chg.attempt = some a)
include hawake hruns hattempt

theorem exec_takeResend_due (hstate : s.chg.state = .seeking) (htimer : 2 ≤ a.timer) :
    exec .takeResend s = .next (seekOver s) := by
  refine congrArg Host.Outcome.next ((chgStep_of_runs hawake hruns (fun t => t.stepDue .seeking) seekOver).trans ?_)
  rw [if_pos ((stepDue_iff hattempt .seeking).mpr ⟨hstate, htimer⟩)]

theorem exec_takeResend_early (h : s.chg.state ≠ .seeking ∨ a.timer < 2) : exec .takeResend s = .next s := by
  refine congrArg Host.Outcome.next ((chgStep_of_runs hawake hruns (fun t => t.stepDue .seeking) seekOver).trans ?_)
  rw [stepDue_false hattempt (c := .seeking) h]
  rfl

theorem exec_waitingTimeout_due (hstate : s.chg.state = .waiting) (htimer : 180 ≤ a.timer) :
    exec .waitingTimeout s = .next (waitOver180 s) := by
  refine congrArg Host.Outcome.next ((chgStep_of_runs hawake hruns (fun t => t.stepDue .waiting) waitOver180).trans ?_)
  rw [if_pos ((stepDue_iff hattempt .waiting).mpr ⟨hstate, htimer⟩)]

theorem exec_waitingTimeout_early (h : s.chg.state ≠ .waiting ∨ a.timer < 180) : exec .waitingTimeout s = .next s := by
  refine congrArg Host.Outcome.next ((chgStep_of_runs hawake hruns (fun t => t.stepDue .waiting) waitOver180).trans ?_)
  rw [stepDue_false hattempt (c := .waiting) h]
  rfl

theorem exec_deadTimeExpiry_due (hstate : s.chg.state = .dead) (htimer : s.image.deadSeconds ≤ a.timer) :
    exec .deadTimeExpiry s = .next (deadTimeOver s a) := by
  refine congrArg Host.Outcome.next ((chgStep_of_runs hawake hruns (fun t => t.stepDue .dead) deadOver).trans ?_)
  rw [if_pos ((stepDue_iff hattempt .dead).mpr ⟨hstate, htimer⟩)]
  simp only [deadOver, hattempt]

theorem exec_deadTimeExpiry_early (h : s.chg.state ≠ .dead ∨ a.timer < s.image.deadSeconds) :
    exec .deadTimeExpiry s = .next s := by
  refine congrArg Host.Outcome.next ((chgStep_of_runs hawake hruns (fun t => t.stepDue .dead) deadOver).trans ?_)
  rw [stepDue_false hattempt (c := .dead) h]
  rfl

end steps

theorem seekOver_of_first {s : State} {a : Attempt} (h : s.chg.attempt = some a) (hsends : a.sends = 1) :
    seekOver s = post { s with chg := { s.chg with attempt := some { a with sends := 2, timer := 0 } } }
      (s.image.setAt a.target) (.take a.ticket a.estimate (reasonCode a.reason)) := by
  simp only [seekOver, h, if_pos hsends]
  rfl

theorem seekOver_of_second {s : State} {a : Attempt} (h : s.chg.attempt = some a) (hsends : a.sends = 2) :
    seekOver s = abandonCandidate s a := by
  simp only [seekOver, h, if_neg (show ¬ a.sends = 1 by rw [hsends]; decide)]

/-! ## A set's STATUS at a BOARD (R29) -/

/-- A SET STATUS goes to the controller first, and then to the settlement unit. -/
theorem exec_setStatus {s : State} {f : RxFrame} {own : Nat} {x : SetStatus} (hawake : s.awake = true)
    (hfollows : s.follows = true) (hsound : frameSound f = true) (hruns : s.runs .board = true)
    (hown : s.image.station = some own) (hne : own ≠ f.sender) (hbody : parseStatus f.body = some (.set x)) :
    exec (.status f) s =
      .next (billStatus (chgStatus (s.noted f.sender (.set x)) f.sender x) f.sender x.period) := by
  obtain ⟨p, hp⟩ := noted_shape s f.sender (.set x)
  rw [exec_status hawake hfollows hsound hown hne hbody, noticeStatus,
    whenRuns_of_runs (by rw [hp]; exact hawake) (by rw [hp]; exact hruns)]

/-- Where no entry is closed by it, the STATUS leaves the settlement table as it is (R164). -/
theorem billStatus_of_closesNone {s v : State} {set r : Nat} (h : s.ClosesNone set r)
    (htable : v.boardBill.table = s.boardBill.table) : billStatus v set r = v := by
  refine billStatus_of_none (fun e he => Bool.eq_false_iff.mpr (fun hsup => ?_))
  rw [htable] at he
  obtain ⟨hset, hperiod, hstate, hown, hbefore⟩ := supersedes_iff.mp hsup
  exact (h e he hset hperiod hstate).elim hown hbefore

/-- What the controller leaves of the STATUS is what the settlement unit takes it at. -/
theorem exec_setStatus_answers {s v : State} {f : RxFrame} {own : Nat} {x : SetStatus} (hawake : s.awake = true)
    (hfollows : s.follows = true) (hsound : frameSound f = true) (hruns : s.runs .board = true)
    (hown : s.image.station = some own) (hne : own ≠ f.sender) (hbody : parseStatus f.body = some (.set x))
    (hv : chgStatus (s.noted f.sender (.set x)) f.sender x = v) (htable : v.boardBill.table = s.boardBill.table) :
    exec (.status f) s = .next (billStatus v f.sender x.period) ∧
      (s.ClosesNone f.sender x.period → exec (.status f) s = .next v) := by
  have hexec := exec_setStatus hawake hfollows hsound hruns hown hne hbody
  rw [hv] at hexec
  exact ⟨hexec, fun hnone => by rw [hexec, billStatus_of_closesNone hnone htable]⟩

theorem chgStatus_of_waiting {s : State} {a : Attempt} (hattempt : s.chg.attempt = some a)
    (hstate : s.chg.state = .waiting) (set : Nat) (x : SetStatus) :
    chgStatus s set x =
      if s.image.setAt a.target = set ∧ x.faultFlag = true then abandonCandidate s a else s := by
  simp only [chgStatus, hstate, hattempt]

/-- Settles O32: the candidate is asked again or given up, and then the next place decides. -/
theorem candidatesAreAskedInTurn : Obligations.CandidatesAreAskedInTurn := by
  unfold Obligations.CandidatesAreAskedInTurn
  intro s a hawake hruns hattempt released retry refused
  refine ⟨fun hstate htimer hsends => ?_, fun n hstate htimer hsends hplace => ?_,
    fun hstate htimer hsends hplace hcalm => ?_, exec_takeResend_early hawake hruns hattempt,
    fun n hstate htimer hplace => ?_, fun hstate htimer hplace hcalm => ?_,
    exec_waitingTimeout_early hawake hruns hattempt, ?_⟩
  · rw [exec_takeResend_due hawake hruns hattempt hstate htimer, seekOver_of_first hattempt hsends]
  · rw [exec_takeResend_due hawake hruns hattempt hstate htimer, seekOver_of_second hattempt hsends,
      abandonCandidate_of_seeking hstate hplace]
  · rw [exec_takeResend_due hawake hruns hattempt hstate htimer, seekOver_of_second hattempt hsends,
      abandonCandidate_of_last hplace hcalm]
    rfl
  · rw [exec_waitingTimeout_due hawake hruns hattempt hstate htimer]
    simp only [waitOver180, hattempt]
    rw [abandonCandidate_of_waiting hstate hplace]
  · rw [exec_waitingTimeout_due hawake hruns hattempt hstate htimer]
    simp only [waitOver180, hattempt]
    rw [abandonCandidate_of_last hplace hcalm]
    rfl
  · intro f own x hfollows hsound hown hne hbody hstate u freed answers
    obtain ⟨p, hp⟩ := noted_shape s f.sender (.set x)
    have hu : u = { s with peers := p, line := { s.line with phase := .waiting } } := hp
    have hanswers : ∀ v : State, chgStatus u f.sender x = v → v.boardBill.table = s.boardBill.table → answers v :=
      fun v hv htable => exec_setStatus_answers hawake hfollows hsound hruns hown hne hbody hv htable
    have hchg : u.chg = s.chg := by rw [hu]
    have himage : u.image = s.image := by rw [hu]
    have htable : u.boardBill.table = s.boardBill.table := by rw [hu]
    have hwaiting := chgStatus_of_waiting (s := u) (by rw [hchg]; exact hattempt) (by rw [hchg]; exact hstate) f.sender x
    rw [himage] at hwaiting
    refine ⟨fun hother => hanswers u ?_ htable, fun htarget hfault => ⟨fun n hplace => hanswers _ ?_ htable,
      fun hplace hcalm => hanswers _ ?_ htable⟩⟩
    · rw [hwaiting, if_neg]
      rintro ⟨htarget, hfault⟩
      rcases hother with h | h
      · exact h htarget
      · rw [hfault] at h; cases h
    · rw [hwaiting, if_pos ⟨htarget, hfault⟩, abandonCandidate_of_waiting (by rw [hchg]; exact hstate) hplace]
    · have hretry : retryAfter u.chg a .allRefused = retry := by rw [retryAfter, hchg]
      rw [hwaiting, if_pos ⟨htarget, hfault⟩, abandonCandidate_of_last hplace (by rw [hretry, hchg]; exact hcalm), hretry,
        hchg]

/-! ## The closed feedbacks -/

/-- The positions with a closed feedback present, after one has changed. -/
theorem closedList_setInput {s : State} {pos : Nat} (hlength : s.inputs.length = 6) (hpos : 1 ≤ pos ∧ pos ≤ 3)
    (level : Bool) :
    (setInput s pos level).closedList = [1, 2, 3].filter (fun n => if n = pos then level else s.input n) := by
  refine List.filter_congr (fun n hn => input_setInput hlength hpos ?_ level)
  simp only [List.mem_cons, List.not_mem_nil, or_false] at hn
  omega

theorem mem_closedList_iff {s : State} {n : Nat} : n ∈ s.closedList ↔ (1 ≤ n ∧ n ≤ 3) ∧ s.input n = true := by
  rw [State.closedList, List.mem_filter]
  simp only [List.mem_cons, List.not_mem_nil, or_false]
  exact and_congr_left' (by omega)

theorem input_of_closedList {s : State} {l : List Nat} (h : s.closedList = l) {n : Nat} (hn : 1 ≤ n ∧ n ≤ 3) :
    s.input n = decide (n ∈ l) := by
  rw [← h]
  by_cases hin : s.input n = true
  · rw [hin, decide_eq_true (mem_closedList_iff.mpr ⟨hn, hin⟩)]
  · rw [Bool.not_eq_true] at hin
    rw [hin, decide_eq_false (fun hmem => by rw [(mem_closedList_iff.mp hmem).2] at hin; cases hin)]

theorem closedList_release {s : State} {pos : Nat} (hlength : s.inputs.length = 6) (hpos : 1 ≤ pos ∧ pos ≤ 3) :
    (setInput s pos false).closedList = s.closedList.filter (fun n => n != pos) := by
  rw [closedList_setInput hlength hpos, State.closedList, List.filter_filter]
  refine List.filter_congr (fun n _ => ?_)
  by_cases h : n = pos <;> simp [h]

theorem closedList_press {s : State} {pos : Nat} (hlength : s.inputs.length = 6) (hpos : 1 ≤ pos ∧ pos ≤ 3)
    (hnone : s.closedList = []) : (setInput s pos true).closedList = [pos] := by
  have heq : ∀ n ∈ [1, 2, 3], (if n = pos then true else s.input n) = decide (n = pos) := fun n hn => by
    have hrange : 1 ≤ n ∧ n ≤ 3 := by simp only [List.mem_cons, List.not_mem_nil, or_false] at hn; omega
    by_cases h : n = pos
    · simp [h]
    · simp [h, input_of_closedList hnone hrange]
  rw [closedList_setInput hlength hpos, List.filter_congr heq]
  obtain ⟨h1, h3⟩ := hpos
  rcases (by omega : pos = 1 ∨ pos = 2 ∨ pos = 3) with rfl | rfl | rfl <;> rfl

/-- A second feedback makes two. -/
theorem closedList_press_second {s : State} {pos q : Nat} (hlength : s.inputs.length = 6) (hpos : 1 ≤ pos ∧ pos ≤ 3)
    (hone : s.closedList = [q]) (hne : q ≠ pos) : 2 ≤ (setInput s pos true).closedList.length := by
  have hq : q ∈ (setInput s pos true).closedList := by
    have hmem : q ∈ s.closedList := by rw [hone]; exact List.mem_singleton_self q
    obtain ⟨hrange, hin⟩ := mem_closedList_iff.mp hmem
    exact mem_closedList_iff.mpr ⟨hrange, by rw [input_setInput hlength hpos hrange.1, if_neg hne]; exact hin⟩
  have hp : pos ∈ (setInput s pos true).closedList :=
    mem_closedList_iff.mpr ⟨hpos, by rw [input_setInput hlength hpos hpos.1, if_pos rfl]⟩
  match hl : (setInput s pos true).closedList with
  | [] => rw [hl] at hp; cases hp
  | [x] =>
    rw [hl] at hp hq
    exact absurd ((List.mem_singleton.mp hq).trans (List.mem_singleton.mp hp).symm) hne
  | _ :: _ :: _ => simp

/-- A feedback that changes in a BOARD in RUN: settlement first, then the controller (R91). -/
theorem exec_closedFeedback {s : State} {pos : Nat} {level : Bool} (hawake : s.awake = true)
    (hruns : s.runs .board = true) (hpos : 1 ≤ pos ∧ pos ≤ 3) (hchange : s.input pos ≠ level) :
    exec (.closedFeedbackChange pos level) s = .next (closedFeedback (setInput s pos level) pos level) := by
  obtain ⟨hrun, hrole⟩ := runs_iff.mp hruns
  have hset : (setInput s pos level).runs .set = false := by simp [State.runs, hrole]
  have hpin : pinChange s pos level = closedFeedback (setInput s pos level) pos level := by
    rw [pinChange, if_neg (fun h => h.elim hchange (by omega)), dutyEvent, whenRuns_of_not_runs hset,
      whenRuns_of_runs (by exact hawake) (by exact hruns)]
  exact congrArg Host.Outcome.next ((whenAwake_of_awake hawake _).trans hpin)

/-- With room in the table a feedback that appears changes the table alone, and leaves a CURRENT entry in it. -/
theorem feedbackAppears_of_room {s : State} (hroom : s.boardBill.table.length < tableCap) (pos : Nat) :
    ∃ t, feedbackAppears s pos = setTable s t ∧ hasCurrent t = true := by
  have hlength : (endCurrent s).boardBill.table.length < tableCap := by
    rw [show (endCurrent s).boardBill.table = atCurrent _ s.boardBill.table from rfl, atCurrent, List.length_map]
    exact hroom
  unfold feedbackAppears openFor makeCurrent
  dsimp only
  split
  · rename_i n hfound
    obtain ⟨hlt, -⟩ := List.findIdx?_eq_some_iff_getElem.mp hfound
    obtain ⟨before, e, after, -, -, hmodify⟩ :=
      List.exists_of_modify (reopen (((endCurrent s).channel 0).state == .lost) pos) hlt
    refine ⟨_, rfl, ?_⟩
    rw [hmodify]
    exact hasCurrent_iff.mpr ⟨_, List.mem_append_right _ (List.mem_cons_self ..), rfl⟩
  · rw [openEntry_of_room hlength]
    exact ⟨_, rfl, hasCurrent_iff.mpr ⟨_, List.mem_append_right _ (List.mem_singleton_self _), rfl⟩⟩

/-- The last feedback gone ends the entry that was CURRENT at it (R159). -/
theorem feedbackGoes_of_last {s : State} (h : s.closedList = []) (pos : Nat) :
    feedbackGoes s pos = setTable s
      (if s.boardBill.table.any (fun e => e.state == .current && e.pos == pos) then
        s.boardBill.table.map (fun e => if e.state = .current then { e with state := .waitingClose, age := 0 } else e)
      else s.boardBill.table) := by
  unfold feedbackGoes
  simp only [h]
  split <;> rfl

/-! ## Switch faults -/

theorem takeSwitchFault_eq (s : State) (cause : SwitchFault) : takeSwitchFault s cause = s.lockedBy cause := by
  unfold takeSwitchFault State.lockedBy
  cases hattempt : s.chg.attempt with
  | none =>
    simp only [setCmd, hattempt]
    rfl
  | some a =>
    simp only [setCmd, hattempt]
    cases a.owed <;> rfl

theorem switchTimeout_of_due {s : State} (hawake : s.awake = true) (hruns : s.runs .board = true)
    (hcmd : s.chg.cmd ≠ none) (hheld : 3 ≤ s.chg.held) : exec .switchCommandTimeout s = .next (cmdOver s) := by
  refine congrArg Host.Outcome.next ((chgStep_of_runs hawake hruns State.cmdDue cmdOver).trans (if_pos ?_))
  simp [State.cmdDue, Option.isSome_iff_ne_none, hcmd, hheld]

theorem switchTimeout_early {s : State} (hawake : s.awake = true) (hruns : s.runs .board = true)
    (h : s.chg.cmd = none ∨ s.chg.held < 3) : exec .switchCommandTimeout s = .next s := by
  refine congrArg Host.Outcome.next ((chgStep_of_runs hawake hruns State.cmdDue cmdOver).trans (if_neg ?_))
  rcases h with h | h <;> simp [State.cmdDue, h]

/-- The controller follows a second feedback by a switch fault, outside LOCKED (R94). -/
theorem followFeedback_of_two {s : State} (hstate : s.chg.state ≠ .locked) (htwo : 2 ≤ s.closedList.length) (pos : Nat)
    (level : Bool) : followFeedback s pos level = takeSwitchFault s .twoClosed := by
  rw [followFeedback, if_pos ⟨hstate, htwo⟩]

section follow
variable {s : State} {a : Attempt} (hattempt : s.chg.attempt = some a) (hone : s.closedList.length < 2) (pos : Nat)
include hattempt hone

theorem followFeedback_of_breaking (hstate : s.chg.state = .breaking) (hnone : s.closedList = []) (level : Bool) :
    followFeedback s pos level = enterDead (setCmd s none) a := by
  rw [followFeedback, if_neg (fun h => by omega)]
  simp only [hstate, hattempt, if_pos hnone]

theorem followFeedback_of_dead (hstate : s.chg.state = .dead) :
    followFeedback s pos true = takeSwitchFault s .uncommanded := by
  rw [followFeedback, if_neg (fun h => by omega)]
  simp only [hstate, hattempt, if_true]

theorem followFeedback_of_making (hstate : s.chg.state = .making) {n : Nat} (hcmd : s.chg.cmd = some (.closeTo n)) :
    followFeedback s pos true = if n = pos then madeContact s a else takeSwitchFault s .wrongPosition := by
  rw [followFeedback, if_neg (fun h => by omega)]
  simp only [hstate, hattempt, hcmd, if_true]

theorem followFeedback_of_idle_making (hstate : s.chg.state = .making) (hcmd : s.chg.cmd = none) :
    followFeedback s pos true = takeSwitchFault s .uncommanded := by
  rw [followFeedback, if_neg (fun h => by omega)]
  simp only [hstate, hattempt, hcmd, if_true]

end follow

/-- Settles O34: each cause is a branch of `cmdOver` or of `followFeedback`, and every fault leaves the same. -/
theorem failedMovementLocksTheBoard : Obligations.FailedMovementLocksTheBoard := by
  unfold Obligations.FailedMovementLocksTheBoard
  intro s hawake hruns
  refine ⟨switchTimeout_early hawake hruns, fun cause _ hheld hcause => ?_, fun pos cause h1 h3 hlength hroom hcause => ?_⟩
  · rcases hcause with ⟨hcmd, hstate, rfl⟩ | ⟨⟨pos, hcmd⟩, hstate, rfl⟩
    · rw [switchTimeout_of_due hawake hruns (by rw [hcmd]; simp) hheld, ← takeSwitchFault_eq]
      simp only [cmdOver, hcmd, hstate]
    · rw [switchTimeout_of_due hawake hruns (by rw [hcmd]; simp) hheld, ← takeSwitchFault_eq]
      simp only [cmdOver, hcmd, hstate]
  · have hpos : 1 ≤ pos ∧ pos ≤ 3 := ⟨h1, h3⟩
    obtain ⟨t, hopened, hcurrent⟩ := feedbackAppears_of_room (s := setInput s pos true) hroom pos
    refine ⟨{ s.boardBill with table := t }, ?_, hcurrent, rfl, rfl⟩
    have habsent : s.input pos ≠ true := by
      rcases hcause with ⟨-, ⟨q, hne, hone⟩, -⟩ | ⟨hnone, -⟩
      · rw [input_of_closedList hone hpos]
        simp [hne.symm]
      · rw [input_of_closedList hnone hpos]
        simp
    rw [exec_closedFeedback hawake hruns hpos habsent, closedFeedback, if_pos rfl, hopened, ← takeSwitchFault_eq]
    have hlist : (setTable (setInput s pos true) t).closedList = (setInput s pos true).closedList := rfl
    rcases hcause with ⟨hstate, ⟨q, hne, hone⟩, rfl⟩ | ⟨hnone, hattempt, hcause⟩
    · rw [followFeedback_of_two (by exact hstate) (by rw [hlist]; exact closedList_press_second hlength hpos hone hne)]
      rfl
    · obtain ⟨a, ha⟩ := Option.ne_none_iff_exists'.mp hattempt
      have hfew : (setTable (setInput s pos true) t).closedList.length < 2 := by
        rw [hlist, closedList_press hlength hpos hnone]; simp
      rcases hcause with ⟨hstate, ⟨n, hne, hcmd⟩, rfl⟩ | ⟨hstate, rfl⟩
      · rw [followFeedback_of_making (a := a) (by exact ha) hfew pos (by exact hstate) (n := n) (by exact hcmd), if_neg hne]
        rfl
      · rcases hstate with hstate | ⟨hstate, hcmd⟩
        · rw [followFeedback_of_dead (a := a) (by exact ha) hfew pos (by exact hstate)]
          rfl
        · rw [followFeedback_of_idle_making (a := a) (by exact ha) hfew pos (by exact hstate) (by exact hcmd)]
          rfl

/-! ## The switch moves -/

/-- Where one position stands closed, live, and its set does not unload, nothing begins an attempt. -/
theorem calm_of_closed {w : State} {pos : Nat} {retry : Option (Nat × Reason)} {dwell : Option Nat}
    (hone : w.closedList = [pos]) (hlive : w.liveAt pos = .live)
    (hunload : ∀ b, w.setStatusOf (w.image.setAt pos) = some b → b.duty ≠ dutyCode .unloading)
    (hnote : w.chg.dryNote = none) : w.Calm retry dwell := by
  have hclosed : w.closedPos = pos := by simp only [State.closedPos, hone]
  refine ⟨fun _ hdead => ?_, fun hnone => ?_, fun b _ hb hduty => ?_, fun n hn => ?_⟩
  · rw [hclosed, hlive] at hdead; cases hdead
  · rw [hone] at hnone; cases hnone
  · rw [State.feedingSet, hclosed] at hb
    exact absurd hduty (hunload b hb)
  · rw [hnote] at hn; cases hn

/-- With no position closed only RESTORE could begin an attempt, and its own retry holds it off. -/
theorem calm_of_open {w : State} {k : Nat} {dwell : Option Nat} (hnone : w.closedList = [])
    (hnote : w.chg.dryNote = none) : w.Calm (some (k, .restore)) dwell := by
  have hclosed : w.closedPos = 0 := by simp only [State.closedPos, hnone]
  exact ⟨fun h => absurd hclosed h, fun _ _ => rfl, fun _ h => absurd hclosed h, fun n hn => by rw [hnote] at hn; cases hn⟩

theorem makeFor_of_open {s : State} (hnone : s.closedList = []) (hcmd : s.chg.cmd = none) (a : Attempt) (pos : Nat)
    (returning : Bool) :
    makeFor s a pos returning =
      setCmd (enterChg (setAttempt s (some { a with returning := returning })) .making) (some (.closeTo pos)) := by
  rw [makeFor, if_pos ⟨hnone, hcmd⟩]

theorem deadTimeOver_of_live {s : State} {a : Attempt} (h : s.liveAt a.target = .live) :
    deadTimeOver s a = makeFor s a a.target false := by
  rw [deadTimeOver, if_pos h]

theorem deadTimeOver_returns {s : State} {a : Attempt} (h : s.liveAt a.target ≠ .live) (hold : mayReturn s a = true) :
    deadTimeOver s a = makeFor (releaseTarget s a) { a with owed := false } a.oldPos true := by
  rw [deadTimeOver, if_neg h]
  exact if_pos hold

theorem deadTimeOver_ends {s : State} {a : Attempt} (h : s.liveAt a.target ≠ .live) (hold : ¬ mayReturn s a = true) :
    deadTimeOver s a = endAttempt (releaseTarget s a) { a with owed := false } .targetDead := by
  rw [deadTimeOver, if_neg h]
  exact if_neg hold

theorem mayReturn_iff {s : State} {a : Attempt} :
    mayReturn s a = true ↔ a.oldPos ≠ 0 ∧ s.liveAt a.oldPos = .live ∧
      ∃ b, s.freshSet (s.image.setAt a.oldPos) = some b ∧ b.duty = dutyCode .ready := by
  simp [mayReturn, showsReady, Option.any_eq_true, and_assoc]

/-! ### What stays queued -/

theorem mem_acceptStatus {l : LineCtl} {f g : TxFrame} (hf : f.isStatus = true) (hg : g ∈ (acceptFrame l f).queue) :
    g = f ∨ g ∈ l.queue := by
  rw [acceptFrame, if_pos hf] at hg
  split at hg
  · exact (mem_queueInsert.mp hg).imp id (fun h => (List.mem_filter.mp h).1)
  · split at hg
    · exact mem_queueInsert.mp hg
    · exact .inr hg

theorem acceptStatus_keeps {l : LineCtl} {f g : TxFrame} (hf : f.isStatus = true) (hg : g ∈ l.queue)
    (hother : g.isStatus = false) : g ∈ (acceptFrame l f).queue := by
  rw [acceptFrame, if_pos hf]
  split
  · exact mem_queueInsert.mpr (.inr (List.mem_filter.mpr ⟨hg, by simp [hother]⟩))
  · split
    · exact mem_queueInsert.mpr (.inr hg)
    · exact hg

theorem acceptStatus_length (l : LineCtl) {f : TxFrame} (hf : f.isStatus = true) :
    (acceptFrame l f).queue.length ≤ l.queue.length + 1 := by
  rw [acceptFrame, if_pos hf]
  split
  · rw [queueInsert_length]
    exact Nat.succ_le_succ (List.length_filter_le ..)
  · split
    · exact Nat.le_of_eq (queueInsert_length ..)
    · omega

/-- A STATUS posted joins the queue, or takes the place of another; nothing else comes or goes. -/
theorem postStatus_queue (s : State) :
    (∀ g ∈ (postStatus s).line.queue, g ∈ s.line.queue ∨ g.isStatus = true) ∧
      (∀ g ∈ s.line.queue, g.isStatus = false → g ∈ (postStatus s).line.queue) ∧
      (postStatus s).line.queue.length ≤ s.line.queue.length + 1 := by
  unfold postStatus
  dsimp only
  cases s.ownStatus with
  | none => exact ⟨fun g hg => .inl hg, fun g hg _ => hg, Nat.le_succ _⟩
  | some b =>
    have hf : (newFrame 0 (.status b)).isStatus = true := by simp [newFrame_isStatus, Body.kind]
    dsimp only
    split
    · split
      · refine ⟨fun g hg => ?_, fun g hg hother => acceptStatus_keeps hf hg hother, acceptStatus_length _ hf⟩
        rcases mem_acceptStatus hf hg with rfl | hg
        · exact .inr hf
        · exact .inl hg
      · exact ⟨fun g hg => .inl hg, fun g hg _ => hg, Nat.le_succ _⟩
    · exact ⟨fun g hg => .inl hg, fun g hg _ => hg, Nat.le_succ _⟩

theorem acceptFrame_listenOnly (l : LineCtl) (f : TxFrame) : (acceptFrame l f).listenOnly = l.listenOnly := by
  unfold acceptFrame
  repeat' split
  all_goals rfl

theorem postStatus_listenOnly (s : State) : (postStatus s).line.listenOnly = s.line.listenOnly := by
  unfold postStatus
  dsimp only
  split
  · split
    · split
      · exact acceptFrame_listenOnly ..
      · rfl
    · rfl
  · rfl

/-- The LEFT that a commit owes the set of the old position, where that names one (R109). -/
def leaveOld (s : State) (a : Attempt) : State :=
  if a.oldPos ≠ 0 ∧ s.image.setAt a.oldPos ≠ 0 then post s (s.image.setAt a.oldPos) (.left a.ticket) else s

/-- The commit's own frames, before the attempt ends (R109). -/
def commitFrames (s : State) (a : Attempt) : State :=
  let s1 := enterChg s .committing
  leaveOld (post s1 (s1.image.setAt a.target) (.commit a.ticket (s1.chg.lastLive.getD a.estimate))) a

theorem commitMove_eq (s : State) (a : Attempt) : commitMove s a = endAttempt (commitFrames s a) a .done := rfl

theorem leaveOld_of_room {s : State} (a : Attempt) (hposts : s.posts = true) (hroom : s.line.queue.length < txCap) :
    ∃ l, leaveOld s a = { s with line := l } ∧ (∀ g ∈ s.line.queue, g ∈ l.queue) ∧
      (a.oldPos ≠ 0 → s.image.setAt a.oldPos ≠ 0 → newFrame (s.image.setAt a.oldPos) (.left a.ticket) ∈ l.queue) := by
  unfold leaveOld
  split
  · have hpost := post_of_room (dest := s.image.setAt a.oldPos) (b := .left a.ticket) hposts (by simp [Body.kind]) hroom
    exact ⟨_, hpost, fun g hg => mem_queueInsert.mpr (.inr hg), fun _ _ => mem_queueInsert.mpr (.inl rfl)⟩
  · rename_i hnone
    exact ⟨s.line, rfl, fun g hg => hg, fun h1 h2 => absurd ⟨h1, h2⟩ hnone⟩

/-- With room for its frames a commit queues COMMIT and the LEFT it owes, and changes nothing else but its state (R109). -/
theorem commitFrames_of_room {s : State} (a : Attempt) (hposts : s.posts = true) (hroom : s.line.queue.length ≤ 4) :
    ∃ l, commitFrames s a = { s with line := l, chg := { s.chg with state := .committing } } ∧
      newFrame (s.image.setAt a.target) (.commit a.ticket (s.chg.lastLive.getD a.estimate)) ∈ l.queue ∧
      (a.oldPos ≠ 0 → s.image.setAt a.oldPos ≠ 0 → newFrame (s.image.setAt a.oldPos) (.left a.ticket) ∈ l.queue) := by
  have hlength : (enterChg s .committing).line.queue.length ≤ 5 := by
    have := (postStatus_queue { s with chg := { s.chg with state := .committing } }).2.2
    exact Nat.le_trans this (by dsimp only; omega)
  have hcap : txCap = 8 := rfl
  have hstill : (enterChg s .committing).posts = true := by
    have hlisten : (enterChg s .committing).line.listenOnly = s.line.listenOnly := postStatus_listenOnly _
    rw [State.posts, hlisten]
    exact hposts
  have hpost := post_of_room (dest := s.image.setAt a.target) (b := .commit a.ticket (s.chg.lastLive.getD a.estimate))
    hstill (by simp [Body.kind]) (by omega)
  obtain ⟨l, hleave, hkept, hleft⟩ := leaveOld_of_room a
    (s := post (enterChg s .committing) (s.image.setAt a.target) (.commit a.ticket (s.chg.lastLive.getD a.estimate)))
    (by rw [hpost]; exact hstill) (by rw [hpost]; simp only [queueInsert_length]; omega)
  refine ⟨l, ?_, hkept _ (by rw [hpost]; exact mem_queueInsert.mpr (.inl rfl)), hleft⟩
  have hcommit : commitFrames s a = leaveOld
    (post (enterChg s .committing) (s.image.setAt a.target) (.commit a.ticket (s.chg.lastLive.getD a.estimate))) a := rfl
  rw [hcommit, hleave, hpost]
  rfl

/-! ## The order of the movement -/

/-- The feedback of the position being made, seen by a board that stands open: its attempt's last act (R107, R108). -/
theorem exec_contact {s : State} {a : Attempt} {pos : Nat} (hawake : s.awake = true) (hruns : s.runs .board = true)
    (hlength : s.inputs.length = 6) (hattempt : s.chg.attempt = some a) (hstate : s.chg.state = .making)
    (hcmd : s.chg.cmd = some (.closeTo pos)) (hnone : s.closedList = []) (hpos : pos = 1 ∨ pos = 2 ∨ pos = 3)
    (hroom : s.boardBill.table.length < tableCap) :
    ∃ t, hasCurrent t = true ∧ (setTable (setInput s pos true) t).closedList = [pos] ∧
      exec (.closedFeedbackChange pos true) s = .next (madeContact (setTable (setInput s pos true) t) a) := by
  have hrange : 1 ≤ pos ∧ pos ≤ 3 := by omega
  obtain ⟨t, hopened, hcurrent⟩ := feedbackAppears_of_room (s := setInput s pos true) hroom pos
  have hlist : (setTable (setInput s pos true) t).closedList = [pos] := closedList_press hlength hrange hnone
  refine ⟨t, hcurrent, hlist, ?_⟩
  rw [exec_closedFeedback hawake hruns hrange (by rw [input_of_closedList hnone hrange]; simp), closedFeedback, if_pos rfl,
    hopened, followFeedback_of_making (a := a) (by exact hattempt) (by rw [hlist]; simp) pos (by exact hstate) (n := pos)
      (by exact hcmd), if_pos rfl]

/-- Settles O33: BREAKING to DEAD, DEAD to MAKING, and the contact that ends the attempt DONE or RETURNED. -/
theorem switchMovesInItsOrder : Obligations.SwitchMovesInItsOrder := by
  unfold Obligations.SwitchMovesInItsOrder
  intro s a hawake hruns hlength hattempt
  refine ⟨fun pos hstate hone => ?_, fun hstate htimer hlive hnone hcmd => ?_,
    exec_deadTimeExpiry_early hawake hruns hattempt, fun hstate htimer hlive hnone => ?_,
    fun hstate hcmd hnone hreturning hpos hlive hnote hunload hroom => ?_,
    fun b hstate hcmd hnone hreturning hpos hlive hnote hheld hunload hqueue hroom hposts => ?_⟩
  · have hmem : pos ∈ s.closedList := by rw [hone]; exact List.mem_singleton_self pos
    obtain ⟨hrange, hpresent⟩ := mem_closedList_iff.mp hmem
    have hopen : (setInput s pos false).closedList = [] := by
      rw [closedList_release hlength hrange, hone]
      simp
    rw [exec_closedFeedback hawake hruns hrange (by rw [hpresent]; decide), closedFeedback, if_neg (by decide),
      feedbackGoes_of_last hopen, followFeedback_of_breaking (a := a) (by exact hattempt)
        (by exact Nat.lt_of_le_of_lt (Nat.le_of_eq (congrArg List.length hopen)) (by decide)) pos (by exact hstate)
        (by exact hopen)]
    rfl
  · rw [exec_deadTimeExpiry_due hawake hruns hattempt hstate htimer, deadTimeOver_of_live hlive,
      makeFor_of_open hnone hcmd]
    rfl
  · intro w returns
    refine ⟨fun hreturns hcmd => ?_, fun hstays hnote => ?_⟩
    · intro making
      rw [exec_deadTimeExpiry_due hawake hruns hattempt hstate htimer,
        deadTimeOver_returns hlive (mayReturn_iff.mpr hreturns), makeFor_of_open (by exact hnone) (by exact hcmd)]
      rfl
    · rw [exec_deadTimeExpiry_due hawake hruns hattempt hstate htimer,
        deadTimeOver_ends hlive (fun h => hstays (mayReturn_iff.mp h)),
        endAttempt_of_calm (by exact calm_of_open (w := releaseTarget s a) hnone hnote)]
      rfl
  · obtain ⟨t, hcurrent, hlist, hexec⟩ :=
      exec_contact hawake hruns hlength hattempt hstate hcmd hnone hpos hroom
    have hcalm : ∀ retry dwell, (setCmd (setTable (setInput s a.oldPos true) t) none).Calm retry dwell :=
      fun _ _ => calm_of_closed (pos := a.oldPos) hlist hlive hunload hnote
    rw [hexec, madeContact, if_pos hreturning, endAttempt_of_calm (hcalm _ _)]
    refine ⟨_, rfl, hlist, rfl, (postStatus_queue _).1, hcurrent, rfl⟩
  · obtain ⟨t, hcurrent, hlist, hexec⟩ :=
      exec_contact hawake hruns hlength hattempt hstate hcmd hnone hpos hroom
    obtain ⟨l, hframes, hcommit, hleft⟩ :=
      commitFrames_of_room a (s := setCmd (setTable (setInput s a.target true) t) none) hposts hqueue
    have hcalm : ∀ retry dwell, (commitFrames (setCmd (setTable (setInput s a.target true) t) none) a).Calm retry dwell :=
      fun _ _ => by
        rw [hframes]
        exact calm_of_closed (pos := a.target) hlist hlive
          (fun c hc => Option.some.inj (hheld.symm.trans hc) ▸ hunload) hnote
    rw [hexec, madeContact, if_neg (by rw [hreturning]; decide), commitMove_eq, endAttempt_of_calm (hcalm _ _), hframes]
    refine ⟨_, rfl, hlist, rfl, (postStatus_queue _).2.1 _ hcommit ?_, fun h1 h2 =>
      (postStatus_queue _).2.1 _ (hleft h1 h2) ?_, hcurrent, rfl⟩
    · simp [newFrame_isStatus, Body.kind]
    · simp [newFrame_isStatus, Body.kind]

end Sys2Proof.Machine
end

section
/-! PROOFS. What raises a trigger of a BOARD (O35), the requests for and against an attempt (O57), and CLEAR_FAULT (O60). -/
set_option Elab.async false

namespace Sys2Proof.Machine

/-! ## The rows of R98 -/

/-- With no retry timer running the rows of R98 are taken in their order. -/
theorem firstTrigger_of_no_retry {s : State} (h : s.chg.retry = none) :
    firstTrigger s allRows =
      if deadTest s then some .dead else if restoreTest s then some .restore
      else if unloadingTest s then some .unload else none := by
  have hfree : ∀ r, heldOff s r = false := fun r => by rw [heldOff, h]; rfl
  simp only [firstTrigger, allRows, List.find?_cons, List.find?_nil, triggerTest, hfree, Bool.not_false, Bool.and_true]
  cases deadTest s <;> cases restoreTest s <;> cases unloadingTest s <;> rfl

/-- One row alone is tried. -/
theorem firstTrigger_of_row {s : State} {r : Reason} (htest : triggerTest s r = true) (hfree : heldOff s r = false) :
    firstTrigger s [r] = some r := by
  simp [firstTrigger, htest, hfree]

theorem firstTrigger_of_no_row {s : State} {r : Reason} (h : triggerTest s r = false ∨ heldOff s r = true) :
    firstTrigger s [r] = none := by
  rcases h with h | h <;> simp [firstTrigger, h]

theorem deadTest_of_open {s : State} (h : s.closedList = []) : deadTest s = false := by
  simp [deadTest, State.closedPos, h]

theorem restoreTest_of_open {s : State} (h : s.closedList = []) (hrestores : s.image.restores = true) :
    restoreTest s = true := by
  simp [restoreTest, h, hrestores]

theorem restoreTest_of_closed {s : State} (h : s.closedList ≠ []) : restoreTest s = false := by
  simp [restoreTest, h]

theorem not_heldOff {s : State} {r : Reason} (h : ∀ k, s.chg.retry ≠ some (k, r)) : heldOff s r = false := by
  rw [← Bool.not_eq_true, heldOff_iff_exists]
  rintro ⟨k, hk⟩
  exact h k hk

/-! ## The live states (R92) -/

theorem exec_liveStateChange {s : State} {pos : Nat} (hawake : s.awake = true) (hpos : 1 ≤ pos ∧ pos ≤ 3) (level : Bool) :
    exec (.liveStateChange pos level) s = .next (liveChange s pos level) := by
  refine congrArg Host.Outcome.next ((whenAwake_of_awake hawake _).trans (if_pos hpos))

/-- A live input lies beyond the closed feedbacks. -/
theorem closedList_of_live_input {s : State} {pos : Nat} (hpos : 1 ≤ pos) (level : Bool) :
    ({ s with inputs := s.inputs.set (pos + 2) level } : State).closedList = s.closedList := by
  refine List.filter_congr (fun n hn => ?_)
  simp only [List.mem_cons, List.not_mem_nil, or_false] at hn
  rw [State.input, List.getD_eq_getElem?_getD, List.getElem?_set_ne (by omega)]
  rfl

/-- The state that a live sense leaves before any trigger. -/
def State.sensed (s : State) (pos : Nat) (level : Bool) : State :=
  { s with
      inputs := s.inputs.set (pos + 2) level
      chg := { s.chg with live := s.chg.live.set (pos - 1) (if level then .live else .notLive) } }

theorem liveChange_eq {s : State} (pos : Nat) (level : Bool) (hawake : s.awake = true) :
    liveChange s pos level =
      if s.liveAt pos ≠ (if level then .live else .notLive) ∧ level = false ∧ s.closedPos = pos ∧ s.runs .board = true then
        idleRows (s.sensed pos level) [.dead]
      else s.sensed pos level := by
  have hplace : setInput s (3 + pos) level = { s with inputs := s.inputs.set (pos + 2) level } := by
    rw [setInput, show 3 + pos - 1 = pos + 2 by omega]
  unfold liveChange
  rw [hplace]
  cases level <;> simp [State.sensed, hawake]

/-! ## DWELL_TIMER_EXPIRY and RETRY_TIMER_EXPIRY -/

theorem exec_dwell_due {s : State} {n : Nat} (hawake : s.awake = true) (hruns : s.runs .board = true)
    (hdwell : s.chg.dwell = some n) (hn : 60 ≤ n) : exec .dwellTimerExpiry s = .next (dwellOver s) := by
  refine congrArg Host.Outcome.next ((chgStep_of_runs hawake hruns State.dwellDue dwellOver).trans (if_pos ?_))
  simp [State.dwellDue, hdwell, hn]

theorem exec_dwell_early {s : State} {n : Nat} (hawake : s.awake = true) (hruns : s.runs .board = true)
    (hdwell : s.chg.dwell = some n) (hn : n < 60) : exec .dwellTimerExpiry s = .next s := by
  refine congrArg Host.Outcome.next ((chgStep_of_runs hawake hruns State.dwellDue dwellOver).trans (if_neg ?_))
  simp [State.dwellDue, hdwell, hn]

theorem exec_retry_due {s : State} {n : Nat} {r : Reason} (hawake : s.awake = true) (hruns : s.runs .board = true)
    (hretry : s.chg.retry = some (n, r)) (hn : s.image.retryTime ≤ n) :
    exec .retryTimerExpiry s = .next (retryOver s) := by
  refine congrArg Host.Outcome.next ((chgStep_of_runs hawake hruns State.retryDue retryOver).trans (if_pos ?_))
  simp [State.retryDue, hretry, hn]

theorem exec_retry_early {s : State} {n : Nat} {r : Reason} (hawake : s.awake = true) (hruns : s.runs .board = true)
    (hretry : s.chg.retry = some (n, r)) (hn : n < s.image.retryTime) : exec .retryTimerExpiry s = .next s := by
  refine congrArg Host.Outcome.next ((chgStep_of_runs hawake hruns State.retryDue retryOver).trans (if_neg ?_))
  simp [State.retryDue, hretry, hn]

/-- The state that the dwell timer's end leaves before the note is tested. -/
def State.undwelt (s : State) : State := { s with chg := { s.chg with dwell := none } }

/-- The state that the retry timer's end leaves before any trigger. -/
def State.unretried (s : State) : State := { s with chg := { s.chg with retry := none } }

theorem dwellOver_of_idle {s : State} (h : s.chg.state = .idle) : dwellOver s = noteTest s.undwelt := if_pos h

theorem dwellOver_of_other {s : State} (h : s.chg.state ≠ .idle) : dwellOver s = s.undwelt := if_neg h

theorem retryOver_of_other {s : State} (h : s.chg.state ≠ .idle) : retryOver s = s.unretried := if_neg h

theorem retryOver_of_trigger {s : State} {r : Reason} (h : s.chg.state = .idle)
    (htrigger : firstTrigger s.unretried allRows = some r) : retryOver s = takeTrigger s.unretried r := by
  refine (if_pos (by exact h)).trans ?_
  change (match firstTrigger s.unretried allRows with | some r => _ | none => _) = _
  simp only [htrigger]
  rfl

theorem retryOver_of_none {s : State} (h : s.chg.state = .idle) (htrigger : firstTrigger s.unretried allRows = none) :
    retryOver s = if heldOff s .dry = true ∧ s.feedingStatus.any SetStatus.dryFlag = true then takeTrigger s.unretried .dry
      else noteTest s.unretried := by
  refine (if_pos (by exact h)).trans ?_
  change (match firstTrigger s.unretried allRows with | some r => _ | none => _) = _
  simp only [htrigger]
  rfl

/-! ## The closed feedbacks in IDLE, SEEKING, WAITING and LOCKED (R91) -/

/-- A feedback that the controller has nothing to do for: an attempt that asks, a locked board, or one that appears in
IDLE. -/
theorem followFeedback_rests {s : State} {pos : Nat} {level : Bool}
    (h : s.chg.state = .locked ∨ (s.closedList.length < 2 ∧ (s.chg.state = .seeking ∨ s.chg.state = .waiting ∨
      (s.chg.state = .idle ∧ s.closedList ≠ [])))) : followFeedback s pos level = s := by
  unfold followFeedback
  rcases h with hlocked | ⟨hfew, hseek | hwait | ⟨hidle, hclosed⟩⟩
  · rw [if_neg (fun h => h.1 hlocked)]
    simp only [hlocked]
  · rw [if_neg (fun h => by omega)]
    simp only [hseek]
  · rw [if_neg (fun h => by omega)]
    simp only [hwait]
  · rw [if_neg (fun h => by omega)]
    simp only [hidle, if_neg hclosed]

theorem followFeedback_of_last {s : State} (hidle : s.chg.state = .idle) (hnone : s.closedList = []) (pos : Nat)
    (level : Bool) : followFeedback s pos level = idleRows s [.restore] := by
  have hfew : ¬ (s.chg.state ≠ .locked ∧ 2 ≤ s.closedList.length) := fun h => by rw [hnone] at h; simp at h
  rw [followFeedback, if_neg hfew]
  simp only [hidle, if_pos hnone]

/-- A level of the feedbacks does not change what opening an entry leaves. -/
theorem opened_setInput {s u : State} {n : Nat} (h : s.Opened n u) (pos : Nat) (level : Bool) :
    (setInput s pos level).Opened n { u with inputs := s.inputs.set (pos - 1) level } := by
  obtain ⟨period, h0, h1, hu⟩ := h
  refine ⟨period, h0, h1, ?_⟩
  rcases hu with ⟨before, e, after, ht, he, hb, rfl⟩ | ⟨hn, hl, rfl⟩ | ⟨m, x, hn, hl, hx, ho, rfl⟩
  · exact .inl ⟨before, e, after, ht, he, hb, rfl⟩
  · exact .inr (.inl ⟨hn, hl, rfl⟩)
  · exact .inr (.inr ⟨m, x, hn, hl, hx, ho, rfl⟩)

theorem opened_chg {s u : State} {n : Nat} (h : s.Opened n u) : u.chg = s.chg := by
  obtain ⟨period, -, -, hu⟩ := h
  rcases hu with ⟨before, e, after, -, -, -, rfl⟩ | ⟨-, -, rfl⟩ | ⟨m, x, -, -, -, -, rfl⟩ <;> rfl

theorem any_current_at {t : List Entry} {pos : Nat} :
    t.any (fun e => e.state == .current && e.pos == pos) = true ↔ ∃ e ∈ t, e.state = .current ∧ e.pos = pos := by
  simp

theorem feedbackGoes_elsewhere {s : State} {pos : Nat}
    (h : ¬ ∃ e ∈ s.boardBill.table, e.state = .current ∧ e.pos = pos) : feedbackGoes s pos = s := by
  rw [feedbackGoes, if_neg (fun h' => h (any_current_at.mp h'))]

theorem feedbackGoes_to_other {s : State} {pos n : Nat} {others : List Nat}
    (h : ∃ e ∈ s.boardBill.table, e.state = .current ∧ e.pos = pos) (hlist : s.closedList = n :: others) :
    feedbackGoes s pos = feedbackAppears s n := by
  rw [feedbackGoes, if_pos (any_current_at.mpr h)]
  simp only [hlist]
  rfl

/-- In UNCONFIGURED a feedback changes the level alone. -/
theorem exec_closedFeedback_unconfigured {s : State} {pos : Nat} {level : Bool} (hawake : s.awake = true)
    (hstation : s.station = .unconfigured) (hpos : 1 ≤ pos ∧ pos ≤ 3) (hchange : s.input pos ≠ level) :
    exec (.closedFeedbackChange pos level) s = .next (setInput s pos level) := by
  have hasleep : ∀ r, (setInput s pos level).runs r = false := fun r =>
    not_runs_of_unconfigured (s := setInput s pos level) hstation r
  have hpin : pinChange s pos level = setInput s pos level := by
    rw [pinChange, if_neg (fun h => h.elim hchange (by omega)), dutyEvent, whenRuns_of_not_runs (hasleep .set),
      whenRuns_of_not_runs (hasleep .board)]
  exact congrArg Host.Outcome.next ((whenAwake_of_awake hawake _).trans hpin)

/-- With no position closed a note stands only while the dwell timer runs (R97). -/
theorem noteTest_of_open {s : State} (hnone : s.closedList = []) :
    (s.chg.dryNote = none ∨ s.chg.dwell ≠ none → noteTest s = s) ∧
      (s.chg.dryNote ≠ none → s.chg.dwell = none → noteTest s = { s with chg := { s.chg with dryNote := none } }) := by
  refine ⟨fun h => h.elim noteTest_of_none noteTest_of_dwell, fun hnote hdwell => ?_⟩
  obtain ⟨n, hn⟩ := Option.ne_none_iff_exists'.mp hnote
  have hopen : s.closedPos = 0 := by simp only [State.closedPos, hnone]
  exact noteTest_clears hn hdwell (.inr (by rw [State.feedingStatus, if_pos hopen]; rfl))

/-! ## A set's STATUS in IDLE (R98) -/

theorem chgStatus_of_idle {s : State} {set : Nat} (x : SetStatus) (hidle : s.chg.state = .idle)
    (hfeeding : s.closedPos ≠ 0 ∧ s.image.setAt s.closedPos = set) : chgStatus s set x = idleRows s [.unload] := by
  simp only [chgStatus, hidle]
  exact if_pos hfeeding

theorem chgStatus_of_elsewhere {s : State} {set : Nat} (x : SetStatus) (hidle : s.chg.state = .idle)
    (hfeeding : ¬ (s.closedPos ≠ 0 ∧ s.image.setAt s.closedPos = set)) : chgStatus s set x = s := by
  simp only [chgStatus, hidle]
  exact if_neg hfeeding

theorem chgStatus_of_busy {s : State} (set : Nat) (x : SetStatus) (hidle : s.chg.state ≠ .idle)
    (hwaiting : s.chg.state ≠ .waiting) : chgStatus s set x = s := by
  unfold chgStatus
  split
  · exact absurd (by assumption) hwaiting
  · exact absurd (by assumption) hidle
  · rfl

/-! ## Each event as a command (R91, R92, R97 to R99) -/

section live
variable {s : State} (hawake : s.awake = true) {pos : Nat} (hpos : 1 ≤ pos ∧ pos ≤ 3)
include hawake hpos

theorem exec_liveStateChange_rests {level : Bool}
    (hquiet : level = true ∨ s.runs .board = false ∨ s.closedPos ≠ pos ∨ s.chg.state ≠ .idle) :
    exec (.liveStateChange pos level) s = .next (s.sensed pos level) := by
  rw [exec_liveStateChange hawake hpos, liveChange_eq pos level hawake]
  by_cases htest : s.liveAt pos ≠ (if level then .live else .notLive) ∧ level = false ∧ s.closedPos = pos ∧
      s.runs .board = true
  · rw [if_pos htest]
    obtain ⟨-, hlevel, hclosed, hruns⟩ := htest
    have hbusy : s.chg.state ≠ .idle := by
      rcases hquiet with h | h | h | h
      · rw [hlevel] at h; cases h
      · rw [hruns] at h; cases h
      · exact absurd hclosed h
      · exact h
    rw [idleRows_of_not_idle (by exact hbusy)]
  · rw [if_neg htest]

/-- The closed position turned NOT_LIVE in IDLE is the DEAD trigger. -/
theorem exec_liveStateChange_dead (hruns : s.runs .board = true) (hclosed : s.closedPos = pos) (hidle : s.chg.state = .idle)
    (hlive : s.liveAt pos ≠ .notLive) (hpositions : s.chg.live.length = 3) (hfree : ∀ k, s.chg.retry ≠ some (k, .dead)) :
    exec (.liveStateChange pos false) s = .next (takeTrigger (s.sensed pos false) .dead) := by
  have hdead : triggerTest (s.sensed pos false) .dead = true := by
    have hlist : (s.sensed pos false).closedList = s.closedList := closedList_of_live_input hpos.1 false
    have hplace : (s.sensed pos false).closedPos = pos := by rw [State.closedPos, hlist]; exact hclosed
    have hat : (s.sensed pos false).liveAt pos = .notLive := by
      simp [State.liveAt, State.sensed, List.getD_eq_getElem?_getD,
        List.getElem?_set_self (show pos - 1 < s.chg.live.length by omega)]
    simp only [triggerTest, deadTest, hplace, hat]
    simp
    omega
  rw [exec_liveStateChange hawake hpos, liveChange_eq pos false hawake, if_pos ⟨hlive, rfl, hclosed, hruns⟩,
    idleRows_of_trigger (by exact hidle) (firstTrigger_of_row hdead (not_heldOff (by exact hfree)))]

end live

section dwell
variable {s : State} {n : Nat} (hawake : s.awake = true) (hruns : s.runs .board = true) (hdwell : s.chg.dwell = some n)
  (hn : 60 ≤ n)
include hawake hruns hdwell hn

theorem exec_dwell_rests (hquiet : s.chg.state ≠ .idle ∨ s.chg.dryNote = none) :
    exec .dwellTimerExpiry s = .next s.undwelt := by
  rw [exec_dwell_due hawake hruns hdwell hn]
  by_cases hidle : s.chg.state = .idle
  · rw [dwellOver_of_idle hidle, noteTest_of_none (by exact hquiet.resolve_left (not_not_intro hidle))]
  · rw [dwellOver_of_other hidle]

variable (hidle : s.chg.state = .idle) {set : Nat} (hnote : s.chg.dryNote = some set)
include hidle hnote

/-- A note that still holds is the DRY trigger, unless a DRY retry holds it off. -/
theorem exec_dwell_holds (hset : set = s.feedingSet) (hflag : s.feedingStatus.any SetStatus.dryFlag = true) :
    exec .dwellTimerExpiry s = .next (if heldOff s .dry then s.undwelt else takeTrigger s.undwelt .dry) := by
  rw [exec_dwell_due hawake hruns hdwell hn, dwellOver_of_idle hidle, noteTest_holds (by exact hnote) rfl
    (by exact hset) (by exact hflag)]
  rfl

theorem exec_dwell_clears (hother : set ≠ s.feedingSet ∨ s.feedingStatus.any SetStatus.dryFlag = false) :
    exec .dwellTimerExpiry s = .next { s.undwelt with chg := { s.undwelt.chg with dryNote := none } } := by
  rw [exec_dwell_due hawake hruns hdwell hn, dwellOver_of_idle hidle, noteTest_clears (by exact hnote) rfl (by exact hother)]

end dwell

section retry
variable {s : State} {n : Nat} {r : Reason} (hawake : s.awake = true) (hruns : s.runs .board = true)
  (hretry : s.chg.retry = some (n, r)) (hn : s.image.retryTime ≤ n)
include hawake hruns hretry hn

theorem exec_retry_rests (hbusy : s.chg.state ≠ .idle) : exec .retryTimerExpiry s = .next s.unretried := by
  rw [exec_retry_due hawake hruns hretry hn, retryOver_of_other hbusy]

variable (hidle : s.chg.state = .idle)
include hidle

/-- At the retry timer's end the rows of R98 are tested in their order, none held off. -/
theorem exec_retry_of_row {row : Reason}
    (hrow : (if deadTest s then some .dead else if restoreTest s then some .restore
      else if unloadingTest s then some Reason.unload else none) = some row) :
    exec .retryTimerExpiry s = .next (takeTrigger s.unretried row) := by
  have hrows := firstTrigger_of_no_retry (s := s.unretried) rfl
  rw [exec_retry_due hawake hruns hretry hn, retryOver_of_trigger hidle (hrows.trans hrow)]

/-- With no row to take, the end of a DRY retry makes the feeding set's DRY flag the trigger (R99). -/
theorem exec_retry_of_no_row (hdead : deadTest s = false) (hrestore : restoreTest s = false)
    (hunload : unloadingTest s = false) :
    exec .retryTimerExpiry s = .next
      (if r = .dry ∧ s.feedingStatus.any SetStatus.dryFlag = true then takeTrigger s.unretried .dry
      else noteTest s.unretried) := by
  have hrows := firstTrigger_of_no_retry (s := s.unretried) rfl
  have hrow : firstTrigger s.unretried allRows = none := by
    rw [hrows, show deadTest s.unretried = deadTest s from rfl, show restoreTest s.unretried = restoreTest s from rfl,
      show unloadingTest s.unretried = unloadingTest s from rfl, hdead, hrestore, hunload]
    rfl
  have hheld : heldOff s .dry = true ↔ r = .dry := by
    rw [heldOff_iff, hretry]
    exact Option.some_inj
  rw [exec_retry_due hawake hruns hretry hn, retryOver_of_none hidle hrow]
  simp only [hheld]

end retry

section feedback
variable {s : State} (hawake : s.awake = true) (hruns : s.runs .board = true) {pos : Nat} (hpos : 1 ≤ pos ∧ pos ≤ 3)
  (hlength : s.inputs.length = 6)
include hawake hruns hpos hlength

/-- A feedback that appears makes an entry CURRENT, and the controller has nothing to do for it. -/
theorem exec_feedback_appears {u : State} (habsent : s.input pos = false)
    (hstate : s.chg.state = .locked ∨
      (s.chg.state = .idle ∨ s.chg.state = .seeking ∨ s.chg.state = .waiting) ∧ s.closedList = [])
    (hopened : s.Opened pos u) :
    exec (.closedFeedbackChange pos true) s = .next { u with inputs := s.inputs.set (pos - 1) true } := by
  have hchg : u.chg = s.chg := opened_chg hopened
  rw [exec_closedFeedback hawake hruns hpos (by rw [habsent]; decide), closedFeedback, if_pos rfl,
    feedbackAppears_of_opened (opened_setInput hopened pos true)]
  refine congrArg Host.Outcome.next (followFeedback_rests ?_)
  rcases hstate with hlocked | ⟨hstate, hnone⟩
  · exact .inl (by rw [hchg]; exact hlocked)
  · have hlist : ({ u with inputs := s.inputs.set (pos - 1) true } : State).closedList = [pos] :=
      closedList_press hlength hpos hnone
    refine .inr ⟨by rw [hlist]; simp, ?_⟩
    rw [hlist, hchg]
    rcases hstate with hidle | hseek | hwait
    · exact .inr (.inr ⟨hidle, by simp⟩)
    · exact .inl hseek
    · exact .inr (.inl hwait)

/-- In LOCKED, where another feedback stays, the lowest of them takes the entry over. -/
theorem exec_feedback_goes_to_other {n : Nat} {others : List Nat} {u : State} (hlocked : s.chg.state = .locked)
    (hpresent : s.input pos = true) (hlist : s.closedList.filter (fun q => q != pos) = n :: others)
    (hat : ∃ e ∈ s.boardBill.table, e.state = .current ∧ e.pos = pos) (hopened : s.Opened n u) :
    exec (.closedFeedbackChange pos false) s = .next { u with inputs := s.inputs.set (pos - 1) false } := by
  have hrest : (setInput s pos false).closedList = n :: others := by rw [closedList_release hlength hpos]; exact hlist
  have hchg : u.chg = s.chg := opened_chg hopened
  rw [exec_closedFeedback hawake hruns hpos (by rw [hpresent]; decide), closedFeedback, if_neg (by decide),
    feedbackGoes_to_other (by exact hat) hrest, feedbackAppears_of_opened (opened_setInput hopened pos false)]
  exact congrArg _ (followFeedback_rests (.inl ((congrArg Changeover.state hchg).trans hlocked)))

omit hlength in
theorem exec_feedback_goes_elsewhere (hlocked : s.chg.state = .locked) (hpresent : s.input pos = true)
    (hnot : ¬ ∃ e ∈ s.boardBill.table, e.state = .current ∧ e.pos = pos) :
    exec (.closedFeedbackChange pos false) s = .next (setInput s pos false) := by
  rw [exec_closedFeedback hawake hruns hpos (by rw [hpresent]; decide), closedFeedback, if_neg (by decide),
    feedbackGoes_elsewhere (by exact hnot)]
  exact congrArg _ (followFeedback_rests (.inl hlocked))

section last
variable {w : State} (hone : s.closedList = [pos]) (hgoes : feedbackGoes (setInput s pos false) pos = w)
  (hinputs : w.inputs = (setInput s pos false).inputs)
include hone hgoes hinputs

/-- The last feedback gone leaves no position closed, and the controller follows it. -/
theorem exec_last_feedback : w.closedList = [] ∧
    exec (.closedFeedbackChange pos false) s = .next (followFeedback w pos false) := by
  have hmem : pos ∈ s.closedList := by rw [hone]; exact List.mem_singleton_self pos
  obtain ⟨-, hpresent⟩ := mem_closedList_iff.mp hmem
  refine ⟨?_, ?_⟩
  · have hinput : w.input = (setInput s pos false).input := funext fun n => by rw [State.input, State.input, hinputs]
    have hsame : w.closedList = (setInput s pos false).closedList := congrArg (fun f => [1, 2, 3].filter f) hinput
    rw [hsame, closedList_release hlength hpos, hone]
    simp
  · rw [exec_closedFeedback hawake hruns hpos (by rw [hpresent]; decide), closedFeedback, if_neg (by decide), hgoes]

variable (hchg : w.chg = s.chg)
include hchg

theorem exec_last_feedback_rests (hstate : (s.chg.state = .seeking ∨ s.chg.state = .waiting) ∨ s.chg.state = .locked) :
    exec (.closedFeedbackChange pos false) s = .next w := by
  obtain ⟨hnone, hexec⟩ := exec_last_feedback hawake hruns hpos hlength hone hgoes hinputs
  refine hexec.trans (congrArg _ (followFeedback_rests ?_))
  rw [hchg, hnone]
  rcases hstate with (hseek | hwait) | hlocked
  · exact .inr ⟨by simp, .inl hseek⟩
  · exact .inr ⟨by simp, .inr (.inl hwait)⟩
  · exact .inl hlocked

variable (himage : w.image = s.image)
include himage

/-- In IDLE the last feedback gone is the RESTORE trigger. -/
theorem exec_last_feedback_restores (hidle : s.chg.state = .idle) (hrestores : s.image.restores = true)
    (hfree : ¬ ∃ k, s.chg.retry = some (k, .restore)) :
    exec (.closedFeedbackChange pos false) s = .next (takeTrigger w .restore) := by
  obtain ⟨hnone, hexec⟩ := exec_last_feedback hawake hruns hpos hlength hone hgoes hinputs
  have hidle' : w.chg.state = .idle := by rw [hchg]; exact hidle
  rw [hexec, followFeedback_of_last hidle' hnone, idleRows_of_trigger hidle' (firstTrigger_of_row
    (by exact restoreTest_of_open hnone (by rw [himage]; exact hrestores))
    (not_heldOff (fun k hk => hfree ⟨k, by rw [← hchg]; exact hk⟩)))]

/-- Where RESTORE is not taken the dry note is tested. -/
theorem exec_last_feedback_tests (hidle : s.chg.state = .idle)
    (hstays : s.image.restores = false ∨ ∃ k, s.chg.retry = some (k, .restore)) :
    w.closedList = [] ∧ exec (.closedFeedbackChange pos false) s = .next (noteTest w) := by
  obtain ⟨hnone, hexec⟩ := exec_last_feedback hawake hruns hpos hlength hone hgoes hinputs
  have hidle' : w.chg.state = .idle := by rw [hchg]; exact hidle
  have hrow : firstTrigger w [.restore] = none := firstTrigger_of_no_row (by
    rcases hstays with h | h
    · exact .inl (by simp [triggerTest, restoreTest, himage, h])
    · exact .inr (heldOff_iff_exists.mpr (by rw [hchg]; exact h)))
  exact ⟨hnone, by rw [hexec, followFeedback_of_last hidle' hnone, idleRows_of_no_trigger hidle' hrow]⟩

end last

end feedback

section status
variable {u : State} {set : Nat} {x : SetStatus} (hidle : u.chg.state = .idle)
  (hfeeding : u.closedPos ≠ 0 ∧ u.image.setAt u.closedPos = set) (hstored : u.setStatusOf set = some x)
include hidle hfeeding hstored

omit hidle in
theorem feedingStatus_of_stored : u.feedingStatus = some x := by
  obtain ⟨hclosed, hset⟩ := hfeeding
  rw [State.feedingStatus, if_neg hclosed, show u.feedingSet = set from hset, hstored]

/-- The feeding set's UNLOADING is the UNLOAD trigger. -/
theorem chgStatus_unloads (hduty : x.duty = dutyCode .unloading) (hfree : ∀ k, u.chg.retry ≠ some (k, .unload)) :
    chgStatus u set x = takeTrigger u .unload := by
  have hstatus := feedingStatus_of_stored hfeeding hstored
  rw [chgStatus_of_idle x hidle hfeeding, idleRows_of_trigger hidle (firstTrigger_of_row
    (by simp [triggerTest, unloadingTest, hstatus, hduty]) (not_heldOff hfree))]

/-- Otherwise the dry note is tested. -/
theorem chgStatus_tests (hno : ¬ (x.duty = dutyCode .unloading ∧ ∀ k, u.chg.retry ≠ some (k, .unload))) :
    chgStatus u set x = noteTest u := by
  have hstatus := feedingStatus_of_stored hfeeding hstored
  have hrow : firstTrigger u [.unload] = none := firstTrigger_of_no_row (by
    by_cases hduty : x.duty = dutyCode .unloading
    · refine .inr (heldOff_iff_exists.mpr ?_)
      refine Classical.byContradiction fun hnone => ?_
      exact hno ⟨hduty, fun k hk => hnone ⟨k, hk⟩⟩
    · exact .inl (by simp [triggerTest, unloadingTest, hstatus, hduty]))
  rw [chgStatus_of_idle x hidle hfeeding, idleRows_of_no_trigger hidle hrow]

end status

/-- Settles O35: each event either tests rows of R98 in IDLE, tests the dry note, or follows the feedback. -/
theorem liveStatesAndTimersTrigger : Obligations.LiveStatesAndTimersTrigger := by
  unfold Obligations.LiveStatesAndTimersTrigger
  intro s hawake
  refine ⟨fun pos level h1 h3 => ?_, fun n hruns hdwell => ?_, fun n r hruns hretry => ?_,
    fun pos h1 h3 hlength => ?_, fun f own x hruns hfollows hsound hown hne hbody => ?_⟩
  · intro turned t
    refine ⟨exec_liveStateChange_rests hawake ⟨h1, h3⟩, ?_⟩
    rintro rfl hruns hclosed hidle hlive hpositions - hfree
    exact exec_liveStateChange_dead hawake ⟨h1, h3⟩ hruns hclosed hidle hlive hpositions hfree
  · intro t
    refine ⟨exec_dwell_early hawake hruns hdwell, fun hn => exec_dwell_rests hawake hruns hdwell hn,
      fun set hn hidle hnote hfree hset hflag => ?_, fun set hn hidle hnote => ⟨fun hset hflag hheld => ?_,
        exec_dwell_clears hawake hruns hdwell hn hidle hnote⟩⟩
    · rw [exec_dwell_holds hawake hruns hdwell hn hidle hnote hset hflag, not_heldOff hfree]
      rfl
    · rw [exec_dwell_holds hawake hruns hdwell hn hidle hnote hset hflag, heldOff_iff_exists.mpr hheld]
      rfl
  · intro t
    refine ⟨exec_retry_early hawake hruns hretry, exec_retry_rests hawake hruns hretry, fun hn hidle => ?_⟩
    have hrow := fun {row : Reason} => exec_retry_of_row hawake hruns hretry hn hidle (row := row)
    refine ⟨fun h => hrow (if_pos h), fun hnone hrestores => hrow ?_, fun h1 h2 h3 => hrow ?_,
      fun h1 h2 h3 hdry hflag => ?_, fun h1 h2 h3 hnote hother => ?_⟩
    · rw [deadTest_of_open hnone, restoreTest_of_open hnone hrestores]
      rfl
    · rw [h1, restoreTest_of_closed h2, h3]
      rfl
    · rw [exec_retry_of_no_row hawake hruns hretry hn hidle h1 h2 h3, if_pos ⟨hdry, hflag⟩]
      rfl
    · have hnot : ¬ (r = .dry ∧ s.feedingStatus.any SetStatus.dryFlag = true) := fun ⟨hdry, hflag⟩ =>
        hother.elim (fun h => h hdry) (fun h => by rw [hflag] at h; cases h)
      rw [exec_retry_of_no_row hawake hruns hretry hn hidle h1 h2 h3, if_neg hnot, noteTest_of_none (by exact hnote)]
      rfl
  · have hpos : 1 ≤ pos ∧ pos ≤ 3 := ⟨h1, h3⟩
    intro changed asks atPos left
    refine ⟨fun level hstation hchange => exec_closedFeedback_unconfigured hawake hstation hpos hchange,
      fun u hruns => exec_feedback_appears hawake hruns hpos hlength, fun w hruns hone hw => ?_,
      fun n others hruns hlocked hpresent hlist => ⟨fun u =>
        exec_feedback_goes_to_other hawake hruns hpos hlength hlocked hpresent hlist,
        exec_feedback_goes_elsewhere hawake hruns hpos hlocked hpresent⟩⟩
    have hopen : (setInput s pos false).closedList = [] := by
      rw [closedList_release hlength hpos, hone]
      simp
    have hgoes : feedbackGoes (setInput s pos false) pos = w := by
      rw [feedbackGoes_of_last hopen]
      rcases hw with ⟨hat, rfl⟩ | ⟨hnot, rfl⟩
      · rw [if_pos (any_current_at.mpr (by exact hat))]
        rfl
      · rw [if_neg (fun h' => hnot (by exact any_current_at.mp h'))]
        rfl
    obtain ⟨hchg, himage, hinputs⟩ : w.chg = s.chg ∧ w.image = s.image ∧ w.inputs = (setInput s pos false).inputs := by
      rcases hw with ⟨-, rfl⟩ | ⟨-, rfl⟩ <;> exact ⟨rfl, rfl, rfl⟩
    refine ⟨exec_last_feedback_rests hawake hruns hpos hlength hone hgoes hinputs hchg, fun hidle =>
      ⟨exec_last_feedback_restores hawake hruns hpos hlength hone hgoes hinputs hchg himage hidle, fun hstays => ?_⟩⟩
    obtain ⟨hnone, hexec⟩ := exec_last_feedback_tests hawake hruns hpos hlength hone hgoes hinputs hchg himage hidle hstays
    obtain ⟨hkept, hcleared⟩ := noteTest_of_open hnone
    rw [hchg] at hkept hcleared
    exact ⟨fun h => by rw [hexec, hkept h], fun hnote hdwell => by rw [hexec, hcleared hnote hdwell]⟩
  · intro u answers feeding unloads begun
    obtain ⟨p, hp⟩ := noted_shape s f.sender (.set x)
    have hu : u = { s with peers := p, line := { s.line with phase := .waiting } } := hp
    have hanswers : ∀ v : State, chgStatus u f.sender x = v → v.boardBill.table = s.boardBill.table → answers v :=
      fun v hv htable => exec_setStatus_answers hawake hfollows hsound hruns hown hne hbody hv htable
    have hchg : u.chg = s.chg := by rw [hu]
    have htable : u.boardBill.table = s.boardBill.table := by rw [hu]
    have htrigger : ∀ r, (begun r).boardBill.table = s.boardBill.table := fun r =>
      (((State.Touches.refl [.chg] u).thenBeginAttempt ..).same .boardBill (by decide)
        |> congrArg BoardSettlement.table).trans htable
    have hclosed : (u.closedPos ≠ 0 ∧ u.image.setAt u.closedPos = f.sender) ↔ feeding := by rw [hu]; rfl
    have hstored : u.setStatusOf f.sender = some x := by
      have hself := peer_noted_self (s := s) (hears_of_other hown hne) (.set x)
      simp only [State.setStatusOf, show u.peer f.sender = _ from hself]
    rw [← hchg, ← hclosed]
    refine ⟨fun hidle hwait => hanswers u (chgStatus_of_busy _ _ hidle hwait) htable,
      fun hidle hnot => hanswers u (chgStatus_of_elsewhere _ hidle hnot) htable,
      fun hidle hyes hunloads => hanswers _ ?_ (htrigger .unload), fun hidle hyes hno => ?_⟩
    · exact chgStatus_unloads hidle hyes hstored hunloads.1 (by rw [hchg]; exact hunloads.2)
    have htests := chgStatus_tests hidle hyes hstored (by rw [hchg]; exact hno)
    have hset : u.feedingSet = f.sender := hyes.2
    have hstatus := feedingStatus_of_stored hyes hstored
    refine ⟨fun hquiet => hanswers u (htests.trans (hquiet.elim noteTest_of_none noteTest_of_dwell)) htable,
      fun n hnote hdwell => ⟨fun hn hflag => ⟨fun hheld => hanswers u ?_ htable, fun hfree => hanswers _ ?_ (htrigger .dry)⟩,
        fun hother => hanswers _ ?_ htable⟩⟩
    · rw [htests, noteTest_holds hnote hdwell (hn.trans hset.symm) (by rw [hstatus]; exact hflag),
        if_pos (heldOff_iff_exists.mpr hheld)]
    · rw [htests, noteTest_holds hnote hdwell (hn.trans hset.symm) (by rw [hstatus]; exact hflag),
        if_neg (by rw [not_heldOff hfree]; decide)]
      rfl
    · rw [htests, noteTest_clears hnote hdwell ?_]
      rw [hset, hstatus]
      exact hother.imp id (fun h => h)

/-! ## CHANGEOVER and ABORT (R96, R111) -/

/-- A reply leaves the port it found, where the command's rules left it. -/
theorem replied_of_port {s t : State} (h : t.port = s.port) (n : Nat) (c : ReplyCode) (p : List Byte) :
    t.replied n c p = { t with port := s.port }.replied n c p := by
  rw [← h]

theorem rd4_low (p : Byte) : rd4 0#8 0#8 0#8 p = p.toNat := by
  simp [rd4, rd2]

theorem exec_changeover {s : State} {p : Byte} (h : s.listens) :
    exec (.changeover [0#8, 0#8, 0#8, p]) s = .next (let w := request .board [0#8, 0#8, 0#8, p] changeoverAct s
      w.state.replied 8 w.code w.payload) :=
  congrArg Host.Outcome.next (takeCommand_of_listens h 8 _)

theorem exec_abort {s : State} {p : Byte} (h : s.listens) :
    exec (.abort [0#8, 0#8, 0#8, p]) s = .next (let w := request .board [0#8, 0#8, 0#8, p] (fun _ => abortAct) s
      w.state.replied 8 w.code w.payload) :=
  congrArg Host.Outcome.next (takeCommand_of_listens h 8 _)

theorem abortAct_of_asking {s : State} {a : Attempt} (hattempt : s.chg.attempt = some a)
    (hstate : s.chg.state = .seeking ∨ s.chg.state = .waiting) :
    abortAct s = accept (endAttempt (releaseTarget s a) { a with owed := false } .aborted) := by
  rcases hstate with h | h <;> simp only [abortAct, h, abortAttempt, hattempt]

theorem abortAct_of_moving {s : State}
    (hstate : s.chg.state = .breaking ∨ s.chg.state = .dead ∨ s.chg.state = .making) :
    abortAct s = refuse .committed s := by
  rcases hstate with h | h | h <;> simp only [abortAct, h]

theorem abortAct_of_none {s : State} (hstate : s.chg.state = .idle ∨ s.chg.state = .locked) :
    abortAct s = refuse .none s := by
  rcases hstate with h | h <;> simp only [abortAct, h]

/-- Settles O57: the refusals of R96 and R111 in their order, then the attempt begun or ended. -/
theorem changeoverAndAbortAreAnswered : Obligations.ChangeoverAndAbortAreAnswered := by
  unfold Obligations.ChangeoverAndAbortAreAnswered
  intro s p hl pos change abort replied ticket estimate begun
  have hchange : exec change s = _ := exec_changeover hl
  have habort : exec abort s = _ := exec_abort hl
  have hfits : 1 ≤ pos → pos ≤ 3 → s.image.setAt pos ≠ 0 → ¬ (pos = 0 ∨ 3 < pos ∨ s.image.setAt pos = 0) := by omega
  refine ⟨fun hstation => ⟨?_, ?_⟩, fun hrun hrole => ⟨?_, ?_⟩, fun hruns => ⟨fun hrange => ?_,
    fun h1 h3 hnamed => ⟨fun hbusy => ?_, fun hidle hsame => ?_, fun hidle hother => ?_⟩, fun hmoving => ?_,
    fun hnone => ?_, fun a hattempt hstate => ?_⟩⟩
  · rw [hchange, request_of_unconfigured hstation]; rfl
  · rw [habort, request_of_unconfigured hstation]; rfl
  · rw [hchange, request_of_other_role hrun hrole]; rfl
  · rw [habort, request_of_other_role hrun hrole]; rfl
  · rw [hchange, request_of_runs hruns, rd4_low, changeoverAct, if_pos hrange]; rfl
  · rw [hchange, request_of_runs hruns, rd4_low, changeoverAct, if_neg (hfits h1 h3 hnamed), if_pos hbusy]; rfl
  · rw [hchange, request_of_runs hruns, rd4_low, changeoverAct, if_neg (hfits h1 h3 hnamed), if_neg (not_not_intro hidle),
      if_pos hsame]
    rfl
  · rw [hchange, request_of_runs hruns, rd4_low, changeoverAct, if_neg (hfits h1 h3 hnamed), if_neg (not_not_intro hidle),
      if_neg hother, beginAttempt_asks]
    rfl
  · rw [habort, request_of_runs hruns, abortAct_of_moving hmoving]; rfl
  · rw [habort, request_of_runs hruns, abortAct_of_none hnone]; rfl
  · intro retry hcalm
    have hended := endAttempt_of_calm (w := releaseTarget s a) (a := { a with owed := false }) (o := .aborted)
      ⟨hcalm.dead, hcalm.restore, hcalm.unload, hcalm.note⟩
    rw [habort, request_of_runs hruns, abortAct_of_asking hattempt hstate, hended]
    rfl

/-! ## CLEAR_FAULT (R66, R95) -/

theorem exec_clearFault {s : State} (h : s.listens) :
    exec (.clearFault []) s = .next (let w := inRun clearFault s
      w.state.replied 10 w.code w.payload) :=
  congrArg Host.Outcome.next (takeCommand_of_listens h 10 _)

theorem clearFault_of_runs {s : State} {r : Role} (h : s.runs r = true) :
    inRun clearFault s =
      match r with
      | .set => clearDuty s
      | .board => clearSwitch s
      | .tanker => refuse .role s := by
  obtain ⟨hrun, hrole⟩ := runs_iff.mp h
  refine (if_pos hrun).trans ?_
  rw [clearFault, hrole]
  cases r <;> rfl

/-- A SET that leaves FAULT without starting has nothing to settle. -/
theorem enterOff_settled {s : State} (hs : s.Settled) (hstate : s.duty.state = .fault)
    (hstays : s.duty.mode ≠ .prime ∨ s.inhibit = true) :
    settle (enterOff s) = postStatus (setDuty s .off none) := by
  have hnot : ¬ ((postStatus (setDuty s .off none)).duty.state = .off ∧ (postStatus (setDuty s .off none)).duty.mode = .prime ∧
      (postStatus (setDuty s .off none)).inhibit = false) := by
    rintro ⟨-, hmode, hinhibit⟩
    rcases hstays with h | h
    · exact h hmode
    · exact absurd (h.symm.trans hinhibit) (by decide)
  rw [enterOff, primeStart, if_neg hnot]
  exact settle_moved hs rfl rfl (.inl rfl) id (.inr (.inl (by rw [hstate]; decide)))

/-- In PRIME, without start inhibit, the set starts in the same event (R51). -/
theorem enterOff_primed {s : State} (hs : s.Settled) (hstate : s.duty.state = .fault) (hmode : s.duty.mode = .prime)
    (hinhibit : s.inhibit = false) (hinput : s.input 1 = false) (hstarts : s.duty.starts + 1 < two32) :
    settle (enterOff s) = startEngine (postStatus (setDuty s .off none)) := by
  rw [enterOff, primeStart, if_pos ⟨rfl, hmode, hinhibit⟩, startEngine_idle (by exact hinput) (by exact hstarts)]
  exact settle_moved hs rfl rfl (.inl rfl) (fun _ => rfl) (.inr (.inl (by rw [hstate]; decide)))

/-- A BOARD as it leaves LOCKED, before any trigger (R95). -/
def State.unlocked (s : State) : State :=
  postStatus
    { addEvent s .switchFaultCleared with
        chg := { s.chg with state := .idle, fault := none, retry := none, dwell := none } }

theorem unlock_eq (s : State) : unlock s = idleTests s.unlocked := rfl

theorem unlock_of_trigger {s : State} {r : Reason} (h : firstTrigger s.unlocked allRows = some r) :
    unlock s = takeTrigger s.unlocked r := by
  rw [unlock_eq, idleTests, idleRows_of_trigger rfl h]

theorem unlock_of_none {s : State} (h : firstTrigger s.unlocked allRows = none) : unlock s = noteTest s.unlocked := by
  rw [unlock_eq, idleTests, idleRows_of_no_trigger rfl h]

theorem takeTrigger_port (s : State) (r : Reason) : (takeTrigger s r).port = s.port :=
  ((State.Touches.refl [.chg] s).thenTakeTrigger r).same .port (by decide)

/-- Settles O60: a SET leaves FAULT for OFF, a BOARD LOCKED for IDLE, whose tests decide what follows. -/
theorem clearFaultReleasesTheStation : Obligations.ClearFaultReleasesTheStation := by
  unfold Obligations.ClearFaultReleasesTheStation
  intro s hl clear replied
  have hclear : exec clear s = _ := exec_clearFault hl
  refine ⟨fun hstation => ?_, fun hruns => ?_, fun hruns => ⟨fun hother => ?_, fun hstate htrip => ?_,
    fun hstate htrip hsettled => ?_⟩, fun hruns => ⟨fun hother => ?_, fun hstate htwo => ?_, fun hstate hfew => ?_⟩⟩
  · rw [hclear, inRun, if_neg (by rw [hstation]; decide)]; rfl
  · rw [hclear, clearFault_of_runs hruns]; rfl
  · rw [hclear, clearFault_of_runs hruns, clearDuty, if_neg hother]; rfl
  · rw [hclear, clearFault_of_runs hruns, clearDuty, if_pos hstate, if_pos htrip]; rfl
  · intro off
    rw [hclear, clearFault_of_runs hruns, clearDuty, if_pos hstate, if_neg (by rw [htrip]; decide),
      dutyEvent_of_runs hl.1 hruns]
    refine ⟨fun hstays => ?_, fun hmode hinhibit hinput hstarts => ?_⟩
    · rw [enterOff_settled hsettled hstate hstays]
      rfl
    · rw [enterOff_primed hsettled hstate hmode hinhibit hinput hstarts, startEngine_idle (by exact hinput)
        (by exact hstarts)]
      rfl
  · rw [hclear, clearFault_of_runs hruns, clearSwitch, if_neg hother]; rfl
  · rw [hclear, clearFault_of_runs hruns, clearSwitch, if_pos hstate, if_pos htwo]; rfl
  · intro w begun
    have hrows := firstTrigger_of_no_retry (s := s.unlocked) rfl
    have hdead : deadTest s.unlocked = deadTest s := rfl
    have hrestore : restoreTest s.unlocked = restoreTest s := rfl
    have hunload : unloadingTest s.unlocked = unloadingTest s := rfl
    rw [hdead, hrestore, hunload] at hrows
    have haccept : exec clear s = .next ((unlock s).replied 10 .ok []) := by
      rw [hclear, clearFault_of_runs hruns, clearSwitch, if_pos hstate, if_neg (by omega)]
      rfl
    have htakes : ∀ r, unlock s = takeTrigger s.unlocked r → exec clear s = begun r := fun r h => by
      rw [haccept, h, replied_of_port (s := s) (takeTrigger_port s.unlocked r)]
      rfl
    rw [haccept] at htakes
    rw [haccept]
    refine ⟨fun hcalm => ?_, fun hclosed hnotlive => htakes _ (unlock_of_trigger ?_),
      fun hnone hrestores => htakes _ (unlock_of_trigger ?_), fun h1 h2 h3 => htakes _ (unlock_of_trigger ?_),
      fun n h1 h2 h3 hnote => ?_⟩
    · rw [unlock_eq, idleTests_of_calm (by exact ⟨hcalm.dead, hcalm.restore, hcalm.unload, hcalm.note⟩)]
      rfl
    · rw [hrows, if_pos (by simp [deadTest, hclosed, hnotlive])]
    · rw [hrows, if_neg (by rw [deadTest_of_open hnone]; decide), if_pos (restoreTest_of_open hnone hrestores)]
    · rw [hrows, if_neg (by rw [h1]; decide), if_neg (by rw [restoreTest_of_closed h2]; decide), if_pos h3]
    · rw [if_neg (by rw [h1]; decide), if_neg (by rw [h2]; decide), if_neg (by rw [h3]; decide)] at hrows
      refine ⟨fun hset hflag => htakes _ ?_, fun hother => ?_⟩
      · rw [unlock_of_none hrows, noteTest_holds (by exact hnote) rfl (by exact hset) (by exact hflag),
          if_neg (by exact Bool.false_ne_true)]
      · rw [unlock_of_none hrows, noteTest_clears (by exact hnote) rfl (by exact hother)]
        rfl

end Sys2Proof.Machine
end

section
/-! PROOFS. What the conditions and refusals of a SET leave, and its inputs and trips (O38, O39). -/
set_option Elab.async false

namespace Sys2Proof.Machine

/-! ## Refusals of a whole list (R67, R84) -/

theorem foldl_refuseEntry (reason : Nat) (l : List Reservation) (w : State) :
    l.foldl (refuseEntry reason) w = State.refusing reason l w := by
  induction l generalizing w with
  | nil => rfl
  | cons r l ih => exact ih _

theorem refuseAll_eq (s : State) (reason : Nat) : refuseAll s reason = State.refusing reason s.reservations s :=
  foldl_refuseEntry ..

/-- Refusals take the entries named from the list, and otherwise change the line and the records alone. -/
theorem refusing_shape (reason : Nat) (l : List Reservation) (w : State) :
    ∃ line records, State.refusing reason l w =
      { w with
          reservations := w.reservations.filter (fun q => l.all (fun r => q.board != r.board))
          line := line
          records := records } := by
  induction l generalizing w with
  | nil =>
    refine ⟨w.line, w.records, ?_⟩
    simp only [State.refusing, List.all_nil, List.filter_eq_self.mpr (fun _ _ => rfl)]
  | cons r l ih =>
    obtain ⟨line, records, h⟩ := ih (refuseEntry reason w r)
    refine ⟨line, records, h.trans ?_⟩
    have hlist : (refuseEntry reason w r).reservations = w.reservations.filter (fun q => q.board != r.board) := rfl
    rw [hlist, List.filter_filter]
    simp only [List.all_cons, Bool.and_comm]
    rfl

/-- Refusing every entry leaves none. -/
theorem refusing_all_shape (reason : Nat) (w : State) :
    ∃ line records, State.refusing reason w.reservations w =
      { w with reservations := [], line := line, records := records } := by
  obtain ⟨line, records, h⟩ := refusing_shape reason w.reservations w
  refine ⟨line, records, h.trans ?_⟩
  have hnone : w.reservations.filter (fun q => w.reservations.all (fun r => q.board != r.board)) = [] :=
    List.filter_eq_nil_iff.mpr (fun q hq hall => by simpa using List.all_eq_true.mp hall q hq)
  rw [hnone]

theorem refuseAll_of_none {s : State} (h : s.reservations = []) (reason : Nat) : refuseAll s reason = s := by
  rw [refuseAll, h]
  rfl

/-! ## What is left to settle (R61) -/

theorem present_of_none {s : State} (h : s.duty.conditions = []) (c : FaultClass) : s.present c = false := by
  rw [State.present, h]
  rfl

theorem present_of_one {s : State} {c : FaultClass} (h : s.duty.conditions = [c]) (d : FaultClass) :
    s.present d = true ↔ d = c := by
  rw [State.present, h]
  simp

theorem settled_of_none {s : State} (h : s.duty.conditions = []) : s.Settled := by
  refine ⟨fun h1 => ?_, fun h1 => ?_, fun h1 => ?_⟩ <;> rw [present_of_none h] at h1 <;> cases h1

theorem settle_of_none {s : State} (h : s.duty.conditions = []) : settle s = s := (settled_of_none h).settle

theorem settle_of_one {s : State} {c : FaultClass} (h : s.duty.conditions = [c])
    (hengine : c = .engineFault → s.input 3 = true ∨ s.duty.runOn = true)
    (hbreaker : c = .breaker → s.input 2 ≠ s.duty.brkClosed) (hburn : c = .burnSilent → s.duty.state = .ready) :
    settle s = s :=
  State.Settled.settle ⟨fun h1 => hengine ((present_of_one h _).mp h1).symm,
    fun h1 => hbreaker ((present_of_one h _).mp h1).symm, fun h1 => hburn ((present_of_one h _).mp h1).symm⟩

/-- Where ENGINE_FAULT goes and nothing else is left to settle, its going is all that is settled. -/
theorem settle_clears_engineFault {s u : State} (hinput : s.input 3 = false) (hrun : s.duty.runOn = false)
    (hu : clearCondition s .engineFault = u) (hsettled : u.Settled) : settle s = u := by
  have hrest := hsettled.settle
  have hbreaker : (if u.input 2 = u.duty.brkClosed then clearCondition u .breaker else u) = u := by
    split
    · refine clearCondition_of_absent (Bool.eq_false_iff.mpr (fun h => ?_))
      exact hsettled.breaker h (by assumption)
    · rfl
  unfold settle
  simp only [hinput, hrun, and_self, if_true, hu, hbreaker]
  split
  · rfl
  · refine clearCondition_of_absent (Bool.eq_false_iff.mpr (fun h => ?_))
    exact absurd (hsettled.burn h) (by assumption)

/-- Where BREAKER goes and nothing else is left to settle, its going is all that is settled. -/
theorem settle_clears_breaker {s u : State} (hengine : s.present .engineFault = false)
    (hinput : s.input 2 = s.duty.brkClosed) (hu : clearCondition s .breaker = u) (hsettled : u.Settled) :
    settle s = u := by
  have hfirst : (if s.input 3 = false ∧ s.duty.runOn = false then clearCondition s .engineFault else s) = s := by
    split
    · exact clearCondition_of_absent hengine
    · rfl
  unfold settle
  simp only [hfirst, hinput, if_true, hu]
  split
  · rfl
  · refine clearCondition_of_absent (Bool.eq_false_iff.mpr (fun h => ?_))
    exact absurd (hsettled.burn h) (by assumption)

/-! ## A condition that arises (R63, R64) -/

/-- The entry of a condition that arises now. -/
def State.freshFault (s : State) (c : FaultClass) (present : Bool) : FaultEntry :=
  { cls := c, raisedAt := s.stationSeconds, present := present, acked := false }

/-- The set with its first condition listed, recorded and told, its reaction not yet acting. -/
def State.alarmed (s : State) (c : FaultClass) : State :=
  postStatus (addEvent
    { s with duty := { s.duty with conditions := [c], faults := s.duty.faults ++ [s.freshFault c true] } }
    (.faultRaised c s.duty.state))

theorem raisedList_of_unlisted {s : State} {c : FaultClass} (h : s.listed c = false) (present : Bool) :
    raisedList s.duty.faults c s.stationSeconds present = s.duty.faults ++ [s.freshFault c present] :=
  if_neg (by rw [← State.listed, h]; decide)

theorem raiseEntry_of_unlisted {s : State} {c : FaultClass} (h : s.listed c = false) (present : Bool) (e : Event) :
    raiseEntry s c present e = postStatus (addEvent
      { s with duty := { s.duty with faults := s.duty.faults ++ [s.freshFault c present] } } e) := by
  rw [raiseEntry, raisedList_of_unlisted h, if_neg (by rw [h]; decide)]

/-- Listed or not, a raising leaves its list and its record, and beyond them at most a STATUS. -/
theorem raiseEntry_shape (s : State) (c : FaultClass) (present : Bool) (e : Event) :
    ∃ line, raiseEntry s c present e =
      { s with
          duty := { s.duty with faults := raisedList s.duty.faults c s.stationSeconds present }
          line := line
          records := appendTo s.records s.stationSeconds s.powerUps (.event e) } := by
  unfold raiseEntry
  split <;> exact ⟨_, rfl⟩

section raise
variable {s : State} {c : FaultClass} (hnone : s.duty.conditions = [])
include hnone

theorem raiseCondition_of_none : raiseCondition s c = actReaction (raiseOnly s c) :=
  if_neg (by rw [present_of_none hnone]; decide)

theorem raiseOnly_eq (hreaction : s.image.reaction c ≠ .ignore) :
    raiseOnly s c = raiseEntry { s with duty := { s.duty with conditions := [c] } } c true
      (.faultRaised c s.duty.state) := by
  rw [raiseOnly, if_neg (by rw [present_of_none hnone]; decide), hnone]
  exact if_neg hreaction

theorem raiseOnly_of_unlisted (hreaction : s.image.reaction c ≠ .ignore) (hlisted : s.listed c = false) :
    raiseOnly s c = s.alarmed c := by
  rw [raiseOnly_eq hnone hreaction]
  exact raiseEntry_of_unlisted (s := { s with duty := { s.duty with conditions := [c] } }) hlisted true _

theorem raiseOnly_ignored (hreaction : s.image.reaction c = .ignore) :
    raiseOnly s c = { s with duty := { s.duty with conditions := [c] } } := by
  rw [raiseOnly, if_neg (by rw [present_of_none hnone]; decide), hnone]
  exact if_pos hreaction

end raise

/-! ## The active reaction (R63) -/

theorem activeReaction_of_one {s : State} {c : FaultClass} (h : s.duty.conditions = [c]) :
    s.activeReaction =
      match s.image.reaction c with
      | .trip => .trip
      | .unload => .unload
      | .alarm => .alarm
      | .ignore => .alarm := by
  simp only [State.activeReaction, State.tripPresent, State.unloadPresent, h, List.any_cons, List.any_nil, Bool.or_false]
  cases s.image.reaction c <;> rfl

/-- The set after a trip: both pulses, FAULT, every reservation refused, a STATUS. -/
def State.tripped (s : State) : State :=
  postStatus (State.refusing reasonFault s.reservations
    { s with
        pulses := { engine := some .runOff, breaker := some .brkOpen }
        duty := { s.duty with
          state := .fault, origin := none, overload := 0, burnSilence := 0, runOn := false, brkClosed := false
          disagree := if s.duty.brkClosed then 0 else s.duty.disagree } })

theorem trip_eq (s : State) : trip s = s.tripped := by
  rw [trip, enterFault, refuseAll_eq]
  rfl

section react
variable {s : State} {c : FaultClass} (hone : s.duty.conditions = [c])
include hone

theorem actReaction_trip (hreaction : s.image.reaction c = .trip) (hstate : s.duty.state ≠ .fault) :
    actReaction s = s.tripped := by
  have hactive : s.activeReaction = .trip := by rw [activeReaction_of_one hone, hreaction]
  rw [actReaction, hactive]
  exact (if_neg hstate).trans (trip_eq s)

theorem actReaction_trip_fault (hreaction : s.image.reaction c = .trip) (hstate : s.duty.state = .fault) :
    actReaction s = s := by
  have hactive : s.activeReaction = .trip := by rw [activeReaction_of_one hone, hreaction]
  rw [actReaction, hactive]
  exact if_pos hstate

theorem actReaction_alarm (hreaction : s.image.reaction c = .alarm ∨ s.image.reaction c = .ignore) :
    actReaction s = s := by
  have hactive : s.activeReaction = .alarm := by
    rw [activeReaction_of_one hone]
    rcases hreaction with h | h <;> rw [h]
  rw [actReaction, hactive]

theorem actReaction_unload (hreaction : s.image.reaction c = .unload) :
    actReaction s =
      match s.duty.state with
      | .off => s
      | .starting => abandonStart s
      | .warming => abandonWarming s
      | .ready => enterUnloading s
      | .unloading => s
      | .cooling => setDuty s .cooling (some .stopping)
      | .fault => s := by
  have hactive : s.activeReaction = .unload := by rw [activeReaction_of_one hone, hreaction]
  rw [actReaction, hactive] <;> cases s.duty.state <;> rfl

end react

/-- A first condition whose reaction is TRIP trips the set. -/
theorem raiseCondition_trips {s : State} {c : FaultClass} (hnone : s.duty.conditions = [])
    (hreaction : s.image.reaction c = .trip) (hlisted : s.listed c = false) (hstate : s.duty.state ≠ .fault) :
    raiseCondition s c = (s.alarmed c).tripped := by
  rw [raiseCondition_of_none hnone, raiseOnly_of_unlisted hnone (by rw [hreaction]; decide) hlisted]
  exact actReaction_trip (c := c) rfl hreaction hstate

/-! ## A condition that goes (R61, R64) -/

/-- Away from a start in PRIME, the going marks the entry, is recorded, and lets settled entries leave. -/
theorem clearCondition_of_present {s : State} {c : FaultClass} (hpresent : s.present c = true)
    (hreaction : s.image.reaction c ≠ .ignore) (hstays : s.duty.state ≠ .off ∨ s.duty.mode ≠ .prime) :
    clearCondition s c = dropSettled (addEvent
      { s with
          duty := { s.duty with
            conditions := s.duty.conditions.filter (fun d => d != c)
            faults := s.duty.faults.map (fun e => if e.cls = c then { e with present := false } else e) } }
      (.faultCleared c)) := by
  rw [clearCondition, if_pos hpresent]
  dsimp only
  rw [if_neg hreaction]
  split
  · rw [primeStart, if_neg]
    rw [dropSettled_duty]
    rintro ⟨hoff, hprime, -⟩
    exact hstays.elim (fun h => h hoff) (fun h => h hprime)
  · rfl

theorem clearCondition_ignored {s : State} {c : FaultClass} (hpresent : s.present c = true)
    (hreaction : s.image.reaction c = .ignore) (hstays : s.duty.state ≠ .off ∨ s.duty.mode ≠ .prime) :
    clearCondition s c =
      { s with duty := { s.duty with conditions := s.duty.conditions.filter (fun d => d != c) } } := by
  rw [clearCondition, if_pos hpresent]
  dsimp only
  rw [if_pos hreaction]
  split
  · rw [primeStart, if_neg]
    rintro ⟨hoff, hprime, -⟩
    exact hstays.elim (fun h => h hoff) (fun h => h hprime)
  · rfl

theorem dropSettled_of_all {s : State} (h : ∀ e ∈ s.duty.faults, e.stays = true) : dropSettled s = s := by
  have hfilter : s.duty.faults.filter FaultEntry.stays = s.duty.faults := List.filter_eq_self.mpr h
  rw [dropSettled_eq, hfilter, if_pos rfl]

theorem stays_iff {e : FaultEntry} : e.stays = true ↔ e.present = true ∨ e.acked = false := by
  simp [FaultEntry.stays]

theorem dropSettled_of_some {s : State} (h : ∃ e ∈ s.duty.faults, e.stays = false) :
    dropSettled s = postStatus { s with duty := { s.duty with faults := s.duty.faults.filter FaultEntry.stays } } := by
  obtain ⟨e, he, hleaves⟩ := h
  refine if_neg (fun hall => ?_)
  rw [List.all_eq_true.mp hall e he] at hleaves
  cases hleaves

/-- Only the new entry of its class is marked GONE. -/
theorem map_gone {l : List FaultEntry} {c : FaultClass} (h : ∀ e ∈ l, e.cls ≠ c) (s : State) :
    (l ++ [s.freshFault c true]).map (fun e => if e.cls = c then { e with present := false } else e) =
      l ++ [s.freshFault c false] := by
  rw [List.map_append]
  have hold : l.map (fun e => if e.cls = c then { e with present := false } else e) = l :=
    (List.map_congr_left (fun e he => if_neg (h e he))).trans (List.map_id l)
  rw [hold]
  exact congrArg (fun e => l ++ [e]) (if_pos rfl)

theorem unlisted_iff {s : State} {c : FaultClass} : s.listed c = false ↔ ∀ e ∈ s.duty.faults, e.cls ≠ c := by
  simp [State.listed]

/-! ## The field inputs of a SET (R50) -/

/-- A field input that changes in a SET in RUN: the duty controller's part, and what it settles. -/
theorem pinChange_of_set {s : State} {n : Nat} {level : Bool} (hawake : s.awake = true) (hruns : s.runs .set = true)
    (hn : 1 ≤ n ∧ n ≤ 3) (hchange : s.input n ≠ level) :
    pinChange s n level = settle (dutyInput (setInput s n level) n level) := by
  have hboard : ∀ t : State, t.station = s.station → t.image = s.image → t.runs .board = false := fun t h1 h2 =>
    runs_of_set (by rw [State.runs, h1, h2]; exact hruns)
  have htouched : (dutyEvent (setInput s n level) (fun t => dutyInput t n level)).runs .board = false := by
    have h : (setInput s n level).Touches dutyParts (dutyEvent (setInput s n level) (fun t => dutyInput t n level)) :=
      (State.Touches.refl dutyParts (setInput s n level)).thenDutyEvent
        (fun v => (State.Touches.refl actParts v).thenDutyInput n level)
    exact hboard _ (h.same .station (by decide)) (h.same .image (by decide))
  rw [pinChange, if_neg (fun h => h.elim hchange (by omega)), whenRuns_of_not_runs htouched, dutyEvent,
    whenRuns_of_runs (by exact hawake) (by exact hruns)]

theorem pinChange_held {s : State} {n : Nat} {level : Bool} (h : s.input n = level) : pinChange s n level = s :=
  if_pos (.inl h)

section pins
variable {s : State} (hawake : s.awake = true)
include hawake

theorem exec_engineReady (level : Bool) : exec (.engineReadyChange level) s = .next (pinChange s 1 level) :=
  congrArg Host.Outcome.next (whenAwake_of_awake hawake _)

theorem exec_breakerFeedback (level : Bool) : exec (.breakerFeedbackChange level) s = .next (pinChange s 2 level) :=
  congrArg Host.Outcome.next (whenAwake_of_awake hawake _)

theorem exec_engineFaultInput (level : Bool) :
    exec (.engineFaultInputChange level) s = .next (pinChange s 3 level) :=
  congrArg Host.Outcome.next (whenAwake_of_awake hawake _)

end pins

/-- Settles O38: each input is a branch of `dutyInput`, and ENGINE_FAULT is settled by its own going. -/
theorem engineAndBreakerInputsAreFollowed : Obligations.EngineAndBreakerInputsAreFollowed := by
  unfold Obligations.EngineAndBreakerInputsAreFollowed
  intro s hawake
  refine ⟨fun coil => congrArg Host.Outcome.next (whenAwake_of_awake hawake _),
    fun level h => by rw [exec_engineReady hawake, pinChange_held h],
    fun level h => by rw [exec_engineFaultInput hawake, pinChange_held h],
    fun hruns hlength hsettled hpresent => ?_, fun hruns hlength hnone => ⟨fun hinput hstate hwarm => ?_,
      fun hinput hstate hmode => ?_, fun level hchange => ?_⟩⟩
  · intro inputs gone cleared
    have hpin : exec (.engineFaultInputChange false) s = .next (settle (setInput s 3 false)) := by
      rw [exec_engineFaultInput hawake, pinChange_of_set hawake hruns (by decide) (by rw [hpresent]; decide)]
      rfl
    have h3 : (setInput s 3 false).input 3 = false := by rw [input_setInput hlength (by decide) (by decide), if_pos rfl]
    have h2 : (setInput s 3 false).input 2 = s.input 2 := by
      rw [input_setInput hlength (by decide) (by decide), if_neg (by decide)]
    refine ⟨fun hstays => ?_, fun hrun hcondition hidle => ?_⟩
    · have hkept : (setInput s 3 false).Settled :=
        ⟨fun h => .inr (hstays.resolve_right (by rw [show s.present .engineFault = true from h]; decide)),
          fun h => by rw [h2]; exact hsettled.breaker h, hsettled.burn⟩
      rw [hpin, hkept.settle]
      rfl
    · have hclear := clearCondition_of_present (s := setInput s 3 false) (c := .engineFault) hcondition
        (show Reaction.trip ≠ .ignore by decide) hidle
      have hkeeps : ∀ u : State, u.inputs = (setInput s 3 false).inputs → u.duty.brkClosed = s.duty.brkClosed →
          u.duty.state = s.duty.state → u.duty.conditions = s.duty.conditions.filter (fun d => d != .engineFault) →
          u.Settled := fun u hi hb hs hc => by
        have hfewer : ∀ d, u.present d = true → d ≠ .engineFault ∧ s.present d = true := fun d hd => by
          have hmem : d ∈ u.duty.conditions := List.contains_iff_mem.mp hd
          rw [hc] at hmem
          obtain ⟨hmem, hne⟩ := List.mem_filter.mp hmem
          exact ⟨by simpa using hne, List.contains_iff_mem.mpr hmem⟩
        refine ⟨fun h => absurd rfl (hfewer _ h).1, fun h => ?_, fun h => ?_⟩
        · have hin : u.input 2 = s.input 2 := by rw [← h2, State.input, State.input, hi]
          rw [hin, hb]
          exact hsettled.breaker (hfewer _ h).2
        · rw [hs]
          exact hsettled.burn (hfewer _ h).2
      refine ⟨fun hall => ?_, fun hsome => ?_⟩
      · rw [dropSettled_of_all (by exact fun e he => stays_iff.mpr (hall e he))] at hclear
        rw [hpin, settle_clears_engineFault h3 hrun hclear (hkeeps _ rfl rfl rfl rfl)]
        have hfilter : gone.filter (fun e => e.present || !e.acked) = gone :=
          List.filter_eq_self.mpr (fun e he => by simpa using hall e he)
        simp only [cleared, hfilter]
        rfl
      · rw [dropSettled_of_some (by
          obtain ⟨e, he, hgone, hacked⟩ := hsome
          exact ⟨e, he, by simp [FaultEntry.stays, hgone, hacked]⟩)] at hclear
        rw [hpin, settle_clears_engineFault h3 hrun hclear (hkeeps _ rfl rfl rfl rfl)]
        rfl
  · rw [exec_engineReady hawake, pinChange_of_set hawake hruns (by decide) (by rw [hinput]; decide)]
    have hacts : dutyInput (setInput s 1 true) 1 true =
        postStatus (zeroTimer (setDuty (setInput s 1 true) .warming none)) := by
      rw [dutyInput, if_pos rfl, engineReady, if_pos rfl, if_pos (by exact hstate), enterWarming, if_neg (by exact hwarm)]
    rw [hacts, settle_of_none (by exact hnone)]
    rfl
  · rw [exec_engineReady hawake, pinChange_of_set hawake hruns (by decide) (by rw [hinput]; decide)]
    have hacts : dutyInput (setInput s 1 false) 1 false =
        postStatus (setDuty (pulse (setInput s 1 false) .runOff) .off none) := by
      rw [dutyInput, if_pos rfl, engineReady, if_neg (by decide)]
      simp only [show (setInput s 1 false).duty.state = .cooling from hstate]
      rw [enterOff, primeStart, if_neg (by exact fun h => hmode h.2.1)]
    rw [hacts, settle_of_none (by exact hnone)]
    rfl
  · rw [exec_breakerFeedback hawake, pinChange_of_set hawake hruns (by decide) hchange]
    have h2 : (setInput s 2 level).input 2 = level := by rw [input_setInput hlength (by decide) (by decide), if_pos rfl]
    have hacts : dutyInput (setInput s 2 level) 2 level = { s with
        inputs := s.inputs.set 1 level
        duty := { s.duty with
          disagree := if level = s.duty.brkClosed ∧ s.duty.disagree = 2 then 0 else s.duty.disagree } } := by
      rw [dutyInput, if_neg (by decide), if_pos rfl, breakerFeedback, h2]
      by_cases hagrees : level = s.duty.brkClosed ∧ s.duty.disagree = 2
      · rw [if_pos (by exact hagrees), if_pos hagrees]
        rfl
      · rw [if_neg (by exact hagrees), if_neg hagrees]
        rfl
    rw [hacts, settle_of_none (by exact hnone)]

end Sys2Proof.Machine
end

section
/-! PROOFS. The trips of a SET (O39). -/
set_option Elab.async false

namespace Sys2Proof.Machine

/-! ## What a trip leaves -/

/-- The set as it enters FAULT: every reservation refused, a STATUS (R67). -/
def State.faulted (s : State) : State :=
  postStatus (State.refusing reasonFault s.reservations
    { s with duty := { s.duty with state := .fault, origin := none, overload := 0, burnSilence := 0 } })

theorem enterFault_eq (s : State) : enterFault s = s.faulted := by
  rw [enterFault, refuseAll_eq]
  rfl

/-- Beyond the duty controller's own, entry to FAULT changes the line and the records alone. -/
theorem faulted_shape (s : State) :
    ∃ line records, s.faulted =
      { s with
          duty := { s.duty with state := .fault, origin := none, overload := 0, burnSilence := 0 }
          reservations := []
          line := line
          records := records } := by
  obtain ⟨line, records, h⟩ := refusing_all_shape reasonFault
    { s with duty := { s.duty with state := .fault, origin := none, overload := 0, burnSilence := 0 } }
  refine ⟨(postStatus _).line, records, (congrArg postStatus h).trans rfl⟩

/-- A trip is both pulses and the entry to FAULT. -/
theorem tripped_eq (s : State) :
    s.tripped = State.faulted
      { s with
          pulses := { engine := some .runOff, breaker := some .brkOpen }
          duty := { s.duty with
            runOn := false, brkClosed := false, disagree := if s.duty.brkClosed then 0 else s.duty.disagree } } := rfl

theorem tripped_duty (s : State) :
    s.tripped.duty = { s.duty with
      state := .fault, origin := none, overload := 0, burnSilence := 0, runOn := false, brkClosed := false
      disagree := if s.duty.brkClosed then 0 else s.duty.disagree } := by
  obtain ⟨line, records, h⟩ := faulted_shape
    { s with
        pulses := { engine := some .runOff, breaker := some .brkOpen }
        duty := { s.duty with
          runOn := false, brkClosed := false, disagree := if s.duty.brkClosed then 0 else s.duty.disagree } }
  rw [tripped_eq, h]

theorem tripped_inputs (s : State) : s.tripped.inputs = s.inputs := by
  obtain ⟨line, records, h⟩ := faulted_shape
    { s with
        pulses := { engine := some .runOff, breaker := some .brkOpen }
        duty := { s.duty with
          runOn := false, brkClosed := false, disagree := if s.duty.brkClosed then 0 else s.duty.disagree } }
  rw [tripped_eq, h]

theorem tripped_image (s : State) : s.tripped.image = s.image := by
  obtain ⟨line, records, h⟩ := faulted_shape
    { s with
        pulses := { engine := some .runOff, breaker := some .brkOpen }
        duty := { s.duty with
          runOn := false, brkClosed := false, disagree := if s.duty.brkClosed then 0 else s.duty.disagree } }
  rw [tripped_eq, h]

/-- Without a reservation a trip refuses nobody. -/
theorem tripped_of_none {s : State} (h : s.reservations = []) :
    s.tripped = postStatus
      { s with
          pulses := { engine := some .runOff, breaker := some .brkOpen }
          duty := { s.duty with
            state := .fault, origin := none, overload := 0, burnSilence := 0, runOn := false, brkClosed := false
            disagree := if s.duty.brkClosed then 0 else s.duty.disagree } } := by
  rw [State.tripped, h]
  rfl

theorem faulted_of_none {s : State} (h : s.reservations = []) :
    s.faulted = postStatus
      { s with duty := { s.duty with state := .fault, origin := none, overload := 0, burnSilence := 0 } } := by
  rw [State.faulted, h]
  rfl

/-- A first condition whose reaction is TRIP, whether listed before or not, where no board is reserved. -/
theorem raiseCondition_trips_unreserved {s : State} {c : FaultClass} (hnone : s.duty.conditions = [])
    (hreserved : s.reservations = []) (hreaction : s.image.reaction c = .trip) (hstate : s.duty.state ≠ .fault) :
    ∃ line, raiseCondition s c = postStatus
      { s with
          pulses := { engine := some .runOff, breaker := some .brkOpen }
          duty := { s.duty with
            state := .fault, origin := none, overload := 0, burnSilence := 0, runOn := false, brkClosed := false
            disagree := if s.duty.brkClosed then 0 else s.duty.disagree
            conditions := [c], faults := raisedList s.duty.faults c s.stationSeconds true }
          line := line
          records := appendTo s.records s.stationSeconds s.powerUps (.event (.faultRaised c s.duty.state)) } := by
  obtain ⟨line, hraised⟩ := raiseEntry_shape { s with duty := { s.duty with conditions := [c] } } c true
    (.faultRaised c s.duty.state)
  refine ⟨line, ?_⟩
  rw [raiseCondition_of_none hnone, raiseOnly_eq hnone (by rw [hreaction]; decide), hraised]
  refine Eq.trans (actReaction_trip (c := c) ?_ ?_ ?_) (tripped_of_none ?_)
  · rfl
  · exact hreaction
  · exact hstate
  · exact hreserved

/-! ## A condition that comes and goes in one event -/

/-- The one condition present, newly listed, goes: its entry stays, GONE (R61, R64). -/
theorem clearCondition_fresh {v s : State} {c : FaultClass} {l : List FaultEntry} (hone : v.duty.conditions = [c])
    (hfaults : v.duty.faults = l ++ [s.freshFault c true]) (hother : ∀ e ∈ l, e.cls ≠ c)
    (hstays : ∀ e ∈ l, e.present = true ∨ e.acked = false) (hreaction : v.image.reaction c ≠ .ignore)
    (hstate : v.duty.state ≠ .off) :
    clearCondition v c = addEvent
      { v with duty := { v.duty with conditions := [], faults := l ++ [s.freshFault c false] } } (.faultCleared c) := by
  have hgone : (l ++ [s.freshFault c true]).map (fun e => if e.cls = c then { e with present := false } else e) =
      l ++ [s.freshFault c false] := map_gone hother s
  have hempty : [c].filter (fun d => d != c) = [] := by simp
  rw [clearCondition_of_present ((present_of_one hone c).mpr rfl) hreaction (.inl hstate), hone, hfaults, hgone, hempty]
  refine dropSettled_of_all (fun e he => stays_iff.mpr ?_)
  rcases List.mem_append.mp he with he | he
  · exact hstays e he
  · rw [List.mem_singleton.mp he]
    exact .inr rfl

theorem dropSettled_shape (s : State) :
    ∃ line, dropSettled s =
      { s with duty := { s.duty with faults := s.duty.faults.filter FaultEntry.stays }, line := line } := by
  unfold dropSettled
  split <;> exact ⟨_, rfl⟩

/-- The one condition present, newly listed, goes, and entries that were GONE and acknowledged leave with it. -/
theorem clearCondition_fresh_shape {v s : State} {c : FaultClass} {l : List FaultEntry}
    (hone : v.duty.conditions = [c]) (hfaults : v.duty.faults = l ++ [s.freshFault c true])
    (hother : ∀ e ∈ l, e.cls ≠ c) (hreaction : v.image.reaction c ≠ .ignore) (hstate : v.duty.state ≠ .off) :
    ∃ line, clearCondition v c =
      { v with
          duty := { v.duty with
            conditions := [], faults := (l ++ [s.freshFault c false]).filter (fun e => e.present || !e.acked) }
          line := line
          records := appendTo v.records v.stationSeconds v.powerUps (.event (.faultCleared c)) } := by
  have hgone : (l ++ [s.freshFault c true]).map (fun e => if e.cls = c then { e with present := false } else e) =
      l ++ [s.freshFault c false] := map_gone hother s
  have hempty : [c].filter (fun d => d != c) = [] := by simp
  rw [clearCondition_of_present ((present_of_one hone c).mpr rfl) hreaction (.inl hstate), hone, hfaults, hgone, hempty]
  exact dropSettled_shape _

/-! ## The expiries that trip -/

section expiries
variable {s : State} (hawake : s.awake = true) (hruns : s.runs .set = true) (hnone : s.duty.conditions = [])
include hawake hruns hnone

/-- An expiry of the duty controller whose test does not pass changes nothing where no condition is present. -/
theorem dutyStep_early (due : State → Bool) (f : State → State) (h : due s = false) :
    dutyEvent s (fun t => if due t = true then f t else t) = s := by
  rw [dutyEvent_of_runs hawake hruns, if_neg (by rw [h]; decide), settle_of_none hnone]

omit hnone in
theorem dutyStep_due (due : State → Bool) (f : State → State) (h : due s = true) :
    dutyEvent s (fun t => if due t = true then f t else t) = settle (f s) := by
  rw [dutyEvent_of_runs hawake hruns, if_pos h]

omit hnone in
theorem exec_startTimeout_due (hstate : s.duty.state = .starting) (htimer : s.image.startLimit ≤ s.duty.timer) :
    exec .startTimeoutExpiry s = .next (settle (startFailed s)) :=
  congrArg Host.Outcome.next (dutyStep_due hawake hruns State.startTimeoutDue startFailed
    (by simp [State.startTimeoutDue, hstate, htimer]))

theorem exec_startTimeout_early (h : s.duty.state ≠ .starting ∨ s.duty.timer < s.image.startLimit) :
    exec .startTimeoutExpiry s = .next s :=
  congrArg Host.Outcome.next (dutyStep_early hawake hruns hnone State.startTimeoutDue startFailed
    (by rcases h with h | h <;> simp [State.startTimeoutDue, h]))

theorem exec_disagreement_due (hcount : 2 ≤ s.duty.disagree) (hdiffer : s.input 2 ≠ s.duty.brkClosed) :
    exec .disagreementCountExpiry s = .next (settle (raiseCondition s .breaker)) :=
  congrArg Host.Outcome.next (dutyStep_due hawake hruns State.disagreementDue (fun t => raiseCondition t .breaker)
    (by simp [State.disagreementDue, hcount, hdiffer, present_of_none hnone]))

theorem exec_disagreement_early (h : s.duty.disagree < 2) : exec .disagreementCountExpiry s = .next s :=
  congrArg Host.Outcome.next (dutyStep_early hawake hruns hnone State.disagreementDue
    (fun t => raiseCondition t .breaker) (by simp [State.disagreementDue, Nat.not_le.mpr h]))

end expiries

/-- The start that fails is a raising and the entry to FAULT. -/
theorem startFailed_eq (s : State) :
    startFailed s = (raiseEntry (pulse s .runOff) .startFail false .startFail).faulted := enterFault_eq _

theorem faulted_conditions (s : State) : s.faulted.duty.conditions = s.duty.conditions := by
  obtain ⟨line, records, h⟩ := faulted_shape s
  rw [h]

/-- An engine input that trips: ENGINE_READY lost where the engine should run (R52, R53). -/
theorem engineReady_lost {s : State}
    (h : s.duty.state = .warming ∨ s.duty.state = .ready ∨ s.duty.state = .unloading) :
    engineReady s false = raiseCondition s .engineFault := by
  rcases h with h | h | h <;> simp only [engineReady, h, Bool.false_eq_true, if_false]

/-- Settles O39: each cause raises a first condition, whose trip is followed by what the commands of the trip settle. -/
theorem faultsTripTheSet : Obligations.FaultsTripTheSet := by
  unfold Obligations.FaultsTripTheSet
  constructor
  · intro s hawake hruns hlength hnone fault faulty
    refine ⟨fun hinput hstate hlisted => ?_, fun hready hinput hstate hlisted hstays => ?_,
      fun hstate htimer hlisted => ?_, fun hcount hstate hlisted => ?_⟩
    · intro raised
      have h3 : (setInput s 3 true).input 3 = true := by rw [input_setInput hlength (by decide) (by decide), if_pos rfl]
      have hacts : dutyInput (setInput s 3 true) 3 true = ((setInput s 3 true).alarmed .engineFault).tripped :=
        raiseCondition_trips (s := setInput s 3 true) hnone rfl hlisted hstate
      rw [exec_engineFaultInput hawake, pinChange_of_set hawake hruns (by decide) (by rw [hinput]; decide), hacts,
        settle_of_one (c := .engineFault) (by rw [tripped_duty]; rfl)
          (fun _ => .inl (by rw [State.input, tripped_inputs]; exact h3)) (fun h => by cases h) (fun h => by cases h)]
      rfl
    · intro raised w
      have h3 : (setInput s 1 false).input 3 = false := by
        rw [input_setInput hlength (by decide) (by decide), if_neg (by decide)]; exact hinput
      have hfault : (setInput s 1 false).duty.state ≠ .fault := fun h => by
        rcases hstate with hs | hs | hs <;> rw [show s.duty.state = .fault from h] at hs <;> cases hs
      have hacts : dutyInput (setInput s 1 false) 1 false = ((setInput s 1 false).alarmed .engineFault).tripped :=
        (engineReady_lost (s := setInput s 1 false) hstate).trans
          (raiseCondition_trips (s := setInput s 1 false) hnone rfl hlisted hfault)
      have hclear := clearCondition_fresh (v := ((setInput s 1 false).alarmed .engineFault).tripped) (s := s)
        (c := .engineFault) (l := s.duty.faults) (by rw [tripped_duty]; rfl) (by rw [tripped_duty]; rfl)
        (unlisted_iff.mp hlisted) hstays (show Reaction.trip ≠ .ignore by decide)
        (by rw [tripped_duty]; exact fun h => by cases h)
      rw [exec_engineReady hawake, pinChange_of_set hawake hruns (by decide) (by rw [hready]; decide), hacts,
        settle_clears_engineFault (by rw [State.input, tripped_inputs]; exact h3) (by rw [tripped_duty]) hclear
          (settled_of_none rfl)]
      rfl
    · have hentry := raiseEntry_of_unlisted (s := pulse s .runOff) hlisted false .startFail
      rw [exec_startTimeout_due hawake hruns hstate htimer, startFailed_eq, hentry,
        settle_of_none (by rw [faulted_conditions]; exact hnone)]
      rfl
    · intro raised w
      have hacts : raiseCondition s .breaker = (s.alarmed .breaker).tripped :=
        raiseCondition_trips hnone rfl hlisted hstate
      refine ⟨fun hclosed hcommand => ?_, fun hopen hcommand hstays => ?_⟩
      · rw [exec_disagreement_due hawake hruns hnone hcount (by rw [hclosed, hcommand]; decide), hacts,
          settle_of_one (c := .breaker) (by rw [tripped_duty]; rfl) (fun h => by cases h)
            (fun _ => by rw [tripped_duty, State.input, tripped_inputs]; exact fun h => Bool.noConfusion (hclosed.symm.trans h))
            (fun h => by cases h)]
        rfl
      · have hclear := clearCondition_fresh (v := (s.alarmed .breaker).tripped) (s := s)
          (c := .breaker) (l := s.duty.faults) (by rw [tripped_duty]; rfl) (by rw [tripped_duty]; rfl)
          (unlisted_iff.mp hlisted) hstays (show Reaction.trip ≠ .ignore by decide)
          (by rw [tripped_duty]; exact fun h => by cases h)
        have hengine : (s.alarmed .breaker).tripped.present .engineFault = false :=
          Bool.eq_false_iff.mpr (fun h => by
            have hone : (s.alarmed .breaker).tripped.duty.conditions = [.breaker] := by rw [tripped_duty]; rfl
            cases (present_of_one hone _).mp h)
        rw [exec_disagreement_due hawake hruns hnone hcount (by rw [hopen, hcommand]; decide), hacts,
          settle_clears_breaker hengine
            (by rw [tripped_duty, State.input, tripped_inputs]; exact hopen) hclear (settled_of_none rfl)]
        rfl
  · intro s hawake hruns hlength hnone hreserved tripped
    refine ⟨fun hinput hstate => ?_, fun hstate htimer => ?_, exec_startTimeout_early hawake hruns hnone,
      fun hcount hclosed hcommand hstate => ?_, fun hcount hopen hcommand hstate hlisted => ?_,
      exec_disagreement_early hawake hruns hnone⟩
    · have h3 : (setInput s 3 true).input 3 = true := by rw [input_setInput hlength (by decide) (by decide), if_pos rfl]
      obtain ⟨line, hraised⟩ := raiseCondition_trips_unreserved (s := setInput s 3 true) (c := .engineFault) hnone
        hreserved rfl hstate
      have hacts : dutyInput (setInput s 3 true) 3 true = _ := hraised
      rw [exec_engineFaultInput hawake, pinChange_of_set hawake hruns (by decide) (by rw [hinput]; decide), hacts,
        settle_of_one (c := .engineFault) rfl (fun _ => .inl (by exact h3)) (fun h => by cases h) (fun h => by cases h)]
      exact ⟨_, rfl, ⟨rfl, rfl⟩, rfl⟩
    · obtain ⟨line, hraised⟩ := raiseEntry_shape (pulse s .runOff) .startFail false .startFail
      rw [exec_startTimeout_due hawake hruns hstate htimer, startFailed_eq, hraised,
        faulted_of_none (by exact hreserved), settle_of_none (by exact hnone)]
      exact ⟨_, rfl, rfl, rfl⟩
    · obtain ⟨line, hraised⟩ := raiseCondition_trips_unreserved (s := s) (c := .breaker) hnone hreserved rfl hstate
      rw [exec_disagreement_due hawake hruns hnone hcount (by rw [hclosed, hcommand]; decide), hraised,
        settle_of_one (c := .breaker) rfl (fun h => by cases h)
          (fun _ => by exact fun h => Bool.noConfusion (hclosed.symm.trans h)) (fun h => by cases h)]
      exact ⟨_, rfl, ⟨rfl, rfl⟩, rfl⟩
    · obtain ⟨line, hraised⟩ := raiseCondition_trips_unreserved (s := s) (c := .breaker) hnone hreserved rfl hstate
      rw [raisedList_of_unlisted hlisted] at hraised
      obtain ⟨line', hclear⟩ := clearCondition_fresh_shape (v := raiseCondition s .breaker) (s := s) (c := .breaker)
        (l := s.duty.faults) (by rw [hraised]; rfl) (by rw [hraised]; rfl) (unlisted_iff.mp hlisted)
        (show Reaction.trip ≠ .ignore by decide) (by rw [hraised]; exact fun h => by cases h)
      have hengine : (raiseCondition s .breaker).present .engineFault = false :=
        Bool.eq_false_iff.mpr (fun h => by
          have hone : (raiseCondition s .breaker).duty.conditions = [.breaker] := by rw [hraised]; rfl
          cases (present_of_one hone _).mp h)
      rw [exec_disagreement_due hawake hruns hnone hcount (by rw [hopen, hcommand]; decide),
        settle_clears_breaker hengine (by rw [hraised]; exact hopen) hclear (settled_of_none rfl), hraised]
      exact ⟨_, rfl, ⟨rfl, rfl⟩, rfl⟩

end Sys2Proof.Machine
end

section
/-! PROOFS. The timers of a SET (O40), and its run mode (O56). -/
set_option Elab.async false

namespace Sys2Proof.Machine

/-! ## Entry to READY from WARMING (R53, R84) -/

/-- The breaker closed, as on every entry to READY. -/
def State.closedIn (s : State) : State :=
  { s with
      pulses := { s.pulses with breaker := some .brkClose }
      duty := { s.duty with
        state := .ready, origin := none, idle := 0, brkClosed := true
        disagree := if s.duty.brkClosed then s.duty.disagree else 0 } }

theorem enterReady_from_warming (s : State) : enterReady s true = postStatus (recheckAll s.closedIn) := rfl

theorem recheckAll_of_none {s : State} (h : s.reservations = []) : recheckAll s = s := by
  rw [recheckAll, h]
  rfl

/-- The one board that waits is granted where its load still fits (R84). -/
theorem recheckAll_of_one {s : State} {r : Reservation} (hlist : s.reservations = [r]) (hwaits : r.hold = none)
    (hfits : (r.load : Int) ≤ (s.image.usable : Int) - s.basis) :
    recheckAll s = replyTo { s with reservations := [{ r with hold := some s.image.holdTime }] } r.board r.ticket
      verdictGrant reasonNone s.image.holdTime := by
  have hheadroom : recheckHeadroom s = (s.image.usable : Int) - s.basis := by
    simp [recheckHeadroom, hlist, hwaits]
  have hfolded : recheckAll s = recheckEntry s r := by
    rw [recheckAll, hlist]
    simp [hwaits]
  rw [hfolded, recheckEntry, hheadroom, if_pos hfits, hlist]
  simp only [List.map_cons, List.map_nil, if_true]

/-! ## Entry to OFF -/

theorem enterOff_stays {s : State} (h : s.duty.mode ≠ .prime) : enterOff s = postStatus (setDuty s .off none) := by
  rw [enterOff, primeStart, if_neg (by exact fun hstart => h hstart.2.1)]

/-- Settles O40: each expiry is an entry to the next duty state, or nothing before its time. -/
theorem timersMoveTheSet : Obligations.TimersMoveTheSet := by
  unfold Obligations.TimersMoveTheSet
  intro s hawake hruns hnone closed
  have hdue : ∀ (due : State → Bool) (f : State → State), due s = true → dutyEvent s (fun t => if due t = true then f t else t) = settle (f s) :=
    dutyStep_due hawake hruns
  have hearly : ∀ (due : State → Bool) (f : State → State), due s = false → dutyEvent s (fun t => if due t = true then f t else t) = s :=
    dutyStep_early hawake hruns hnone
  refine ⟨fun hstate htimer => ?_, fun h => ?_, fun hstate hmode hidle hfeed hlist hcool => ?_, fun h => ?_,
    fun hstate htimer hmode => ?_, fun h => ?_⟩
  · have hexec : exec .warmupExpiry s = .next (settle (postStatus (recheckAll s.closedIn))) :=
      congrArg Host.Outcome.next (hdue State.warmupDue (fun t => enterReady t true)
        (by simp [State.warmupDue, hstate, htimer]))
    refine ⟨fun hlist => ?_, fun r hlist hwaits hfits => ?_⟩
    · rw [hexec, recheckAll_of_none (by exact hlist), settle_of_none (by exact hnone)]
      rfl
    · have hbasis : s.closedIn.basis = max s.output s.feedSum := rfl
      rw [hexec, recheckAll_of_one (s := s.closedIn) hlist hwaits (by
        rw [hbasis, show s.closedIn.image = s.image from rfl]; omega), settle_of_none (by exact hnone)]
      rfl
  · exact congrArg Host.Outcome.next (hearly State.warmupDue (fun t => enterReady t true)
      (by rcases h with h | h <;> simp [State.warmupDue, h]))
  · refine congrArg Host.Outcome.next ((hdue State.idleStopDue (fun t => enterCooling t .idle)
      (by simp [State.idleStopDue, hstate, hmode, hidle, hfeed, hlist])).trans ?_)
    rw [enterCooling_timed hcool, settle_of_none (by exact hnone)]
  · exact congrArg Host.Outcome.next (hearly State.idleStopDue (fun t => enterCooling t .idle)
      (by
        rw [← Nat.not_le] at h
        rcases h with h | h | h | h | h <;> simp [State.idleStopDue, h]))
  · refine congrArg Host.Outcome.next ((hdue State.cooldownDue (fun t => enterOff (pulse t .runOff))
      (by simp [State.cooldownDue, hstate, htimer])).trans ?_)
    rw [enterOff_stays (by exact hmode), settle_of_none (by exact hnone)]
    rfl
  · exact congrArg Host.Outcome.next (hearly State.cooldownDue (fun t => enterOff (pulse t .runOff))
      (by rcases h with h | h <;> simp [State.cooldownDue, h]))

/-! ## MODE and STOP_FORCE (R57, R58) -/

theorem refusing_duty (reason : Nat) (l : List Reservation) (w : State) :
    (State.refusing reason l w).duty = w.duty := by
  obtain ⟨line, records, h⟩ := refusing_shape reason l w
  rw [h]

theorem refusing_conditions (reason : Nat) (l : List Reservation) (w : State) :
    (State.refusing reason l w).duty.conditions = w.duty.conditions := by
  rw [refusing_duty]

theorem refusing_image (reason : Nat) (l : List Reservation) (w : State) :
    (State.refusing reason l w).image = w.image := by
  obtain ⟨line, records, h⟩ := refusing_shape reason l w
  rw [h]

theorem refusing_port (reason : Nat) (l : List Reservation) (w : State) :
    (State.refusing reason l w).port = w.port := by
  obtain ⟨line, records, h⟩ := refusing_shape reason l w
  rw [h]

theorem refusing_reservations (reason : Nat) (w : State) : (State.refusing reason w.reservations w).reservations = [] := by
  obtain ⟨line, records, h⟩ := refusing_all_shape reason w
  rw [h]

theorem refusing_pulses (reason : Nat) (l : List Reservation) (w : State) :
    (State.refusing reason l w).pulses = w.pulses := by
  obtain ⟨line, records, h⟩ := refusing_shape reason l w
  rw [h]

/-- A duty state already entered is not entered again by the refusals. -/
theorem setDuty_refusing {w : State} {d : DutyState} {o : Option Origin} (h : setDuty w d o = w) (reason : Nat)
    (l : List Reservation) : setDuty (State.refusing reason l w) d o = State.refusing reason l w := by
  obtain ⟨line, records, hshape⟩ := refusing_shape reason l w
  rw [hshape]
  exact congrArg (fun v : State => { v with
    reservations := w.reservations.filter (fun q => l.all (fun r => q.board != r.board)), line := line,
    records := records }) h

/-- The set cooling down, its breaker opened (R55). -/
def State.cooledDown (u : State) : State :=
  postStatus
    { u with
        pulses := { u.pulses with breaker := some .brkOpen }
        duty := { u.duty with
          state := .cooling, origin := some .stopping, timer := 0, overload := 0, burnSilence := 0, brkClosed := false
          disagree := if u.duty.brkClosed then 0 else u.duty.disagree } }

/-- With COOLDOWN 0 the engine stops in the same event (R55). -/
def State.cooledOff (u : State) : State :=
  postStatus
    { u.cooledDown with
        pulses := { engine := some .runOff, breaker := some .brkOpen }
        duty := { u.cooledDown.duty with state := .off, origin := none, runOn := false } }

theorem enterCooling_stopping {u : State} (h : u.image.cooldownTime ≠ 0 ∨ u.duty.mode ≠ .prime) :
    enterCooling u .stopping = if u.image.cooldownTime ≠ 0 then u.cooledDown else u.cooledOff := by
  by_cases hcool : u.image.cooldownTime = 0
  · rw [if_neg (not_not_intro hcool), enterCooling, if_pos hcool,
      enterOff_stays (by exact h.resolve_left (not_not_intro hcool))]
    rfl
  · rw [if_pos hcool, enterCooling_timed hcool]
    rfl

theorem settle_of_absent {s t : State} (hengine : s.present .engineFault = false) (hbreaker : s.present .breaker = false)
    (hburn : s.present .burnSilent = false) (hc : t.duty.conditions = s.duty.conditions) : settle t = t := by
  have hp : ∀ c, t.present c = s.present c := fun c => by rw [State.present, State.present, hc]
  refine State.Settled.settle ⟨fun h => ?_, fun h => ?_, fun h => ?_⟩
  · rw [hp, hengine] at h; cases h
  · rw [hp, hbreaker] at h; cases h
  · rw [hp, hburn] at h; cases h

/-- The state in which the run mode acts. -/
def State.inMode (s : State) (m : RunMode) : State := { s with duty := { s.duty with mode := m, idle := 0 } }

theorem exec_mode {s : State} {m : Byte} (h : s.listens) :
    exec (.mode [0#8, 0#8, 0#8, m]) s = .next (let w := request .set [0#8, 0#8, 0#8, m] modeAct s
      w.state.replied 8 w.code w.payload) :=
  congrArg Host.Outcome.next (takeCommand_of_listens h 8 _)

theorem exec_stopForce {s : State} {m : Byte} (h : s.listens) :
    exec (.stopForce [0#8, 0#8, 0#8, m]) s = .next (let w := request .set [0#8, 0#8, 0#8, m] (fun _ => stopForceAct) s
      w.state.replied 8 w.code w.payload) :=
  congrArg Host.Outcome.next (takeCommand_of_listens h 8 _)

/-- A mode that is one of the three acts in a SET in RUN. -/
theorem exec_mode_acts {s : State} {m : Byte} (h : s.listens) (hruns : s.runs .set = true) {mode : RunMode}
    (hm : runModeOf m.toNat = some mode) :
    exec (.mode [0#8, 0#8, 0#8, m]) s = .next ((settle (actMode (s.inMode mode))).replied 8 .ok []) := by
  rw [exec_mode h, request_of_runs hruns, rd4_low, modeAct, hm]
  dsimp only
  rw [dutyEvent_of_runs h.1 hruns]
  rfl

theorem exec_stopForce_acts {s : State} {m : Byte} (h : s.listens) (hruns : s.runs .set = true)
    (hstate : s.duty.state = .unloading) :
    exec (.stopForce [0#8, 0#8, 0#8, m]) s = .next ((settle (enterCooling s .stopping)).replied 8 .ok []) := by
  rw [exec_stopForce h, request_of_runs hruns, stopForceAct, if_pos hstate, dutyEvent_of_runs h.1 hruns]
  rfl

/-! ### What the mode does in each duty state (R57) -/

theorem primeStart_stays {s : State} (h : s.duty.mode ≠ .prime ∨ s.inhibit = true) : primeStart s = s := by
  rw [primeStart, if_neg]
  rintro ⟨-, hmode, hinhibit⟩
  rcases h with h | h
  · exact h hmode
  · rw [hinhibit] at h; cases h

theorem actMode_auto (s : State) : actMode (s.inMode .auto) = s.inMode .auto := by
  unfold actMode
  split
  · exact primeStart_stays (.inl (show RunMode.auto ≠ .prime by decide))
  · exact if_neg (show ¬ RunMode.auto = .stop by decide)
  · exact if_neg (show ¬ RunMode.auto = .stop by decide)
  · exact if_neg (show ¬ RunMode.auto = .stop by decide)
  · rfl
  · rfl
  · rfl

theorem actMode_prime_stays {s : State} (hoff : s.duty.state = .off → s.inhibit = true)
    (hcooling : s.duty.state = .cooling → s.duty.origin ≠ some .idle) :
    actMode (s.inMode .prime) = s.inMode .prime := by
  unfold actMode
  split
  · exact primeStart_stays (.inr (hoff (by assumption)))
  · exact if_neg (show ¬ RunMode.prime = .stop by decide)
  · exact if_neg (show ¬ RunMode.prime = .stop by decide)
  · exact if_neg (show ¬ RunMode.prime = .stop by decide)
  · rfl
  · exact if_neg (hcooling (by assumption))
  · rfl

theorem actMode_stop_stays {s : State}
    (h : s.duty.state = .off ∨ s.duty.state = .unloading ∨ s.duty.state = .fault) :
    actMode (s.inMode .stop) = s.inMode .stop := by
  unfold actMode
  rcases h with h | h | h
  · rw [show (s.inMode .stop).duty.state = .off from h]
    exact primeStart_stays (.inl (show RunMode.stop ≠ .prime by decide))
  · rw [show (s.inMode .stop).duty.state = .unloading from h]
  · rw [show (s.inMode .stop).duty.state = .fault from h]

theorem actMode_stop_cooling {s : State} (h : s.duty.state = .cooling) :
    actMode (s.inMode .stop) = setDuty (s.inMode .stop) .cooling (some .stopping) := by
  unfold actMode
  rw [show (s.inMode .stop).duty.state = .cooling from h]
  rfl

theorem actMode_stop_starting {s : State} (h : s.duty.state = .starting) :
    actMode (s.inMode .stop) = abandonStart (s.inMode .stop) := by
  unfold actMode
  rw [show (s.inMode .stop).duty.state = .starting from h]
  exact if_pos rfl

theorem actMode_stop_warming {s : State} (h : s.duty.state = .warming) :
    actMode (s.inMode .stop) = abandonWarming (s.inMode .stop) := by
  unfold actMode
  rw [show (s.inMode .stop).duty.state = .warming from h]
  exact if_pos rfl

theorem actMode_stop_ready {s : State} (h : s.duty.state = .ready) :
    actMode (s.inMode .stop) = enterUnloading (s.inMode .stop) := by
  unfold actMode
  rw [show (s.inMode .stop).duty.state = .ready from h]
  exact if_pos rfl

theorem actMode_prime_off {s : State} (h : s.duty.state = .off) (hinhibit : s.inhibit = false) :
    actMode (s.inMode .prime) = startEngine (s.inMode .prime) := by
  unfold actMode
  rw [show (s.inMode .prime).duty.state = .off from h]
  exact if_pos ⟨h, rfl, hinhibit⟩

theorem actMode_prime_cooling {s : State} (h : s.duty.state = .cooling) (horigin : s.duty.origin = some .idle) :
    actMode (s.inMode .prime) = enterReady (s.inMode .prime) false := by
  unfold actMode
  rw [show (s.inMode .prime).duty.state = .cooling from h]
  exact if_pos horigin

/-! ### What a refusal of every board leaves of a start, a warming and a set in READY -/

/-- STARTING given up: RUN_OFF, every board refused STOPPING, OFF (R51, R67). -/
theorem abandonStart_stays {s : State} (h : s.duty.mode ≠ .prime) :
    abandonStart s = postStatus (State.refusing reasonStopping s.reservations (pulse (setDuty s .off none) .runOff)) := by
  rw [abandonStart, refuseAll_eq, enterOff_stays (by rw [refusing_duty]; exact h), setDuty_refusing (by rfl)]
  rfl

theorem abandonWarming_eq (s : State) :
    abandonWarming s = enterCooling (State.refusing reasonStopping s.reservations
      (setDuty s .cooling (some .stopping))) .stopping := by
  rw [abandonWarming, refuseAll_eq]
  rfl

/-- The set as it enters UNLOADING, before the test for its end (R56). -/
def State.unloading (s : State) : State :=
  postStatus (State.refusing reasonStopping s.reservations
    { s with
        duty := { s.duty with
          state := .unloading, origin := none, timer := 0, burnSilence := 0, stallNoted := false } })

theorem enterUnloading_eq (s : State) : enterUnloading s = unloadTest s.unloading := by
  rw [enterUnloading, refuseAll_eq]
  rfl

theorem unloading_duty (s : State) :
    s.unloading.duty = { s.duty with
      state := .unloading, origin := none, timer := 0, burnSilence := 0, stallNoted := false } :=
  refusing_duty ..

theorem unloading_image (s : State) : s.unloading.image = s.image := refusing_image ..

theorem unloading_reservations (s : State) : s.unloading.reservations = [] :=
  refusing_reservations reasonStopping
    { s with
        duty := { s.duty with
          state := .unloading, origin := none, timer := 0, burnSilence := 0, stallNoted := false } }

/-- A set in READY with a board to feed goes on unloading, and one without cools down at once (R56). -/
theorem enterUnloading_cases (s : State) :
    enterUnloading s = if s.duty.feed = [] then enterCooling s.unloading .stopping else s.unloading := by
  rw [enterUnloading_eq, unloadTest, unloading_duty, unloading_reservations]
  dsimp only
  by_cases h : s.duty.feed = []
  · rw [if_pos ⟨rfl, h, rfl⟩, if_pos h]
  · rw [if_neg (fun hall => h hall.2.1), if_neg h]

/-- A start that finds ENGINE_READY goes on to WARMING (R51, R52). -/
theorem startEngine_warms {s : State} (hinput : s.input 1 = true) (hwarm : s.image.warmupTime ≠ 0)
    (hstarts : s.duty.starts + 1 < two32) :
    startEngine s = postStatus (zeroTimer (setDuty (postStatus
      { s with
          pulses := { s.pulses with engine := some .runOn }
          duty := { s.duty with
            state := .starting, origin := none, timer := 0, overload := 0, burnSilence := 0, runOn := true
            starts := s.duty.starts + 1 } }) .warming none)) := by
  have hcount : countOn s.free s.duty.starts 1 = s.duty.starts + 1 := if_pos hstarts
  have hfree : freeAfter two32 s.free s.duty.starts 1 = s.free := if_pos hstarts
  simp only [startEngine, hcount, hfree, hinput, if_true, enterWarming]
  exact if_neg hwarm

/-- Settles O56: the refusals of the request, then the table of R57 by mode and duty state. -/
theorem runModeActsOnTheDutyState : Obligations.RunModeActsOnTheDutyState := by
  unfold Obligations.RunModeActsOnTheDutyState
  intro s m hl mode force replied duty
  have hmode : exec mode s = _ := exec_mode hl
  have hforce : exec force s = _ := exec_stopForce hl
  refine ⟨fun hstation => ⟨?_, ?_⟩, fun hrun hrole => ⟨?_, ?_⟩, fun hruns hsettled => ?_,
    fun hruns hengine hbreaker hburn => ?_⟩
  · rw [hforce, request_of_unconfigured hstation]; rfl
  · rw [hmode, request_of_unconfigured hstation]; rfl
  · rw [hforce, request_of_other_role hrun hrole]; rfl
  · rw [hmode, request_of_other_role hrun hrole]; rfl
  · have hacts : ∀ {r : RunMode} {t : State}, runModeOf m.toNat = some r → settle (actMode (s.inMode r)) = t →
        t.port = s.port → exec mode s = replied t := fun hm ht hport => by
      rw [show exec mode s = _ from exec_mode_acts hl hruns hm, ht, replied_of_port hport]
    refine ⟨fun hstate => ?_, fun hm => ?_, fun hm => hacts (r := .auto) (by rw [hm]; rfl) ?_ rfl,
      fun hm hoff hcooling => hacts (r := .prime) (by rw [hm]; rfl) ?_ rfl,
      fun hm hstate => hacts (r := .stop) (by rw [hm]; rfl) ?_ rfl,
      fun hm hstate => hacts (r := .stop) (by rw [hm]; rfl) ?_ rfl⟩
    · rw [hforce, request_of_runs hruns, stopForceAct, if_neg hstate]; rfl
    · have hrange : runModeOf m.toNat = none := by
        unfold runModeOf
        split
        all_goals first | rfl | omega
      rw [hmode, request_of_runs hruns, rd4_low, modeAct, hrange]; rfl
    · rw [actMode_auto]
      exact settle_kept hsettled rfl rfl rfl rfl rfl
    · rw [actMode_prime_stays hoff hcooling]
      exact settle_kept hsettled rfl rfl rfl rfl rfl
    · rw [actMode_stop_stays hstate]
      exact settle_kept hsettled rfl rfl rfl rfl rfl
    · rw [actMode_stop_cooling hstate]
      refine (settle_kept (t := setDuty (s.inMode .stop) .cooling (some .stopping)) hsettled rfl rfl rfl rfl
        hstate.symm).trans ?_
      simp only [setDuty, State.inMode, duty, hstate]
      rfl
  · intro stop cooled ended
    have hacts : ∀ {r : RunMode} {t : State}, runModeOf m.toNat = some r → actMode (s.inMode r) = t →
        t.port = s.port → t.duty.conditions = s.duty.conditions → exec mode s = replied t :=
      fun hm ht hport hc => by
        rw [show exec mode s = _ from exec_mode_acts hl hruns hm, ht, settle_of_absent hengine hbreaker hburn hc,
          replied_of_port hport]
    have hended : ∀ u : State, u.image = s.image → (s.image.cooldownTime ≠ 0 ∨ u.duty.mode ≠ .prime) →
        enterCooling u .stopping = ended u := fun u himage hmodes => by
      rw [enterCooling_stopping (by rw [himage]; exact hmodes), himage]
      rfl
    have hendedPort : ∀ u : State, (ended u).port = u.port := fun u => by
      simp only [ended]; split <;> rfl
    have hendedConditions : ∀ u : State, (ended u).duty.conditions = u.duty.conditions := fun u => by
      simp only [ended]; split <;> rfl
    refine ⟨fun hm => ⟨fun hstate => ?_, fun hstate => ?_, fun hstate => ?_⟩, fun hm hstate hinhibit hstarts => ?_,
      fun hm hstate horigin => ?_, fun hstate hmodes => ?_⟩
    · refine hacts (r := .stop) (by rw [hm]; rfl) ?_ (refusing_port ..) (refusing_conditions ..)
      rw [actMode_stop_starting hstate, abandonStart_stays (show RunMode.stop ≠ .prime by decide)]
      rfl
    · refine hacts (r := .stop) (by rw [hm]; rfl) ?_ ((hendedPort _).trans (refusing_port ..))
        ((hendedConditions _).trans (refusing_conditions ..))
      rw [actMode_stop_warming hstate, abandonWarming_eq]
      refine hended (State.refusing reasonStopping s.reservations
        (setDuty (s.inMode .stop) .cooling (some .stopping))) (refusing_image ..) (.inr ?_)
      rw [refusing_duty]
      exact (show RunMode.stop ≠ .prime by decide)
    · intro unloading
      have hduty : (s.inMode .stop).unloading = unloading := rfl
      have hfeed : (s.inMode .stop).duty.feed = s.duty.feed := rfl
      have hcooled : enterCooling unloading .stopping = ended unloading :=
        hended _ (by rw [← hduty, unloading_image]; rfl)
          (.inr (by rw [← hduty, unloading_duty]; exact (show RunMode.stop ≠ .prime by decide)))
      have hport : unloading.port = s.port := refusing_port ..
      have hconditions : unloading.duty.conditions = s.duty.conditions := refusing_conditions ..
      refine hacts (r := .stop) (by rw [hm]; rfl) ?_ ?_ ?_
      · rw [actMode_stop_ready hstate, enterUnloading_cases, hduty, hfeed, hcooled]
      · split
        · exact (hendedPort _).trans hport
        · exact hport
      · split
        · exact (hendedConditions _).trans hconditions
        · exact hconditions
    · intro starting
      refine ⟨fun hinput => hacts (r := .prime) (by rw [hm]; rfl) ?_ rfl rfl,
        fun hinput hwarm => hacts (r := .prime) (by rw [hm]; rfl) ?_ rfl rfl⟩
      · rw [actMode_prime_off hstate hinhibit, startEngine_idle (by exact hinput) (by exact hstarts)]
        rfl
      · rw [actMode_prime_off hstate hinhibit, startEngine_warms (by exact hinput) (by exact hwarm) (by exact hstarts)]
        rfl
    · refine hacts (r := .prime) (by rw [hm]; rfl) ?_ rfl rfl
      rw [actMode_prime_cooling hstate horigin, enterReady_from_cooling]
      rfl
    · rw [show exec force s = _ from exec_stopForce_acts hl hruns hstate, hended s rfl hmodes,
        settle_of_absent hengine hbreaker hburn (hendedConditions s), replied_of_port (hendedPort s)]

end Sys2Proof.Machine
end

section
/-! PROOFS. The counts of a SET that run out, TANK_EMPTY, and the unload limit and hold (O41). -/
set_option Elab.async false

namespace Sys2Proof.Machine

/-! ## A first condition, by its reaction (R63) -/

section raise
variable {s : State} {c : FaultClass} (hnone : s.duty.conditions = []) (hlisted : s.listed c = false)
include hnone hlisted

theorem raiseCondition_of_unlisted (hreaction : s.image.reaction c ≠ .ignore) :
    raiseCondition s c = actReaction (s.alarmed c) := by
  rw [raiseCondition_of_none hnone, raiseOnly_of_unlisted hnone hreaction hlisted]

theorem raiseCondition_alarms (hreaction : s.image.reaction c = .alarm) : raiseCondition s c = s.alarmed c := by
  rw [raiseCondition_of_unlisted hnone hlisted (by rw [hreaction]; decide)]
  exact actReaction_alarm (c := c) rfl (.inl hreaction)

theorem raiseCondition_trip_fault (hreaction : s.image.reaction c = .trip) (hstate : s.duty.state = .fault) :
    raiseCondition s c = s.alarmed c := by
  rw [raiseCondition_of_unlisted hnone hlisted (by rw [hreaction]; decide)]
  exact actReaction_trip_fault (c := c) rfl hreaction hstate

theorem raiseCondition_unloads (hreaction : s.image.reaction c = .unload) :
    raiseCondition s c =
      match s.duty.state with
      | .off => s.alarmed c
      | .starting => abandonStart (s.alarmed c)
      | .warming => abandonWarming (s.alarmed c)
      | .ready => enterUnloading (s.alarmed c)
      | .unloading => s.alarmed c
      | .cooling => setDuty (s.alarmed c) .cooling (some .stopping)
      | .fault => s.alarmed c := by
  rw [raiseCondition_of_unlisted hnone hlisted (by rw [hreaction]; decide)]
  exact actReaction_unload (c := c) rfl hreaction

end raise

/-- Under a start inhibit STARTING is given up in PRIME too (R51, R63). -/
theorem abandonStart_inhibited {s : State} (h : s.inhibit = true) :
    abandonStart s = postStatus (State.refusing reasonStopping s.reservations (pulse (setDuty s .off none) .runOff)) := by
  have hshape := refusing_shape reasonStopping s.reservations (pulse (setDuty s .off none) .runOff)
  rw [abandonStart, refuseAll_eq, enterOff, primeStart_stays (.inr ?_)]
  · rw [setDuty_refusing (by rfl)]
    rfl
  · obtain ⟨line, records, hshape⟩ := hshape
    exact (congrArg (fun v => (postStatus (setDuty v .off none)).inhibit) hshape).trans h

theorem inhibit_of_one {s : State} {c : FaultClass} (hone : s.duty.conditions = [c])
    (hreaction : s.image.reaction c = .unload) : s.inhibit = true := by
  simp [State.inhibit, State.tripPresent, State.unloadPresent, hone, hreaction]

/-- The duty controller as COOLING is entered to stop (R55). -/
def State.coolingDuty (s : State) : Duty :=
  { s.duty with state := .cooling, origin := some .stopping, overload := 0, burnSilence := 0 }

/-- WARMING given up with a COOLDOWN to run: every board refused, the breaker opened (R53, R67). -/
theorem abandonWarming_timed {s : State} (h : s.image.cooldownTime ≠ 0) :
    abandonWarming s = postStatus
      { State.refusing reasonStopping s.reservations { s with duty := s.coolingDuty } with
          pulses := { s.pulses with breaker := some .brkOpen }
          duty := { s.coolingDuty with
            timer := 0, brkClosed := false, disagree := if s.duty.brkClosed then 0 else s.duty.disagree } } := by
  rw [abandonWarming_eq, enterCooling_timed (by rw [refusing_image]; exact h), refusing_duty, refusing_pulses]
  rfl

/-! ## The second's last figures: TTE, empty state, dry flag (R127 to R129) -/

/-- The tank once TTE and empty state are formed. -/
def State.judgedTank (s : State) : Tank := { s.tank with tte := tteOf s, empty := emptyNow s }

/-- The passage into or out of the empty state, as the duty controller takes it (R128). -/
def State.passed (s : State) : State :=
  let w := { s with tank := s.judgedTank }
  settle (if emptyNow s = true then raiseCondition w .tankEmpty else clearCondition w .tankEmpty)

/-- A passage leaves the tank and the image as they are. -/
theorem passed_touches (s : State) : ({ s with tank := s.judgedTank } : State).Touches actParts s.passed :=
  have h := State.Touches.refl actParts ({ s with tank := s.judgedTank } : State)
  ((h.thenRaiseCondition .tankEmpty).ite (h.thenClearCondition .tankEmpty)).thenSettle

theorem passed_tank (s : State) : s.passed.tank = s.judgedTank := (passed_touches s).same .tank (by decide)

theorem passed_image (s : State) : s.passed.image = s.image := (passed_touches s).same .image (by decide)

theorem finishTank_of_same {s : State} (h : emptyNow s = s.tank.empty) :
    finishTank s = formDry { s with tank := s.judgedTank } :=
  congrArg formDry (if_pos h)

theorem finishTank_of_passage {s : State} (hawake : s.awake = true) (hruns : s.runs .set = true)
    (h : emptyNow s ≠ s.tank.empty) : finishTank s = formDry s.passed :=
  congrArg formDry ((if_neg h).trans (dutyEvent_of_runs (s := { s with tank := s.judgedTank }) hawake hruns _))

theorem formDry_of_dry {s : State} (hdry : s.tank.dry = true) (htte : s.tank.tte < s.image.dryMinutes + 15) :
    formDry s = s := by
  rw [formDry, if_pos hdry, if_neg (by omega)]

theorem exec_minuteEnd {s : State} (hawake : s.awake = true) (hruns : s.runs .set = true)
    (hstage : s.tank.stage = some .minute) : exec .minuteEnd s = .next (finishTank (closeMinute s)) :=
  congrArg Host.Outcome.next ((whenRuns_of_runs hawake hruns _).trans (if_pos (by simp [State.stageDue, hstage])))

/-! ## TANK_EMPTY at a minute's end (R128) -/

/-- The set with its tank, found empty at the minute's end. -/
def State.emptied (s : State) : State := { s with tank := (closeMinute s).judgedTank }

section emptied
variable {s : State} (hawake : s.awake = true) (hruns : s.runs .set = true) (hstage : s.tank.stage = some .minute)
  (hmode : s.tank.mode ≠ .unknown) (hlow : s.tank.reported ≤ s.image.reserveCl)
include hmode hlow

theorem emptied_tte : s.emptied.tank.tte = 0 := (if_neg (by exact hmode)).trans (if_pos (by exact hlow))

theorem emptied_empty : s.emptied.tank.empty = true := by
  simp [State.emptied, State.judgedTank, emptyNow, closeMinute, hmode, hlow]

include hawake hruns hstage

/-- A tank found empty while its dry flag is set: TANK_EMPTY rises, and nothing else follows the minute. -/
theorem exec_minuteEnd_emptied (hempty : s.tank.empty = false) (hdry : s.tank.dry = true) :
    exec .minuteEnd s = .next (settle (raiseCondition s.emptied .tankEmpty)) := by
  have hnow : emptyNow (closeMinute s) = true := emptied_empty hmode hlow
  have hpassed : (closeMinute s).passed = settle (raiseCondition s.emptied .tankEmpty) :=
    congrArg settle (if_pos hnow)
  have htte : (closeMinute s).passed.tank.tte = 0 := by
    rw [passed_tank]; exact emptied_tte hmode hlow
  rw [exec_minuteEnd hawake hruns hstage, finishTank_of_passage (by exact hawake) (by exact hruns)
    (by rw [hnow]; exact fun h => by rw [show s.tank.empty = true from h.symm] at hempty; cases hempty),
    formDry_of_dry (by rw [passed_tank]; exact hdry) (by rw [htte]; omega), hpassed]

variable (hnone : s.duty.conditions = []) (hlisted : s.listed .tankEmpty = false) (hempty : s.tank.empty = false)
  (hdry : s.tank.dry = true)
include hempty hdry

theorem exec_minuteEnd_settled {t : State} (hacts : raiseCondition s.emptied .tankEmpty = t)
    (hone : t.duty.conditions = [.tankEmpty]) : exec .minuteEnd s = .next t := by
  rw [exec_minuteEnd_emptied hawake hruns hstage hmode hlow hempty hdry, hacts,
    settle_of_one hone (fun h => by cases h) (fun h => by cases h) (fun h => by cases h)]

include hnone hlisted

/-- The set once TANK_EMPTY is listed, recorded and told at the minute's end. -/
def State.emptyTold (s : State) : State := s.emptied.alarmed .tankEmpty

omit hawake hruns hstage hmode hlow hnone hlisted hempty hdry in
theorem emptyTold_kept (s : State) : s.emptyTold.reservations = s.reservations ∧ s.emptyTold.pulses = s.pulses ∧
    s.emptyTold.duty.brkClosed = s.duty.brkClosed ∧ s.emptyTold.duty.disagree = s.duty.disagree := ⟨rfl, rfl, rfl, rfl⟩

theorem exec_minuteEnd_trips (hreaction : s.image.reaction .tankEmpty = .trip) (hstate : s.duty.state ≠ .fault) :
    exec .minuteEnd s = .next s.emptyTold.tripped :=
  exec_minuteEnd_settled hawake hruns hstage hmode hlow hempty hdry
    (raiseCondition_trips (s := s.emptied) hnone hreaction hlisted hstate) (by rw [tripped_duty]; rfl)

theorem exec_minuteEnd_trip_fault (hreaction : s.image.reaction .tankEmpty = .trip) (hstate : s.duty.state = .fault) :
    exec .minuteEnd s = .next s.emptyTold :=
  exec_minuteEnd_settled hawake hruns hstage hmode hlow hempty hdry
    (raiseCondition_trip_fault (s := s.emptied) hnone hlisted hreaction hstate) rfl

section unload
variable (hreaction : s.image.reaction .tankEmpty = .unload)
include hreaction

theorem exec_minuteEnd_ready (hstate : s.duty.state = .ready) (hfeed : s.duty.feed ≠ []) :
    exec .minuteEnd s = .next s.emptyTold.unloading := by
  have hunloads := raiseCondition_unloads (s := s.emptied) hnone hlisted hreaction
  rw [show s.emptied.duty.state = .ready from hstate] at hunloads
  refine exec_minuteEnd_settled hawake hruns hstage hmode hlow hempty hdry
    (hunloads.trans ((enterUnloading_cases _).trans (if_neg (by exact hfeed)))) ?_
  rw [unloading_duty]
  rfl

theorem exec_minuteEnd_starting (hstate : s.duty.state = .starting) :
    exec .minuteEnd s = .next (postStatus (State.refusing reasonStopping s.emptyTold.reservations
      (pulse (setDuty s.emptyTold .off none) .runOff))) := by
  have hunloads := raiseCondition_unloads (s := s.emptied) hnone hlisted hreaction
  rw [show s.emptied.duty.state = .starting from hstate] at hunloads
  refine exec_minuteEnd_settled hawake hruns hstage hmode hlow hempty hdry
    (hunloads.trans (abandonStart_inhibited (inhibit_of_one (c := .tankEmpty) rfl hreaction))) ?_
  exact (refusing_conditions ..).trans rfl

theorem exec_minuteEnd_warming (hstate : s.duty.state = .warming) (hcool : s.image.cooldownTime ≠ 0) :
    exec .minuteEnd s = .next (let w := s.emptyTold
      postStatus
        { State.refusing reasonStopping w.reservations { w with duty := w.coolingDuty } with
            pulses := { w.pulses with breaker := some .brkOpen }
            duty := { w.coolingDuty with
              timer := 0, brkClosed := false, disagree := if w.duty.brkClosed then 0 else w.duty.disagree } }) := by
  have hunloads := raiseCondition_unloads (s := s.emptied) hnone hlisted hreaction
  rw [show s.emptied.duty.state = .warming from hstate] at hunloads
  exact exec_minuteEnd_settled hawake hruns hstage hmode hlow hempty hdry
    (hunloads.trans (abandonWarming_timed (by exact hcool))) rfl

theorem exec_minuteEnd_cooling (hstate : s.duty.state = .cooling) :
    exec .minuteEnd s = .next { s.emptyTold with duty := s.emptyTold.coolingDuty } := by
  have hunloads := raiseCondition_unloads (s := s.emptied) hnone hlisted hreaction
  rw [show s.emptied.duty.state = .cooling from hstate] at hunloads
  exact exec_minuteEnd_settled hawake hruns hstage hmode hlow hempty hdry hunloads rfl

theorem exec_minuteEnd_stays
    (hstate : s.duty.state = .off ∨ s.duty.state = .unloading ∨ s.duty.state = .fault) :
    exec .minuteEnd s = .next s.emptyTold := by
  have hunloads := raiseCondition_unloads (s := s.emptied) hnone hlisted hreaction
  refine exec_minuteEnd_settled hawake hruns hstage hmode hlow hempty hdry (hunloads.trans ?_) rfl
  rcases hstate with h | h | h <;> rw [show s.emptied.duty.state = _ from h] <;> rfl

end unload

end emptied

/-! ## The expiries of the counts -/

/-- A condition that no input settles stays. -/
theorem settle_of_untied {s : State} {c : FaultClass} (hone : s.duty.conditions = [c])
    (hc : c ≠ .engineFault ∧ c ≠ .breaker ∧ c ≠ .burnSilent) : settle s = s :=
  settle_of_one hone (fun h => absurd h hc.1) (fun h => absurd h hc.2.1) (fun h => absurd h hc.2.2)

section counts
variable {s : State} (hawake : s.awake = true) (hruns : s.runs .set = true) (hnone : s.duty.conditions = [])
include hawake hruns hnone

theorem exec_overload_due (hstate : s.duty.state = .ready ∨ s.duty.state = .unloading) (hcount : 60 ≤ s.duty.overload) :
    exec .overloadCountExpiry s = .next (settle (raiseCondition s .overload)) :=
  congrArg Host.Outcome.next (dutyStep_due hawake hruns State.overloadDue (fun t => raiseCondition t .overload)
    (by rcases hstate with h | h <;> simp [State.overloadDue, h, hcount, present_of_none hnone]))

theorem exec_overload_early
    (h : (s.duty.state ≠ .ready ∧ s.duty.state ≠ .unloading) ∨ s.duty.overload < 60) :
    exec .overloadCountExpiry s = .next s :=
  congrArg Host.Outcome.next (dutyStep_early hawake hruns hnone State.overloadDue
    (fun t => raiseCondition t .overload) (by
      rw [← Nat.not_le] at h
      rcases h with h | h <;> simp [State.overloadDue, h]))

theorem exec_burnSilence_due (hstate : s.duty.state = .ready) (hcount : 120 ≤ s.duty.burnSilence) :
    exec .burnSilenceExpiry s = .next (settle (raiseCondition s .burnSilent)) :=
  congrArg Host.Outcome.next (dutyStep_due hawake hruns State.burnSilenceDue (fun t => raiseCondition t .burnSilent)
    (by simp [State.burnSilenceDue, hstate, hcount, present_of_none hnone]))

theorem exec_burnSilence_early (h : s.duty.state ≠ .ready ∨ s.duty.burnSilence < 120) :
    exec .burnSilenceExpiry s = .next s :=
  congrArg Host.Outcome.next (dutyStep_early hawake hruns hnone State.burnSilenceDue
    (fun t => raiseCondition t .burnSilent) (by
      rw [← Nat.not_le] at h
      rcases h with h | h <;> simp [State.burnSilenceDue, h]))

end counts

section settled
variable {s : State} (hawake : s.awake = true) (hruns : s.runs .set = true) (hsettled : s.Settled)
include hawake hruns hsettled

theorem dutyStep_idle (due : State → Bool) (f : State → State) (h : due s = false) :
    dutyEvent s (fun t => if due t = true then f t else t) = s := by
  rw [dutyEvent_of_runs hawake hruns, if_neg (by rw [h]; decide), hsettled.settle]

theorem exec_unloadLimit_due (hstate : s.duty.state = .unloading) (htimer : s.image.unloadTime ≤ s.duty.timer)
    (hfeed : s.duty.feed ≠ []) (hnoted : s.duty.stallNoted = false) :
    exec .unloadLimitExpiry s = .next (unloadStalled s) := by
  refine congrArg Host.Outcome.next ((dutyStep_due hawake hruns State.unloadLimitDue unloadStalled ?_).trans
    (settle_kept (t := unloadStalled s) hsettled rfl rfl rfl rfl rfl))
  simp [State.unloadLimitDue, hstate, htimer, hfeed, hnoted]

theorem exec_unloadLimit_early (h : s.duty.state ≠ .unloading ∨ s.duty.timer < s.image.unloadTime ∨
    s.duty.feed = [] ∨ s.duty.stallNoted = true) : exec .unloadLimitExpiry s = .next s := by
  refine congrArg Host.Outcome.next (dutyStep_idle hawake hruns hsettled State.unloadLimitDue unloadStalled ?_)
  rw [← Nat.not_le] at h
  rcases h with h | h | h | h <;> simp [State.unloadLimitDue, h]

theorem exec_resHold_due {board : Nat} (hstate : s.duty.state ≠ .unloading)
    (h : ∃ r ∈ s.reservations, r.board = board ∧ r.hold = some 0) :
    exec (.resHoldExpiry board) s =
      .next { s with reservations := s.reservations.filter (fun r => r.board != board) } := by
  refine congrArg Host.Outcome.next ((dutyStep_due hawake hruns (fun t => t.holdDue board)
    (fun t => reservationRemove t board) ?_).trans ?_)
  · simpa [State.holdDue] using h
  · rw [reservationRemove_of_not_unloading hstate]
    exact settle_kept (t := { s with reservations := withoutBoard board s.reservations }) hsettled rfl rfl rfl rfl rfl

theorem exec_resHold_early {board : Nat} (h : ∀ r ∈ s.reservations, r.board = board → r.hold ≠ some 0) :
    exec (.resHoldExpiry board) s = .next s := by
  refine congrArg Host.Outcome.next (dutyStep_idle hawake hruns hsettled (fun t => t.holdDue board)
    (fun t => reservationRemove t board) ?_)
  simpa [State.holdDue] using h

end settled

/-- A burn pulse ends BURN_SILENT without a trace where its reaction is IGNORE (R60, R61). -/
theorem exec_burnPulse_silent {s : State} (hawake : s.awake = true) (hruns : s.runs .set = true)
    (hstate : s.duty.state = .ready) (hone : s.duty.conditions = [.burnSilent])
    (hreaction : s.image.reaction .burnSilent = .ignore) :
    exec .burnPulse s = .next { s with
      tank := { s.tank with burnPulses := incTo pulseTop s.tank.burnPulses }
      duty := { s.duty with burnSilence := 0, conditions := [] } } := by
  have hcounts : s.counts .set = true := by
    rw [State.counts, hruns, Bool.or_true, Bool.and_true]
    exact (awake_iff.mp hawake).1
  let w : State := { s with
    tank := { s.tank with burnPulses := incTo pulseTop s.tank.burnPulses }
    duty := { s.duty with burnSilence := 0 } }
  have hclear : clearCondition w .burnSilent = { w with duty := { w.duty with conditions := [] } } := by
    rw [clearCondition_ignored ((present_of_one (s := w) hone _).mpr rfl) hreaction
      (.inl (by rw [show w.duty.state = .ready from hstate]; decide)), show w.duty.conditions = [.burnSilent] from hone]
    rfl
  refine congrArg Host.Outcome.next ((if_pos hcounts).trans ?_)
  rw [dutyEvent_of_runs (by exact hawake) (by exact hruns)]
  exact (congrArg settle hclear).trans (settle_of_none rfl)

/-- Settles O41: each expiry raises a first condition, whose reaction is read from R63. -/
theorem countsAndHoldsRunOut : Obligations.CountsAndHoldsRunOut := by
  unfold Obligations.CountsAndHoldsRunOut
  refine ⟨fun s hawake hruns hnone => ?_, fun s hawake hruns hstate hone hreaction => ?_,
    fun s hawake hruns hsettled => ⟨exec_unloadLimit_due hawake hruns hsettled,
      exec_unloadLimit_early hawake hruns hsettled, fun board => ⟨exec_resHold_due hawake hruns hsettled,
        exec_resHold_early hawake hruns hsettled⟩⟩⟩
  · intro alarmed
    refine ⟨fun hstate hcount hreaction hlisted => ?_, exec_overload_early hawake hruns hnone, ?_⟩
    · have hacts : raiseCondition s .overload = s.alarmed .overload :=
        raiseCondition_alarms hnone hlisted (congrArg alarmChoice hreaction)
      rw [exec_overload_due hawake hruns hnone hstate hcount, hacts, settle_of_untied rfl (by decide)]
      rfl
    intro unloading
    refine ⟨fun hstate hcount hreaction hlisted hfeed => ?_, ?_⟩
    · have hacts := raiseCondition_unloads hnone hlisted (congrArg alarmChoice hreaction)
      rw [hstate] at hacts
      have henters : enterUnloading (s.alarmed .overload) = (s.alarmed .overload).unloading :=
        (enterUnloading_cases _).trans (if_neg (by exact hfeed))
      rw [exec_overload_due hawake hruns hnone (.inl hstate) hcount, hacts]
      dsimp only
      rw [henters, settle_of_untied (c := .overload) (by rw [unloading_duty]; rfl) (by decide)]
      rfl
    intro tripped
    refine ⟨fun hstate hcount hreaction hlisted => ?_, fun hstage hmode hlow hempty hdry hlisted => ?_,
      fun hstate hcount hreaction hlisted => ?_, fun hstate hcount hreaction => ?_,
      exec_burnSilence_early hawake hruns hnone⟩
    · have hacts : raiseCondition s .overload = (s.alarmed .overload).tripped :=
        raiseCondition_trips hnone (congrArg alarmChoice hreaction) hlisted
          (fun h => by rcases hstate with h1 | h1 <;> rw [h1] at h <;> cases h)
      rw [exec_overload_due hawake hruns hnone hstate hcount, hacts,
        settle_of_untied (c := .overload) (by rw [tripped_duty]; rfl) (by decide)]
      rfl
    · refine ⟨(closeMinute s).judgedTank, emptied_empty hmode hlow, emptied_tte hmode hlow, rfl, ?_⟩
      intro w
      generalize hw : w = told
      obtain rfl : told = s.emptyTold := hw.symm
      obtain ⟨hreserved, hpulses, hbrk, hdisagree⟩ := emptyTold_kept s
      refine ⟨fun hreaction => ?_, fun hreaction hcool => ?_⟩
      · have htrip : s.image.reaction .tankEmpty = .trip := congrArg alarmChoice hreaction
        have htrips := exec_minuteEnd_trips hawake hruns hstage hmode hlow hnone hlisted hempty hdry htrip
        have hfault := exec_minuteEnd_trip_fault hawake hruns hstage hmode hlow hnone hlisted hempty hdry htrip
        dsimp only [tripped]
        rw [← hreserved, ← hbrk, ← hdisagree]
        revert htrips hfault
        generalize s.emptyTold = w
        exact fun htrips hfault => ⟨htrips, hfault⟩
      · have hunload : s.image.reaction .tankEmpty = .unload := congrArg alarmChoice hreaction
        have hready := exec_minuteEnd_ready hawake hruns hstage hmode hlow hnone hlisted hempty hdry hunload
        have hstarting := exec_minuteEnd_starting hawake hruns hstage hmode hlow hnone hlisted hempty hdry hunload
        have hwarming := exec_minuteEnd_warming hawake hruns hstage hmode hlow hnone hlisted hempty hdry hunload
        have hcooling := exec_minuteEnd_cooling hawake hruns hstage hmode hlow hnone hlisted hempty hdry hunload
        have hstays := exec_minuteEnd_stays hawake hruns hstage hmode hlow hnone hlisted hempty hdry hunload
        intro cooling
        dsimp only [unloading]
        rw [← hreserved, ← hpulses, ← hbrk, ← hdisagree]
        dsimp only [cooling]
        revert hready hstarting hwarming hcooling hstays
        generalize s.emptyTold = w
        exact fun hready hstarting hwarming hcooling hstays =>
          ⟨hready, hstarting, fun hstate => hwarming hstate hcool, hcooling, hstays⟩
    · have hacts : raiseCondition s .burnSilent = s.alarmed .burnSilent :=
        raiseCondition_alarms hnone hlisted (congrArg ignoreChoice hreaction)
      rw [exec_burnSilence_due hawake hruns hnone hstate hcount, hacts,
        settle_of_one (s := s.alarmed .burnSilent) (c := .burnSilent) rfl (fun h => by cases h) (fun h => by cases h) (fun _ => hstate)]
      rfl
    · have hignore : s.image.reaction .burnSilent = .ignore := congrArg ignoreChoice hreaction
      rw [exec_burnSilence_due hawake hruns hnone hstate hcount, raiseCondition_of_none hnone,
        raiseOnly_ignored hnone hignore, actReaction_alarm (s := { s with duty := { s.duty with conditions := [.burnSilent] } }) (c := .burnSilent) rfl
          (.inr hignore),
        settle_of_one (s := { s with duty := { s.duty with conditions := [.burnSilent] } }) (c := .burnSilent) rfl (fun h => by cases h) (fun h => by cases h) (fun _ => hstate)]
  · exact exec_burnPulse_silent hawake hruns hstate hone (congrArg ignoreChoice hreaction)

end Sys2Proof.Machine
end

section
/-! PROOFS. What an event of the duty controller keeps of the fault list, the second of a SET, and its minute (O44). -/
set_option Elab.async false

namespace Sys2Proof.Machine

/-! ## Entries into duty states keep conditions and faults, and rest the timer (R55, R56) -/

/-- In UNLOADING and COOLING the state timer stands at 0. -/
def State.Rested (s : State) : Prop := s.duty.state = .unloading ∨ s.duty.state = .cooling → s.duty.timer = 0

/-- A move of the duty state: the conditions and the fault list stay, and UNLOADING or COOLING is entered with timer 0. -/
structure State.Moves (s t : State) : Prop where
  conditions : t.duty.conditions = s.duty.conditions
  faults : t.duty.faults = s.duty.faults
  rested : s.Rested → t.Rested

namespace State.Moves

theorem refl (s : State) : s.Moves s := ⟨rfl, rfl, id⟩

theorem trans {s t u : State} (h : s.Moves t) (g : t.Moves u) : s.Moves u :=
  ⟨g.conditions.trans h.conditions, g.faults.trans h.faults, fun hs => g.rested (h.rested hs)⟩

/-- A change of duty that ends in a state other than UNLOADING and COOLING. -/
theorem away {s t : State} {d : Duty} {x : DutyState} (hd : t.duty = d) (hc : d.conditions = s.duty.conditions)
    (hf : d.faults = s.duty.faults) (hx : d.state = x) (hout : x ≠ .unloading ∧ x ≠ .cooling) : s.Moves t := by
  subst hd hx
  exact ⟨hc, hf, fun _ h => h.elim (fun h => absurd h hout.1) (fun h => absurd h hout.2)⟩

/-- A change of duty that leaves the timer at 0. -/
theorem zero {s t : State} {d : Duty} (hd : t.duty = d) (hc : d.conditions = s.duty.conditions)
    (hf : d.faults = s.duty.faults) (hzero : d.timer = 0) : s.Moves t := by
  subst hd
  exact ⟨hc, hf, fun _ _ => hzero⟩

end State.Moves

theorem enterReady_duty (s : State) (fromWarming : Bool) :
    (enterReady s fromWarming).duty = commandBy { (setDuty s .ready none).duty with idle := 0 } .brkClose := by
  cases fromWarming
  · rfl
  · exact recheckAll_duty _

theorem enterReady_moves (s : State) (fromWarming : Bool) : s.Moves (enterReady s fromWarming) :=
  .away (x := .ready) (enterReady_duty s fromWarming) rfl rfl rfl (by decide)

theorem enterWarming_moves (s : State) : s.Moves (enterWarming s) := by
  have hzero : s.Moves (postStatus (zeroTimer (setDuty s .warming none))) := .zero rfl rfl rfl rfl
  unfold enterWarming
  dsimp only
  split
  · exact hzero.trans (enterReady_moves _ true)
  · exact hzero

theorem startEngine_moves (s : State) : s.Moves (startEngine s) := by
  unfold startEngine
  dsimp only
  split
  · refine State.Moves.trans ?_ (enterWarming_moves _)
    exact .zero rfl rfl rfl rfl
  · exact .zero rfl rfl rfl rfl

theorem primeStart_moves (s : State) : s.Moves (primeStart s) := by
  unfold primeStart
  split
  · exact startEngine_moves s
  · exact .refl s

theorem enterOff_moves (s : State) : s.Moves (enterOff s) := by
  refine State.Moves.trans ?_ (primeStart_moves _)
  exact .away (x := .off) rfl rfl rfl rfl (by decide)

theorem enterCooling_moves (s : State) (origin : Origin) : s.Moves (enterCooling s origin) := by
  unfold enterCooling
  dsimp only
  split
  · refine State.Moves.trans ?_ (enterOff_moves _)
    exact .zero rfl rfl rfl rfl
  · exact .zero rfl rfl rfl rfl

theorem unloadTest_moves (s : State) : s.Moves (unloadTest s) := by
  unfold unloadTest
  split
  · exact enterCooling_moves s .stopping
  · exact .refl s

theorem enterUnloading_moves (s : State) : s.Moves (enterUnloading s) := by
  refine State.Moves.trans ?_ (unloadTest_moves _)
  exact .zero (refuseAll_duty _ reasonStopping) rfl rfl rfl

theorem trip_moves (s : State) : s.Moves (trip s) :=
  .away (x := .fault) (refuseAll_duty _ reasonFault) rfl rfl rfl (by decide)

theorem abandonStart_moves (s : State) : s.Moves (abandonStart s) := by
  refine State.Moves.trans ?_ (enterOff_moves _)
  exact .away (x := .off) (refuseAll_duty _ reasonStopping) rfl rfl rfl (by decide)

/-- COOLING entered out of any state, its timer about to be zeroed. -/
theorem abandonWarming_moves (s : State) : s.Moves (abandonWarming s) := by
  have hduty := refuseAll_duty (setDuty s .cooling (some .stopping)) reasonStopping
  unfold abandonWarming
  generalize refuseAll (setDuty s .cooling (some .stopping)) reasonStopping = u at hduty
  have hconditions : u.duty.conditions = s.duty.conditions := (congrArg Duty.conditions hduty).trans rfl
  have hfaults : u.duty.faults = s.duty.faults := (congrArg Duty.faults hduty).trans rfl
  unfold enterCooling
  dsimp only
  split
  · refine State.Moves.trans ?_ (enterOff_moves _)
    exact .zero rfl hconditions hfaults rfl
  · exact .zero rfl hconditions hfaults rfl

theorem actReaction_moves (s : State) : s.Moves (actReaction s) := by
  unfold actReaction
  split
  · split
    · exact .refl s
    · exact trip_moves s
  · split
    · exact .refl s
    · exact abandonStart_moves s
    · exact abandonWarming_moves s
    · exact enterUnloading_moves s
    · exact .refl s
    · next hcooling => exact ⟨rfl, rfl, fun h _ => h (.inr hcooling)⟩
    · exact .refl s
  · exact .refl s
  · exact .refl s

/-! ## Conditions that arise and go (R61, R64) -/

/-- A class that `settle` never clears. -/
def FaultClass.untied (c : FaultClass) : Prop := c ≠ .engineFault ∧ c ≠ .breaker ∧ c ≠ .burnSilent

/-- The entries of untied classes whose condition is present stay listed, and the timer stays at rest. -/
structure State.KeepsFaults (s t : State) : Prop where
  entries : ∀ e ∈ s.duty.faults, e.cls.untied → e.present = true → e ∈ t.duty.faults
  rested : s.Rested → t.Rested

theorem State.Moves.keeps {s t : State} (h : s.Moves t) : s.KeepsFaults t :=
  ⟨fun e he _ _ => by rw [h.faults]; exact he, h.rested⟩

theorem State.KeepsFaults.trans {s t u : State} (h : s.KeepsFaults t) (g : t.KeepsFaults u) : s.KeepsFaults u :=
  ⟨fun e he hu hp => g.entries e (h.entries e he hu hp) hu hp, fun hs => g.rested (h.rested hs)⟩

/-- Going, a condition takes with it only an entry of its own class or one that is GONE. -/
theorem clearCondition_shape (s : State) (c : FaultClass) :
    ∃ u : State, u.duty.state = s.duty.state ∧ u.duty.timer = s.duty.timer ∧
      (∀ e ∈ s.duty.faults, e.cls ≠ c → e.present = true → e ∈ u.duty.faults) ∧ u.Moves (clearCondition s c) := by
  by_cases hpresent : s.present c = true
  · rw [clearCondition, if_pos hpresent]
    dsimp only
    by_cases hignore : s.image.reaction c = .ignore
    · rw [if_pos hignore]
      refine ⟨{ s with duty := { s.duty with conditions := s.duty.conditions.filter (fun d => d != c) } }, rfl, rfl,
        fun e he _ _ => he, ?_⟩
      split
      · exact primeStart_moves _
      · exact .refl _
    · rw [if_neg hignore]
      generalize hu : dropSettled _ = u
      have hduty := (congrArg State.duty hu).symm.trans (dropSettled_duty _)
      refine ⟨u, by rw [hduty]; rfl, by rw [hduty]; rfl, fun e he hne hp => ?_, ?_⟩
      · rw [hduty]
        exact List.mem_filter.mpr ⟨List.mem_map.mpr ⟨e, he, if_neg hne⟩, stays_iff.mpr (.inl hp)⟩
      · split
        · exact primeStart_moves u
        · exact .refl u
  · exact ⟨s, rfl, rfl, fun e he _ _ => he, by rw [clearCondition, if_neg hpresent]; exact .refl s⟩

theorem clearCondition_keepsOthers (s : State) (c : FaultClass) {e : FaultEntry} (he : e ∈ s.duty.faults)
    (hne : e.cls ≠ c) (hp : e.present = true) : e ∈ (clearCondition s c).duty.faults := by
  obtain ⟨u, -, -, hfaults, hmoves⟩ := clearCondition_shape s c
  rw [hmoves.faults]
  exact hfaults e he hne hp

theorem clearCondition_rested {s : State} (c : FaultClass) (h : s.Rested) : (clearCondition s c).Rested := by
  obtain ⟨u, hstate, htimer, -, hmoves⟩ := clearCondition_shape s c
  exact hmoves.rested (fun hu => htimer.trans (h (by rwa [hstate] at hu)))

theorem clearCondition_keeps (s : State) {c : FaultClass} (hc : ¬ c.untied) : s.KeepsFaults (clearCondition s c) :=
  ⟨fun _ he hu hp => clearCondition_keepsOthers s c he (fun h => hc (h ▸ hu)) hp, clearCondition_rested c⟩

theorem settle_keepsFaults (s : State) : s.KeepsFaults (settle s) := by
  unfold settle
  dsimp only
  have hengine : s.KeepsFaults (if s.input 3 = false ∧ s.duty.runOn = false then clearCondition s .engineFault else s) := by
    split
    · exact clearCondition_keeps s fun h => h.1 rfl
    · exact (State.Moves.refl s).keeps
  generalize (if s.input 3 = false ∧ s.duty.runOn = false then clearCondition s .engineFault else s) = t at hengine
  have hbreaker : t.KeepsFaults (if t.input 2 = t.duty.brkClosed then clearCondition t .breaker else t) := by
    split
    · exact clearCondition_keeps t fun h => h.2.1 rfl
    · exact (State.Moves.refl t).keeps
  generalize (if t.input 2 = t.duty.brkClosed then clearCondition t .breaker else t) = u at hbreaker
  refine (hengine.trans hbreaker).trans ?_
  split
  · exact (State.Moves.refl u).keeps
  · exact clearCondition_keeps u fun h => h.2.2 rfl

/-- What is settled leaves the untied conditions as they stand. -/
theorem settle_present (s : State) {c : FaultClass} (hc : c.untied) : (settle s).present c = s.present c := by
  have hclear : ∀ (v : State) (d : FaultClass), c ≠ d → (clearCondition v d).present c = v.present c := fun v d hd => by
    rw [present_of_conditions (clearCondition_effect v d).1]
    simp [hd]
  unfold settle
  dsimp only
  obtain ⟨hengine, hbreaker, hburn⟩ := hc
  split <;> split <;> split <;> simp only [hclear _ _ hengine, hclear _ _ hbreaker, hclear _ _ hburn]

theorem mem_raisedList_of_other {l : List FaultEntry} {c : FaultClass} {stamp : Nat} {present : Bool} {e : FaultEntry}
    (he : e ∈ l) (hne : e.cls ≠ c) : e ∈ raisedList l c stamp present := by
  unfold raisedList
  split
  · exact List.mem_map.mpr ⟨e, he, if_neg hne⟩
  · exact List.mem_append_left _ he

/-- A raising leaves an entry of the class with the raising's figures. -/
theorem exists_mem_raisedList (l : List FaultEntry) (c : FaultClass) (stamp : Nat) (present : Bool) :
    ∃ e ∈ raisedList l c stamp present, e.cls = c ∧ e.present = present ∧ e.raisedAt = stamp := by
  unfold raisedList
  split
  · next hlisted =>
    obtain ⟨e, he, hclass⟩ := List.any_eq_true.mp hlisted
    have hc : e.cls = c := by simpa using hclass
    exact ⟨{ e with raisedAt := stamp, present := present }, List.mem_map.mpr ⟨e, he, if_pos hc⟩, hc, rfl, rfl⟩
  · exact ⟨_, List.mem_append_right _ (List.mem_singleton.mpr rfl), rfl, rfl, rfl⟩

/-- A condition that arises joins the conditions, and the list where its reaction is not IGNORE, before it acts. -/
theorem raiseCondition_shape {s : State} {c : FaultClass} (h : s.present c = false) :
    ∃ u : State, u.duty.state = s.duty.state ∧ u.duty.timer = s.duty.timer ∧
      u.duty.conditions = s.duty.conditions ++ [c] ∧
      u.duty.faults = (if s.image.reaction c = .ignore then s.duty.faults
        else raisedList s.duty.faults c s.stationSeconds true) ∧ u.Moves (raiseCondition s c) := by
  have hacts : raiseCondition s c = actReaction (raiseOnly s c) := if_neg (by rw [h]; decide)
  have honly : (raiseOnly s c).duty = { s.duty with
      conditions := s.duty.conditions ++ [c]
      faults := if s.image.reaction c = .ignore then s.duty.faults
        else raisedList s.duty.faults c s.stationSeconds true } := by
    rw [raiseOnly, if_neg (by rw [h]; decide)]
    dsimp only
    split
    · rfl
    · obtain ⟨line, hraised⟩ := raiseEntry_shape
        { s with duty := { s.duty with conditions := s.duty.conditions ++ [c] } } c true (.faultRaised c s.duty.state)
      rw [hraised]
  rw [hacts]
  exact ⟨raiseOnly s c, by rw [honly], by rw [honly], by rw [honly], by rw [honly], actReaction_moves _⟩

theorem raiseCondition_present (s : State) (c : FaultClass) : (raiseCondition s c).present c = true := by
  cases h : s.present c with
  | true => rw [raiseCondition_of_present h, h]
  | false =>
    obtain ⟨u, -, -, hconditions, -, hmoves⟩ := raiseCondition_shape h
    rw [State.present, hmoves.conditions, hconditions]
    simp

/-- A condition that was present stays so when another arises. -/
theorem raiseCondition_present_of {s : State} {c d : FaultClass} (hd : s.present d = true) :
    (raiseCondition s c).present d = true := by
  cases h : s.present c with
  | true => rw [raiseCondition_of_present h, hd]
  | false =>
    obtain ⟨u, -, -, hconditions, -, hmoves⟩ := raiseCondition_shape h
    rw [State.present, hmoves.conditions, hconditions]
    exact List.contains_iff_mem.mpr (List.mem_append_left _ (List.contains_iff_mem.mp hd))

theorem raiseCondition_rested {s : State} (c : FaultClass) (hs : s.Rested) : (raiseCondition s c).Rested := by
  cases h : s.present c with
  | true => rwa [raiseCondition_of_present h]
  | false =>
    obtain ⟨u, hstate, htimer, -, -, hmoves⟩ := raiseCondition_shape h
    exact hmoves.rested (fun hu => htimer.trans (hs (by rwa [hstate] at hu)))

theorem raiseCondition_keepsOthers (s : State) (c : FaultClass) {e : FaultEntry} (he : e ∈ s.duty.faults)
    (hne : e.cls ≠ c) : e ∈ (raiseCondition s c).duty.faults := by
  cases h : s.present c with
  | true => rwa [raiseCondition_of_present h]
  | false =>
    obtain ⟨u, -, -, -, hfaults, hmoves⟩ := raiseCondition_shape h
    rw [hmoves.faults, hfaults]
    split
    · exact he
    · exact mem_raisedList_of_other he hne

/-- A condition that arises, its reaction not IGNORE, stands in the list as raised now. -/
theorem raiseCondition_lists {s : State} {c : FaultClass} (h : s.present c = false)
    (hreaction : s.image.reaction c ≠ .ignore) :
    ∃ e ∈ (raiseCondition s c).duty.faults, e.cls = c ∧ e.present = true ∧ e.raisedAt = s.stationSeconds := by
  obtain ⟨u, -, -, -, hfaults, hmoves⟩ := raiseCondition_shape h
  rw [hmoves.faults, hfaults, if_neg hreaction]
  exact exists_mem_raisedList ..

/-! ## The passage into and out of the empty state (R128) -/

theorem tankEmpty_untied : FaultClass.untied .tankEmpty := ⟨by decide, by decide, by decide⟩

theorem tankEmpty_acts (i : Image) : i.reaction .tankEmpty ≠ .ignore := by
  simp only [Image.reaction, alarmChoice]
  split <;> exact fun h => by cases h

/-- TANK_EMPTY is present after the passage as the tank is empty. -/
theorem passed_present (s : State) : s.passed.present .tankEmpty = emptyNow s := by
  unfold State.passed
  rw [settle_present _ tankEmpty_untied]
  cases h : emptyNow s with
  | true => rw [if_pos rfl, raiseCondition_present]
  | false =>
    rw [if_neg (by decide), present_of_conditions (clearCondition_effect _ _).1]
    simp

theorem passed_lists {s : State} (hnow : emptyNow s = true) (h : s.present .tankEmpty = false) :
    ∃ e ∈ s.passed.duty.faults, e.cls = .tankEmpty ∧ e.present = true ∧ e.raisedAt = s.stationSeconds := by
  obtain ⟨e, he, hclass, hpresent, hat⟩ := raiseCondition_lists (s := { s with tank := s.judgedTank })
    (c := .tankEmpty) h (tankEmpty_acts _)
  refine ⟨e, ?_, hclass, hpresent, hat⟩
  have hpassed : s.passed = settle (raiseCondition { s with tank := s.judgedTank } .tankEmpty) :=
    congrArg settle (if_pos hnow)
  rw [hpassed]
  exact (settle_keepsFaults _).entries e he (by rw [hclass]; exact tankEmpty_untied) hpresent

theorem passed_rested {s : State} (h : s.Rested) : s.passed.Rested := by
  unfold State.passed
  refine (settle_keepsFaults _).rested ?_
  split
  · exact raiseCondition_rested (s := { s with tank := s.judgedTank }) _ h
  · exact clearCondition_rested (s := { s with tank := s.judgedTank }) _ h

/-- Entries of other classes, present, stand through the passage. -/
theorem passed_keeps {s : State} {e : FaultEntry} (he : e ∈ s.duty.faults) (hne : e.cls ≠ .tankEmpty)
    (hu : e.cls.untied) (hp : e.present = true) : e ∈ s.passed.duty.faults := by
  unfold State.passed
  refine (settle_keepsFaults _).entries e ?_ hu hp
  split
  · exact raiseCondition_keepsOthers { s with tank := s.judgedTank } _ he hne
  · exact clearCondition_keepsOthers { s with tank := s.judgedTank } _ he hne hp

theorem passed_present_of {s : State} {c : FaultClass} (hc : s.present c = true) (hne : c ≠ .tankEmpty)
    (hu : c.untied) : s.passed.present c = true := by
  unfold State.passed
  rw [settle_present _ hu]
  split
  · exact raiseCondition_present_of (s := { s with tank := s.judgedTank }) hc
  · rw [present_of_conditions (clearCondition_effect _ _).1]
    simp only [Bool.and_eq_true, bne_iff_ne]
    exact ⟨hc, hne⟩

/-! ## The dry flag (R129, R130) -/

/-- The dry flag after a second. -/
def State.dryNext (s : State) : Bool :=
  if s.tank.dry = true then decide (s.tank.tte < s.image.dryMinutes + 15)
  else decide (s.tank.tte < s.image.dryMinutes ∧ (s.duty.state = .ready ∨ s.duty.state = .unloading))

section dry
variable {s : State}

theorem formDry_clears (hdry : s.tank.dry = true) (htte : s.image.dryMinutes + 15 ≤ s.tank.tte) :
    formDry s = postStatus { s with tank := { s.tank with dry := false } } := by
  rw [formDry, if_pos hdry, if_pos htte]

theorem formDry_warns (hdry : s.tank.dry = false)
    (h : s.tank.tte < s.image.dryMinutes ∧ (s.duty.state = .ready ∨ s.duty.state = .unloading)) :
    formDry s =
      postStatus (post { s with tank := { s.tank with dry := true } } 0 (.dry s.tank.tte (litres s.tank.reported))) := by
  rw [formDry, if_neg (by rw [hdry]; decide), if_pos h]

theorem formDry_rests (hdry : s.tank.dry = false)
    (h : ¬ (s.tank.tte < s.image.dryMinutes ∧ (s.duty.state = .ready ∨ s.duty.state = .unloading))) :
    formDry s = s := by
  rw [formDry, if_neg (by rw [hdry]; decide), if_neg h]

end dry

/-- The dry flag is formed in the tank; beyond it only the line and the records tell of it. -/
theorem formDry_shape (s : State) :
    ∃ line records, formDry s =
      { s with tank := { s.tank with dry := s.dryNext }, line := line, records := records } := by
  cases hdry : s.tank.dry with
  | true =>
    by_cases htte : s.tank.tte < s.image.dryMinutes + 15
    · have hnext : s.dryNext = s.tank.dry := by simp [State.dryNext, hdry, htte]
      rw [formDry_of_dry hdry htte, hnext]
      exact ⟨_, _, rfl⟩
    · have hnext : s.dryNext = false := by simp [State.dryNext, hdry, htte]
      rw [formDry_clears hdry (by omega), hnext]
      exact ⟨_, _, rfl⟩
  | false =>
    by_cases hwarns : s.tank.tte < s.image.dryMinutes ∧ (s.duty.state = .ready ∨ s.duty.state = .unloading)
    · have hnext : s.dryNext = true := by simp [State.dryNext, hdry, hwarns]
      rw [formDry_warns hdry hwarns, hnext]
      exact ⟨_, _, rfl⟩
    · have hnext : s.dryNext = s.tank.dry := by
        rw [State.dryNext, if_neg (by rw [hdry]; decide), hdry]
        exact decide_eq_false hwarns
      rw [formDry_rests hdry hwarns, hnext]
      exact ⟨_, _, rfl⟩

/-! ## What follows the content: TTE, empty state, dry flag -/

/-- The state in which the dry flag is formed. -/
def State.judged (s : State) : State :=
  if emptyNow s = s.tank.empty then { s with tank := s.judgedTank } else s.passed

section finish
variable {s : State} (hawake : s.awake = true) (hruns : s.runs .set = true)
include hawake hruns

theorem finishTank_eq : finishTank s = formDry s.judged := by
  rw [State.judged]
  split
  · next h => exact finishTank_of_same h
  · next h => exact finishTank_of_passage hawake hruns h

omit hawake hruns

theorem judged_tank : s.judged.tank = s.judgedTank := by
  rw [State.judged]
  split
  · rfl
  · exact passed_tank s

theorem judged_image : s.judged.image = s.image := by
  rw [State.judged]
  split
  · rfl
  · exact passed_image s

include hawake hruns

/-- The tank after TTE, empty state and dry flag. -/
theorem finishTank_tank : (finishTank s).tank = { s.judgedTank with dry := s.judged.dryNext } := by
  obtain ⟨line, records, h⟩ := formDry_shape s.judged
  rw [finishTank_eq hawake hruns, h, ← judged_tank]

theorem finishTank_duty : (finishTank s).duty = s.judged.duty := by
  obtain ⟨line, records, h⟩ := formDry_shape s.judged
  rw [finishTank_eq hawake hruns, h]

theorem finishTank_rested (h : s.Rested) : (finishTank s).Rested := by
  rw [State.Rested, finishTank_duty hawake hruns, State.judged]
  split
  · exact h
  · exact passed_rested h

end finish

/-- The TTE of a state whose content, mode and buckets are known (R127). -/
theorem tteOf_cases (s : State) :
    (s.tank.mode = .unknown → tteOf s = 65535) ∧
    (s.tank.mode ≠ .unknown → s.tank.reported ≤ s.image.reserveCl → tteOf s = 0) ∧
    (s.tank.mode ≠ .unknown → s.image.reserveCl < s.tank.reported →
      s.tank.buckets.length < 2 ∨ sumOf s.tank.buckets / s.tank.buckets.length = 0 → tteOf s = 65535) ∧
    (s.tank.mode ≠ .unknown → s.image.reserveCl < s.tank.reported → 2 ≤ s.tank.buckets.length →
      sumOf s.tank.buckets / s.tank.buckets.length ≠ 0 →
      tteOf s = min 65534 ((s.tank.reported - s.image.reserveCl) / (sumOf s.tank.buckets / s.tank.buckets.length))) := by
  refine ⟨fun hmode => if_pos hmode, fun hmode hlow => (if_neg hmode).trans (if_pos hlow), fun hmode hhigh h => ?_,
    fun hmode hhigh hlength hrate => ?_⟩
  · rw [tteOf, if_neg hmode, if_neg (by omega), Tank.rate]
    by_cases hlength : s.tank.buckets.length < 2
    · rw [if_pos hlength]
    · rw [if_neg hlength]
      exact if_pos (h.resolve_left hlength)
  · rw [tteOf, if_neg hmode, if_neg (by omega), Tank.rate, if_neg (by omega)]
    exact if_neg hrate

theorem emptyNow_iff (s : State) :
    emptyNow s = true ↔ s.tank.mode ≠ .unknown ∧ s.tank.reported ≤ s.image.reserveCl := by
  simp [emptyNow]

/-- A dry flag that was set stands while the TTE is below its release. -/
theorem dryNext_of_dry {s : State} (h : s.tank.dry = true) :
    s.dryNext = true ↔ s.tank.tte < s.image.dryMinutes + 15 := by
  simp [State.dryNext, h]

theorem dryNext_of_not_dry {s : State} (h : s.tank.dry = false) :
    s.dryNext = true ↔ s.tank.tte < s.image.dryMinutes ∧ (s.duty.state = .ready ∨ s.duty.state = .unloading) := by
  simp [State.dryNext, h]

/-! ## The minute's end (R126) -/

section minute
variable {s : State} (hawake : s.awake = true) (hruns : s.runs .set = true)
include hawake hruns

/-- Where the empty state stays, the minute's end is told of by the dry flag alone. -/
theorem closeMinute_tells (hsame : emptyNow (closeMinute s) = s.tank.empty) :
    let t := finishTank (closeMinute s)
    let told := { s with tank := t.tank }
    let warns : Prop := t.tank.tte < s.image.dryMinutes ∧ (s.duty.state = .ready ∨ s.duty.state = .unloading)
    (s.tank.dry = true → s.image.dryMinutes + 15 ≤ t.tank.tte → t = postStatus told) ∧
    (s.tank.dry = true → t.tank.tte < s.image.dryMinutes + 15 → t = told) ∧
    (s.tank.dry = false → warns → t.tank.dry = true ∧
      t = postStatus (post told 0 (.dry t.tank.tte (min 65535 (s.tank.reported / 100))))) ∧
    (s.tank.dry = false → ¬ warns → t.tank.dry = false ∧ t = told) := by
  have hfinish : finishTank (closeMinute s) = formDry { s with tank := (closeMinute s).judgedTank } :=
    finishTank_of_same hsame
  have htank := finishTank_tank (s := closeMinute s) hawake hruns
  have htte : (finishTank (closeMinute s)).tank.tte = (closeMinute s).judgedTank.tte := by rw [htank]
  dsimp only
  refine ⟨fun hdry hclears => ?_, fun hdry hstays => ?_, fun hdry hwarns => ?_, fun hdry hrests => ?_⟩
  · rw [hfinish.trans (formDry_clears (by exact hdry) (by rw [htte] at hclears; exact hclears))]
    rfl
  · rw [hfinish.trans (formDry_of_dry (by exact hdry) (by rw [htte] at hstays; exact hstays))]
  · rw [hfinish.trans (formDry_warns (by exact hdry) (by rw [htte] at hwarns; exact hwarns))]
    exact ⟨rfl, rfl⟩
  · rw [hfinish.trans (formDry_rests (by exact hdry) (by rw [htte] at hrests; exact hrests))]
    exact ⟨hdry, rfl⟩

end minute

end Sys2Proof.Machine
end

section
/-! PROOFS. The second of a SET and its tank monitor (O44). -/
set_option Elab.async false

namespace Sys2Proof.Machine

/-! ## The second up to the role's blocks (R184) -/

/-- The station once clock, senses, loop, peer table, STATUS interval and channels have had their second. -/
def State.ticked (s : State) (i : SecondInputs) : State :=
  meterTick (statusSecond (peersSecond (measureLoop i.loop (senseSecond i (clockSecond i.backupGood s)))))

theorem exec_localSecond {s : State} (hawake : s.awake = true) (hdue : takeDue s = s) (i : SecondInputs) :
    exec (.localSecond i) s = .next (roleSecond (s.ticked i)) := by
  obtain ⟨hmain, hreset⟩ := awake_iff.mp hawake
  have hwork : localSecond i s = secondWork i (takeDue s) :=
    (if_pos hmain).trans (if_neg (by rw [hreset]; decide))
  rw [hdue] at hwork
  exact congrArg Host.Outcome.next hwork

/-- In a station that is no BOARD a channel's second changes the metering unit alone. -/
theorem channelSecond_shape {s : State} (h : s.runs .board = false) (n : Nat) :
    ∃ meter free, channelSecond s n = { s with meter := meter, free := free } := by
  unfold channelSecond
  split
  · dsimp only
    split
    · unfold addUnmetered
      dsimp only
      rw [if_neg (by exact fun hb => by rw [show s.runs .board = true from hb] at h; cases h)]
      exact ⟨_, _, rfl⟩
    · exact ⟨_, s.free, rfl⟩
  · exact ⟨s.meter, s.free, rfl⟩

theorem meterTick_shape {s : State} (h : s.runs .board = false) :
    ∃ meter free, meterTick s = { s with meter := meter, free := free } := by
  have hfold : ∀ (l : List Nat) (v : State), v.runs .board = false →
      ∃ meter free, l.foldl channelSecond v = { v with meter := meter, free := free } := fun l => by
    induction l with
    | nil => exact fun v _ => ⟨v.meter, v.free, rfl⟩
    | cons n l ih =>
      intro v hv
      obtain ⟨meter, free, hstep⟩ := channelSecond_shape hv n
      rw [List.foldl_cons, hstep]
      exact ih { v with meter := meter, free := free } hv
  exact hfold allChannels s h

/-- The state of a SET as its own blocks' second begins. -/
theorem ticked_of_set {s : State} (hruns : s.runs .set = true) (i : SecondInputs) :
    ∃ meter free, s.ticked i =
      { s with
          stationSeconds := min 4294967295 (s.stationSeconds + 1)
          backupGood := i.backupGood
          inputs := s.inputs.take 3 ++ [i.live1, i.live2, i.live3]
          tank := { s.tank with loopValue := loopMean i.loop, loopClass := classOf (loopMean i.loop) }
          peers := s.peers.map (fun p => { p with since := min 65535 (p.since + 1) })
          line := { s.line with statusTimer := s.line.statusTimer.map (fun n => min s.image.statusEvery (n + 1)) }
          meter := meter
          free := free } := by
  have hset : s.station = .unconfigured ∨ s.image.role = some .set := .inr (runs_iff.mp hruns).2
  have hmeasure : measureLoop i.loop (senseSecond i (clockSecond i.backupGood s)) = _ := if_pos hset
  unfold State.ticked
  rw [hmeasure]
  exact meterTick_shape (by exact runs_of_set hruns)

theorem roleSecond_of_set {s : State} (hruns : s.runs .set = true) : roleSecond s = setSecond s := by
  obtain ⟨hstation, hrole⟩ := runs_iff.mp hruns
  rw [roleSecond, hstation, hrole]

/-! ## The duty controller's second -/

/-- The state of a SET as its tank monitor's second begins. -/
def State.setBase (s : State) (i : SecondInputs) : State := holdSecond (dutySecond (s.ticked i))

theorem clearCondition_absent {s : State} {c : FaultClass} (d : FaultClass) (h : s.present c = false) :
    (clearCondition s d).present c = false := by
  rw [present_of_conditions (clearCondition_effect s d).1, h]
  rfl

theorem settle_absent {s : State} {c : FaultClass} (h : s.present c = false) : (settle s).present c = false := by
  have hif : ∀ {p : Prop} [Decidable p] (v : State) (d : FaultClass), v.present c = false →
      (if p then clearCondition v d else v).present c = false := fun v d hv => by
    split
    · exact clearCondition_absent d hv
    · exact hv
  have hengine := hif (p := s.input 3 = false ∧ s.duty.runOn = false) s .engineFault h
  unfold settle
  dsimp only
  generalize (if s.input 3 = false ∧ s.duty.runOn = false then clearCondition s .engineFault else s) = t at hengine
  have hbreaker := hif (p := t.input 2 = t.duty.brkClosed) t .breaker hengine
  generalize (if t.input 2 = t.duty.brkClosed then clearCondition t .breaker else t) = u at hbreaker
  split
  · exact hbreaker
  · exact clearCondition_absent _ hbreaker

/-- A second of the duty controller takes away conditions alone. -/
theorem dutySecond_absent {s : State} {c : FaultClass} (h : s.present c = false) : (dutySecond s).present c = false := by
  unfold dutySecond
  refine settle_absent ?_
  split
  · exact clearCondition_absent _ h
  · exact h

theorem dutySecond_rested {s : State} (h : (dutyCounts s).Rested) : (dutySecond s).Rested := by
  unfold dutySecond
  refine (settle_keepsFaults _).rested ?_
  split
  · exact clearCondition_rested _ h
  · exact h

theorem dutySecond_of_none {s : State} (h : s.duty.conditions = []) : dutySecond s = dutyCounts s := by
  unfold dutySecond
  dsimp only
  have hclear : clearCondition (dutyCounts s) .overload = dutyCounts s :=
    clearCondition_of_absent (present_of_none (by exact h) _)
  rw [hclear, ite_self]
  exact settle_of_none (by exact h)

section base
variable {s : State} (hruns : s.runs .set = true) (i : SecondInputs)

theorem setBase_touches (s : State) (i : SecondInputs) : (s.ticked i).Touches actParts (s.setBase i) :=
  ((State.Touches.refl actParts (s.ticked i)).thenDutySecond).thenHoldSecond

include hruns

theorem setBase_tank :
    (s.setBase i).tank = { s.tank with loopValue := loopMean i.loop, loopClass := classOf (loopMean i.loop) } := by
  obtain ⟨meter, free, hticked⟩ := ticked_of_set hruns i
  rw [(setBase_touches s i).same .tank (by decide), hticked]

theorem setBase_image : (s.setBase i).image = s.image := by
  obtain ⟨meter, free, hticked⟩ := ticked_of_set hruns i
  rw [(setBase_touches s i).same .image (by decide), hticked]

theorem setBase_stationSeconds : (s.setBase i).stationSeconds = min 4294967295 (s.stationSeconds + 1) := by
  obtain ⟨meter, free, hticked⟩ := ticked_of_set hruns i
  rw [(setBase_touches s i).same .stationSeconds (by decide), hticked]

theorem setBase_runs : (s.setBase i).runs .set = true := by
  obtain ⟨meter, free, hticked⟩ := ticked_of_set hruns i
  have hstation : (s.setBase i).station = s.station := by
    rw [(setBase_touches s i).same .station (by decide), hticked]
  rw [State.runs, hstation, setBase_image hruns i]
  exact hruns

theorem setBase_awake (hawake : s.awake = true) : (s.setBase i).awake = true := by
  obtain ⟨meter, free, hticked⟩ := ticked_of_set hruns i
  have hmain : (s.setBase i).mainOn = s.mainOn := by
    rw [(setBase_touches s i).same .mainOn (by decide), hticked]
  have hreset : (s.setBase i).resetHeld = s.resetHeld := by
    rw [(setBase_touches s i).same .resetHeld (by decide), hticked]
  rw [State.awake, hmain, hreset]
  exact hawake

theorem setBase_delivery : (s.setBase i).delivery = s.delivery := by
  obtain ⟨meter, free, hticked⟩ := ticked_of_set hruns i
  rw [(setBase_touches s i).same .delivery (by decide), hticked]

theorem setBase_burnCl : (s.setBase i).burnCl = s.burnCl := by
  rw [State.burnCl, setBase_image hruns, setBase_tank hruns]
  rfl

theorem setBase_inletCl : (s.setBase i).inletCl = s.inletCl := by
  rw [State.inletCl, setBase_image hruns, setBase_tank hruns]
  rfl

theorem setBase_absent {c : FaultClass} (h : s.present c = false) : (s.setBase i).present c = false := by
  obtain ⟨meter, free, hticked⟩ := ticked_of_set hruns i
  refine dutySecond_absent (s := s.ticked i) ?_
  rw [hticked]
  exact h

theorem setBase_rested (h : s.duty.state = .warming ∨ s.duty.state = .ready) : (s.setBase i).Rested := by
  obtain ⟨meter, free, hticked⟩ := ticked_of_set hruns i
  have hstate : (dutyCounts (s.ticked i)).duty.state = s.duty.state := by rw [hticked]; rfl
  refine dutySecond_rested (s := s.ticked i) (fun hout => ?_)
  rw [hstate] at hout
  rcases h with h | h <;> rw [h] at hout <;> exact hout.elim (fun h => by cases h) (fun h => by cases h)

theorem setBase_of_none (h : s.duty.conditions = []) :
    s.setBase i = holdSecond (dutyCounts (s.ticked i)) := by
  obtain ⟨meter, free, hticked⟩ := ticked_of_set hruns i
  exact congrArg holdSecond (dutySecond_of_none (by rw [hticked]; exact h))

theorem exec_localSecond_of_set (hawake : s.awake = true) (hdue : takeDue s = s) :
    exec (.localSecond i) s = .next (deliverySecond (setBillSecond (tankSecond (s.setBase i)))) := by
  have hticked : (s.ticked i).runs .set = true := by
    obtain ⟨meter, free, h⟩ := ticked_of_set hruns i
    rw [h]
    exact hruns
  rw [exec_localSecond hawake hdue, roleSecond_of_set hticked]
  rfl

end base

/-! ## The loop judged (R117) -/

/-- A loop found broken, before LEVEL_LOOP is raised. -/
def State.broke (s : State) : State :=
  openHold
    { s with
        tank := { s.tank with good := false, badCause := some (causeOf s.tank.loopClass), filter := [], qualifying := 0 } }
    (causeOf s.tank.loopClass)

/-- The part of the tank that the loop and the content leave to the minute. -/
def Tank.minute (t : Tank) : Nat × List Nat × Bool × Bool × Nat := (t.minuteSeconds, t.buckets, t.empty, t.dry, t.tte)

theorem broke_awake (s : State) : s.broke.awake = s.awake := by
  unfold State.broke openHold
  dsimp only
  split <;> rfl

theorem broke_runs (s : State) : s.broke.runs .set = s.runs .set := by
  unfold State.broke openHold
  dsimp only
  split <;> rfl

theorem broke_duty (s : State) : s.broke.duty = s.duty := by
  unfold State.broke openHold
  dsimp only
  split <;> rfl

theorem broke_image (s : State) : s.broke.image = s.image := by
  unfold State.broke openHold
  dsimp only
  split <;> rfl

section judge
variable {s : State}

theorem judgeLoop_breaks (hawake : s.awake = true) (hruns : s.runs .set = true) (hgood : s.tank.good = true)
    (hbroken : s.tank.loopClass.broken = true) : judgeLoop s = settle (raiseCondition s.broke .levelLoop) := by
  have hbreaks : judgeLoop s = dutyEvent s.broke (fun u => raiseCondition u .levelLoop) := by
    unfold judgeLoop
    dsimp only
    rw [if_pos hgood, if_pos hbroken]
    rfl
  rw [hbreaks]
  exact dutyEvent_of_runs ((broke_awake s).trans hawake) ((broke_runs s).trans hruns) _

theorem judgeLoop_enters (hgood : s.tank.good = true) (hwhole : s.tank.loopClass.broken = false) :
    judgeLoop s =
      { s with
          tank := { s.tank with
            filter := enterFilter s.image s.tank.filter (filterValue s.image s.tank.loopClass s.tank.loopValue) } } := by
  unfold judgeLoop
  dsimp only
  rw [if_pos hgood, if_neg (by rw [hwhole]; decide)]

theorem judgeLoop_counts (hbad : s.tank.good = false) (hclass : s.tank.loopClass = .inRange) :
    judgeLoop s =
      { s with
          tank := { s.tank with
            qualifying := min 5 (s.tank.qualifying + 1)
            filter := enterFilter s.image s.tank.filter s.tank.loopValue
            stage := if 4 ≤ s.tank.qualifying then some .qualifying else s.tank.stage } } := by
  unfold judgeLoop
  dsimp only
  rw [if_neg (by rw [hbad]; decide), hclass]
  rfl

theorem judgeLoop_begins (hbad : s.tank.good = false) (hclass : s.tank.loopClass ≠ .inRange) :
    judgeLoop s =
      { s with
          tank := { s.tank with
            qualifying := 0, filter := []
            badCause := if s.tank.loopClass.broken then some (causeOf s.tank.loopClass) else s.tank.badCause } } := by
  unfold judgeLoop
  dsimp only
  rw [if_neg (by rw [hbad]; decide)]
  cases h : s.tank.loopClass with
  | inRange => exact absurd h hclass
  | _ => rfl

theorem raised_touches (s : State) (c : FaultClass) : s.Touches actParts (settle (raiseCondition s c)) :=
  ((State.Touches.refl actParts s).thenRaiseCondition c).thenSettle

theorem broke_minute (s : State) : s.broke.tank.minute = s.tank.minute := by
  unfold State.broke openHold
  dsimp only
  split <;> rfl

theorem judgeLoop_minute (hawake : s.awake = true) (hruns : s.runs .set = true) :
    (judgeLoop s).tank.minute = s.tank.minute := by
  cases hgood : s.tank.good with
  | true =>
    cases hbroken : s.tank.loopClass.broken with
    | true =>
      rw [judgeLoop_breaks hawake hruns hgood hbroken, (raised_touches s.broke .levelLoop).same .tank (by decide),
        broke_minute]
    | false => rw [judgeLoop_enters hgood hbroken]; rfl
  | false =>
    by_cases hclass : s.tank.loopClass = .inRange
    · rw [judgeLoop_counts hgood hclass]; rfl
    · rw [judgeLoop_begins hgood hclass]; rfl

end judge

theorem levelLoop_reaction (i : Image) : i.reaction .levelLoop = .alarm ∨ i.reaction .levelLoop = .ignore := by
  simp only [Image.reaction, ignoreChoice]
  split
  · exact .inr rfl
  · exact .inl rfl

/-- LEVEL_LOOP alone moves no duty state. -/
theorem raised_levelLoop_state {s : State} (hnone : s.duty.conditions = []) :
    (settle (raiseCondition s .levelLoop)).duty.state = s.duty.state := by
  rw [raiseCondition_of_none hnone]
  rcases levelLoop_reaction s.image with h | h
  · obtain ⟨line, hraised⟩ := raiseEntry_shape { s with duty := { s.duty with conditions := [.levelLoop] } } .levelLoop
      true (.faultRaised .levelLoop s.duty.state)
    rw [raiseOnly_eq hnone (by rw [h]; decide), hraised]
    generalize hu : ({ s with duty := _, line := line, records := _ } : State) = u
    have hone : u.duty.conditions = [.levelLoop] := by rw [← hu]
    rw [actReaction_alarm hone (.inl (by rw [← hu]; exact h)), settle_of_untied hone (by decide), ← hu]
  · rw [raiseOnly_ignored hnone h]
    generalize hu : ({ s with duty := _ } : State) = u
    have hone : u.duty.conditions = [.levelLoop] := by rw [← hu]
    rw [actReaction_alarm hone (.inr (by rw [← hu]; exact h)), settle_of_untied hone (by decide), ← hu]

section judge
variable {s : State} (hawake : s.awake = true) (hruns : s.runs .set = true)
include hawake hruns

/-- Beyond the tank a loop that is not found broken changes nothing. -/
theorem judgeLoop_duty : (judgeLoop s).duty = s.duty ∨
    (judgeLoop s = settle (raiseCondition s.broke .levelLoop)) := by
  cases hgood : s.tank.good with
  | true =>
    cases hbroken : s.tank.loopClass.broken with
    | true => exact .inr (judgeLoop_breaks hawake hruns hgood hbroken)
    | false => rw [judgeLoop_enters hgood hbroken]; exact .inl rfl
  | false =>
    by_cases hclass : s.tank.loopClass = .inRange
    · rw [judgeLoop_counts hgood hclass]; exact .inl rfl
    · rw [judgeLoop_begins hgood hclass]; exact .inl rfl

theorem judgeLoop_state (hnone : s.duty.conditions = []) : (judgeLoop s).duty.state = s.duty.state := by
  rcases judgeLoop_duty hawake hruns with h | h
  · rw [h]
  · rw [h, raised_levelLoop_state (by rw [broke_duty]; exact hnone), broke_duty]

theorem judgeLoop_rested (h : s.Rested) : (judgeLoop s).Rested := by
  rcases judgeLoop_duty hawake hruns with hduty | hduty
  · rw [State.Rested, hduty]
    exact h
  · rw [hduty]
    refine (settle_keepsFaults _).rested (raiseCondition_rested _ ?_)
    rw [State.Rested, broke_duty]
    exact h

end judge

/-! ## Content and minute -/

theorem formContent_duty (s : State) : (formContent s).duty = s.duty := by
  unfold formContent
  split
  case h_7 =>
    unfold matchSecond
    dsimp only
    repeat' split
    all_goals rfl
  all_goals rfl

theorem formContent_minute (s : State) : (formContent s).tank.minute = s.tank.minute := by
  unfold formContent
  split
  case h_7 =>
    unfold matchSecond
    dsimp only
    repeat' split
    all_goals rfl
  all_goals rfl

/-- The state once the content of the second is formed. -/
def State.contented (s : State) : State := formContent (formLive s)

theorem contented_touches (s : State) : s.Touches tankParts s.contented :=
  ((State.Touches.refl tankParts s).setTankParts
    { s.tank with liveLevel := liveLevelOf s.image s.tank, liveContent := liveContentOf s.image s.tank }
    s.delivery).thenFormContent

theorem contented_duty (s : State) : s.contented.duty = s.duty := formContent_duty _

theorem contented_minute (s : State) : s.contented.tank.minute = s.tank.minute := formContent_minute _

/-- A second further into the minute. -/
def State.later (s : State) : State := { s with tank := { s.tank with minuteSeconds := s.tank.minuteSeconds + 1 } }

theorem later_keeps (s : State) : s.later.image = s.image ∧ s.later.awake = s.awake ∧
    s.later.runs .set = s.runs .set := ⟨rfl, rfl, rfl⟩

theorem minuteSecond_within {s : State} (h : s.tank.minuteSeconds < 59) : minuteSecond s = finishTank s.later :=
  if_neg (by omega)

theorem tankParts_keep {s t : State} (h : s.Touches tankParts t) :
    t.image = s.image ∧ t.awake = s.awake ∧ t.runs .set = s.runs .set := by
  have himage := h.same .image (by decide)
  have hstation : t.station = s.station := h.same .station (by decide)
  have hmain : t.mainOn = s.mainOn := h.same .mainOn (by decide)
  have hreset : t.resetHeld = s.resetHeld := h.same .resetHeld (by decide)
  exact ⟨himage, by rw [State.awake, State.awake, hmain, hreset], by rw [State.runs, State.runs, hstation, himage]⟩

/-- A tank second that leaves nothing to come passes on to the minute. -/
theorem tankSecond_within {s : State} (hawake : s.awake = true) (hruns : s.runs .set = true)
    (hseconds : s.tank.minuteSeconds < 59) (hstage : (tankSecond s).tank.stage = none) :
    tankSecond s = finishTank (judgeLoop s).contented.later := by
  have hsecond : tankSecond s = if (judgeLoop s).tank.stage = some .qualifying then judgeLoop s
      else contentOn (judgeLoop s) := rfl
  by_cases hqualifying : (judgeLoop s).tank.stage = some .qualifying
  · rw [hsecond, if_pos hqualifying, hqualifying] at hstage
    cases hstage
  · have hcontent : contentOn (judgeLoop s) = if (judgeLoop s).contented.tank.stage = some .matching then
        (judgeLoop s).contented else minuteSecond (judgeLoop s).contented := rfl
    rw [if_neg hqualifying, hcontent] at hsecond
    by_cases hmatching : (judgeLoop s).contented.tank.stage = some .matching
    · rw [hsecond, if_pos hmatching, hmatching] at hstage
      cases hstage
    · have hminute : (judgeLoop s).contented.tank.minute = s.tank.minute :=
        (contented_minute _).trans (judgeLoop_minute hawake hruns)
      have hwithin : (judgeLoop s).contented.tank.minuteSeconds < 59 := by
        rw [show (judgeLoop s).contented.tank.minuteSeconds = s.tank.minuteSeconds from congrArg Prod.fst hminute]
        exact hseconds
      rw [hsecond, if_neg hmatching, minuteSecond_within hwithin]

/-! ## A second within the minute -/

/-- The state of a SET in which a second within the minute forms TTE, empty state and dry flag. -/
def State.secondEnd (s : State) (i : SecondInputs) : State := (judgeLoop (s.setBase i)).contented.later

section within
variable {s : State} (hawake : s.awake = true) (hruns : s.runs .set = true) (i : SecondInputs)
include hawake hruns

theorem secondEnd_keeps : (s.secondEnd i).image = s.image ∧ (s.secondEnd i).awake = true ∧
    (s.secondEnd i).runs .set = true := by
  obtain ⟨hi, ha, hr⟩ := tankParts_keep (contented_touches (judgeLoop (s.setBase i)))
  obtain ⟨hi', ha', hr'⟩ := tankParts_keep ((State.Touches.refl tankParts (s.setBase i)).thenJudgeLoop)
  obtain ⟨hi2, ha2, hr2⟩ := later_keeps (judgeLoop (s.setBase i)).contented
  unfold State.secondEnd
  rw [hi2, ha2, hr2, hi, ha, hr, hi', ha', hr']
  exact ⟨setBase_image hruns i, setBase_awake hruns i hawake, setBase_runs hruns i⟩

theorem secondEnd_minute : (s.secondEnd i).tank.minute =
    (s.tank.minuteSeconds + 1, s.tank.buckets, s.tank.empty, s.tank.dry, s.tank.tte) := by
  have hminute : (judgeLoop (s.setBase i)).contented.tank.minute = s.tank.minute :=
    (contented_minute _).trans ((judgeLoop_minute (setBase_awake hruns i hawake) (setBase_runs hruns i)).trans
      ((congrArg Tank.minute (setBase_tank hruns i)).trans rfl))
  exact congrArg (fun m : Nat × List Nat × Bool × Bool × Nat => (m.1 + 1, m.2)) hminute

theorem secondEnd_state (hnone : s.duty.conditions = []) : (s.secondEnd i).duty.state = s.duty.state := by
  have hbase : (s.setBase i).duty.conditions = [] ∧ (s.setBase i).duty.state = s.duty.state := by
    obtain ⟨meter, free, hticked⟩ := ticked_of_set hruns i
    rw [setBase_of_none hruns i hnone, hticked]
    exact ⟨hnone, rfl⟩
  have hduty : (s.secondEnd i).duty = (judgeLoop (s.setBase i)).duty := contented_duty _
  rw [hduty, judgeLoop_state (setBase_awake hruns i hawake) (setBase_runs hruns i) hbase.1, hbase.2]

theorem secondEnd_rested (h : s.duty.state = .warming ∨ s.duty.state = .ready) : (s.secondEnd i).Rested := by
  have hduty : (s.secondEnd i).duty = (judgeLoop (s.setBase i)).duty := contented_duty _
  rw [State.Rested, hduty]
  exact judgeLoop_rested (setBase_awake hruns i hawake) (setBase_runs hruns i) (setBase_rested hruns i h)

/-- A second within the minute that leaves nothing to come. -/
theorem exec_localSecond_within (hdue : takeDue s = s) (hseconds : s.tank.minuteSeconds < 59) :
    ∃ t, exec (.localSecond i) s = .next t ∧ (t.tank.stage = none →
      t.tank = (finishTank (s.secondEnd i)).tank ∧ t.duty = (finishTank (s.secondEnd i)).duty) := by
  refine ⟨_, exec_localSecond_of_set hruns i hawake hdue, fun hstage => ?_⟩
  have hkept : ∀ u : State, (deliverySecond (setBillSecond u)).tank = u.tank ∧
      (deliverySecond (setBillSecond u)).duty = u.duty := fun u => ⟨rfl, rfl⟩
  rw [(hkept _).1] at hstage
  rw [(hkept _).1, (hkept _).2]
  have hbase : (s.setBase i).tank.minuteSeconds < 59 := by rw [setBase_tank hruns i]; exact hseconds
  have hsecond : tankSecond (s.setBase i) = finishTank (s.secondEnd i) :=
    tankSecond_within (setBase_awake hruns i hawake) (setBase_runs hruns i) hbase hstage
  rw [hsecond]
  exact ⟨rfl, rfl⟩

end within

/-- What a second that ends in TTE, empty state and dry flag leaves of them. -/
theorem finishTank_figures {v : State} (hawake : v.awake = true) (hruns : v.runs .set = true) :
    let t := finishTank v
    t.tank.mode = v.tank.mode ∧ t.tank.reported = v.tank.reported ∧ t.tank.buckets = v.tank.buckets ∧
      t.tank.minuteSeconds = v.tank.minuteSeconds ∧ t.tank.minuteStart = v.tank.minuteStart ∧
      t.tank.stage = v.tank.stage ∧ t.tank.tte = tteOf v ∧ t.tank.empty = emptyNow v ∧
      (v.tank.dry = true → (t.tank.dry = true ↔ t.tank.tte < v.image.dryMinutes + 15)) ∧
      (v.tank.dry = false → t.tank.dry = true → t.tank.tte < v.image.dryMinutes) ∧
      (v.tank.dry = false → v.tank.empty = t.tank.empty → v.duty.state = .ready ∨ v.duty.state = .unloading →
        (t.tank.dry = true ↔ t.tank.tte < v.image.dryMinutes)) := by
  have htank := finishTank_tank hawake hruns
  have hdry : v.judged.tank.dry = v.tank.dry := by rw [judged_tank]; rfl
  have htte : v.judged.tank.tte = tteOf v := by rw [judged_tank]; rfl
  dsimp only
  rw [htank]
  refine ⟨rfl, rfl, rfl, rfl, rfl, rfl, rfl, rfl, fun h => ?_, fun h hnow => ?_, fun h hempty hstate => ?_⟩
  · have hnext := dryNext_of_dry (s := v.judged) (hdry.trans h)
    rw [htte, judged_image] at hnext
    exact hnext
  · have hnext := (dryNext_of_not_dry (s := v.judged) (hdry.trans h)).mp hnow
    rw [htte, judged_image] at hnext
    exact hnext.1
  · have hnext := dryNext_of_not_dry (s := v.judged) (hdry.trans h)
    have hjudged : v.judged = { v with tank := v.judgedTank } := if_pos hempty.symm
    have hduty : v.judged.duty = v.duty := by rw [hjudged]
    rw [htte, judged_image, hduty] at hnext
    exact hnext.trans (and_iff_left hstate)

/-- Settles O44: the minute's end and a second within it both end in TTE, empty state and dry flag. -/
theorem minuteEndGathersTheBurn : Obligations.MinuteEndGathersTheBurn := by
  unfold Obligations.MinuteEndGathersTheBurn
  intro s hawake hruns
  refine ⟨fun hstage => ?_, fun hstage => ?_, fun i hdue hstage hseconds => ?_⟩
  · intro buckets rate above
    obtain ⟨hmode, hreported, hbuckets, hseconds, hstart, hdone, htte, hempty, hdry, -, -⟩ :=
      finishTank_figures (v := closeMinute s) hawake hruns
    obtain ⟨hunknown, hlow, hslow, hrate⟩ := tteOf_cases (closeMinute s)
    refine ⟨_, exec_minuteEnd hawake hruns hstage, hbuckets, hstart, hseconds, hdone, hreported, ?_⟩
    rw [htte, hempty]
    refine ⟨hunknown, hlow, hslow, hrate, emptyNow_iff (closeMinute s), fun hchange hsettled => ?_, ?_, fun hsame => ?_⟩
    · have hduty : (finishTank (closeMinute s)).duty = (closeMinute s).passed.duty := by
        rw [finishTank_duty (s := closeMinute s) hawake hruns, State.judged,
          if_neg (by exact fun h => hchange h.symm)]
      have hpresent : (finishTank (closeMinute s)).present .tankEmpty = emptyNow (closeMinute s) := by
        rw [State.present, hduty]
        exact passed_present (closeMinute s)
      refine ⟨by rw [hpresent], fun hnow habsent => ?_⟩
      rw [hduty]
      exact passed_lists (s := closeMinute s) hnow habsent
    · rw [← htte]
      exact hdry
    · have htells := closeMinute_tells hawake hruns hsame.symm
      rw [← htte]
      exact htells
  · exact congrArg Host.Outcome.next ((whenRuns_of_runs hawake hruns _).trans
      (if_neg (by simpa [State.stageDue] using hstage)))
  · obtain ⟨t, hexec, ht⟩ := exec_localSecond_within hawake hruns i hdue hseconds
    refine ⟨t, hexec, fun hnone => ?_⟩
    obtain ⟨htank, hduty⟩ := ht hnone
    obtain ⟨himage, ha, hr⟩ := secondEnd_keeps hawake hruns i
    have hminute := secondEnd_minute hawake hruns i
    simp only [Tank.minute, Prod.mk.injEq] at hminute
    obtain ⟨hsecondsEnd, hbucketsEnd, hemptyEnd, hdryEnd, -⟩ := hminute
    obtain ⟨hmode, hreported, hbuckets, hsecond, -, -, htte, hempty, hdry, hfalls, hready⟩ := finishTank_figures ha hr
    obtain ⟨hunknown, hlow, hslow, hrate⟩ := tteOf_cases (s.secondEnd i)
    rw [himage] at hdry hfalls hready hlow hslow hrate
    rw [hbucketsEnd] at hslow hrate
    rw [hdryEnd] at hdry hfalls hready
    rw [htank, hduty, hmode, hreported, hbuckets, hsecond, hsecondsEnd, hbucketsEnd]
    refine ⟨rfl, rfl, ?_⟩
    have hemptyIff := emptyNow_iff (s.secondEnd i)
    rw [himage] at hemptyIff
    refine ⟨fun h => htte.trans (hunknown h), fun h1 h2 => htte.trans (hlow h1 h2),
      fun h1 h2 h3 => htte.trans (hslow h1 h2 h3), fun h1 h2 h3 h4 => htte.trans (hrate h1 h2 h3 h4),
      by rw [hempty]; exact hemptyIff, hdry, hfalls, fun h1 h2 h3 h4 => ?_, fun hstate hout => ?_⟩
    · refine hready h1 (hemptyEnd.trans h3) ?_
      rw [secondEnd_state hawake hruns i h2]
      exact h4
    · have hrested := finishTank_rested ha hr (secondEnd_rested hawake hruns i hstate)
      exact hrested hout

end Sys2Proof.Machine
end

section
/-! PROOFS. The loop, its recovery, and the content that a SET reports (O43). -/
set_option Elab.async false

namespace Sys2Proof.Machine

/-! ## The strapping table (R120) -/

theorem volumeAt_past {level : Nat} {p q : StrapPoint} {rest : List StrapPoint} (h : q.level ≤ level)
    (hp : p.level ≤ level) : volumeAt level (p :: q :: rest) = volumeAt level (q :: rest) := by
  rw [volumeAt, if_neg (by omega), if_neg (by omega)]

/-- Points below the level do not count. -/
theorem volumeAt_skip {level : Nat} {p : StrapPoint} {after : List StrapPoint} (hp : p.level ≤ level) :
    ∀ before : List StrapPoint, (before ++ p :: after).Pairwise (fun p q => p.level < q.level) →
      volumeAt level (before ++ p :: after) = volumeAt level (p :: after)
  | [], _ => rfl
  | b :: before, hasc => by
    obtain ⟨hb, hrest⟩ := List.pairwise_cons.mp hasc
    have hbelow : b.level < p.level := hb p (List.mem_append_right _ (List.mem_cons_self ..))
    have hstep : volumeAt level (b :: (before ++ p :: after)) = volumeAt level (before ++ p :: after) := by
      cases before with
      | nil => exact volumeAt_past hp (by omega)
      | cons c before =>
        have hc : c.level < p.level :=
          (List.pairwise_cons.mp hrest).1 p (List.mem_append_right _ (List.mem_cons_self ..))
        exact volumeAt_past (by omega) (by omega)
    exact hstep.trans (volumeAt_skip hp before hrest)

theorem volumeAt_between {level : Nat} {before after : List StrapPoint} {p q : StrapPoint}
    (hasc : (before ++ p :: q :: after).Pairwise (fun p q => p.level < q.level)) (hp : p.level ≤ level)
    (hq : level < q.level) :
    volumeAt level (before ++ p :: q :: after) =
      p.volume + (level - p.level) * (q.volume - p.volume) / (q.level - p.level) := by
  rw [volumeAt_skip hp before hasc, volumeAt, if_neg (by omega), if_pos hq]

theorem volumeAt_below {level : Nat} {after : List StrapPoint} {p : StrapPoint}
    (hasc : (p :: after).Pairwise (fun p q => p.level < q.level)) (hp : level ≤ p.level) :
    volumeAt level (p :: after) = p.volume := by
  cases after with
  | nil => rfl
  | cons q after =>
    have hq : p.level < q.level := (List.pairwise_cons.mp hasc).1 q (List.mem_cons_self ..)
    rw [volumeAt]
    by_cases hlow : level < p.level
    · rw [if_pos hlow]
    · rw [if_neg hlow, if_pos (by omega), show level - p.level = 0 by omega, Nat.zero_mul, Nat.zero_div, Nat.add_zero]

/-! ## What the parts of the second keep of the tank -/

theorem raiseCondition_absent {s : State} {c d : FaultClass} (h : s.present c = false) (hne : c ≠ d) :
    (raiseCondition s d).present c = false := by
  cases hd : s.present d with
  | true => rw [raiseCondition_of_present hd, h]
  | false =>
    obtain ⟨u, -, -, hconditions, -, hmoves⟩ := raiseCondition_shape hd
    have hc : c ∉ s.duty.conditions := fun hc => by rw [State.present, List.contains_iff_mem.mpr hc] at h; cases h
    refine Bool.eq_false_iff.mpr (fun hp => ?_)
    rw [State.present, hmoves.conditions, hconditions, List.contains_iff_mem] at hp
    rcases List.mem_append.mp hp with hp | hp
    · exact hc hp
    · exact hne (List.mem_singleton.mp hp)

theorem passed_absent {s : State} {c : FaultClass} (h : s.present c = false) (hne : c ≠ .tankEmpty) :
    s.passed.present c = false := by
  unfold State.passed
  refine settle_absent ?_
  split
  · exact raiseCondition_absent (s := { s with tank := s.judgedTank }) h hne
  · exact clearCondition_absent (s := { s with tank := s.judgedTank }) _ h

/-- What the loop leaves in the tank. -/
def Tank.loop (t : Tank) : Nat × Bool × Option BadCause × Nat × List Nat :=
  (t.loopValue, t.good, t.badCause, t.qualifying, t.filter)

/-- What the content leaves in the tank. -/
def Tank.content (t : Tank) : Option Nat × Option Nat × ContentMode × Option Hold × Nat × Nat :=
  (t.liveLevel, t.liveContent, t.mode, t.hold, t.matching, t.reported)

theorem contented_loop (s : State) : s.contented.tank.loop = s.tank.loop := by
  unfold State.contented formContent
  split
  case h_7 =>
    unfold matchSecond
    dsimp only
    repeat' split
    all_goals rfl
  all_goals rfl

/-- The live figures are formed first and stay. -/
theorem contented_lights (s : State) : s.contented.tank.liveLevel = liveLevelOf s.image s.tank ∧
    s.contented.tank.liveContent = liveContentOf s.image s.tank := by
  unfold State.contented formContent
  split
  case h_7 =>
    unfold matchSecond
    dsimp only
    repeat' split
    all_goals exact ⟨rfl, rfl⟩
  all_goals exact ⟨rfl, rfl⟩

/-- Forming the content leaves what is to come, or leaves MATCHING_EXPIRY to come. -/
theorem contented_stage (s : State) : s.contented.tank.stage = s.tank.stage ∨ s.contented.tank.stage = some .matching := by
  unfold State.contented formContent
  split
  case h_7 =>
    unfold matchSecond
    dsimp only
    split
    · split
      · exact .inl rfl
      · split
        · exact .inl rfl
        · exact .inr rfl
    · exact .inl rfl
  all_goals exact .inl rfl

section minute
variable {s : State} (hawake : s.awake = true) (hruns : s.runs .set = true)
include hawake hruns

theorem minuteSecond_keeps : (minuteSecond s).tank.loop = s.tank.loop ∧ (minuteSecond s).tank.content = s.tank.content ∧
    ((minuteSecond s).tank.stage = s.tank.stage ∨ (minuteSecond s).tank.stage = some .minute) := by
  by_cases hend : 59 ≤ s.tank.minuteSeconds
  · rw [show minuteSecond s = _ from if_pos hend]
    exact ⟨rfl, rfl, .inr rfl⟩
  · rw [minuteSecond_within (by omega), finishTank_tank (s := s.later) hawake hruns]
    exact ⟨rfl, rfl, .inl rfl⟩

/-- LEVEL_LOOP and its entry stand through the minute's part of a second. -/
theorem minuteSecond_levelLoop (h : s.present .levelLoop = true) : (minuteSecond s).present .levelLoop = true := by
  by_cases hend : 59 ≤ s.tank.minuteSeconds
  · rw [show minuteSecond s = _ from if_pos hend]
    exact h
  · rw [minuteSecond_within (by omega), State.present, finishTank_duty (s := s.later) hawake hruns, State.judged]
    split
    · exact h
    · exact passed_present_of (s := s.later) h (by decide) ⟨by decide, by decide, by decide⟩

theorem minuteSecond_entry {e : FaultEntry} (he : e ∈ s.duty.faults) (hclass : e.cls = .levelLoop)
    (hpresent : e.present = true) : e ∈ (minuteSecond s).duty.faults := by
  by_cases hend : 59 ≤ s.tank.minuteSeconds
  · rw [show minuteSecond s = _ from if_pos hend]
    exact he
  · rw [minuteSecond_within (by omega), finishTank_duty (s := s.later) hawake hruns, State.judged]
    split
    · exact he
    · exact passed_keeps (s := s.later) he (by rw [hclass]; decide)
        (by rw [hclass]; exact ⟨by decide, by decide, by decide⟩) hpresent

theorem minuteSecond_absent (h : s.present .levelLoop = false) : (minuteSecond s).present .levelLoop = false := by
  by_cases hend : 59 ≤ s.tank.minuteSeconds
  · rw [show minuteSecond s = _ from if_pos hend]
    exact h
  · rw [minuteSecond_within (by omega), State.present, finishTank_duty (s := s.later) hawake hruns, State.judged]
    split
    · exact h
    · exact passed_absent (s := s.later) h (by decide)

end minute

section content
variable {s : State} (hawake : s.awake = true) (hruns : s.runs .set = true)
include hawake hruns

omit hawake hruns in
theorem contentOn_eq (s : State) : contentOn s =
    if s.contented.tank.stage = some .matching then s.contented else minuteSecond s.contented := rfl

theorem contentOn_keeps : (contentOn s).tank.loop = s.tank.loop ∧ (contentOn s).tank.content = s.contented.tank.content := by
  obtain ⟨-, ha, hr⟩ := tankParts_keep (contented_touches s)
  obtain ⟨hloop, hcontent, -⟩ := minuteSecond_keeps (ha.trans hawake) (hr.trans hruns)
  rw [contentOn_eq]
  split
  · exact ⟨contented_loop s, rfl⟩
  · exact ⟨hloop.trans (contented_loop s), hcontent⟩

theorem contentOn_stage : (contentOn s).tank.stage = s.tank.stage ∨ (contentOn s).tank.stage = some .matching ∨
    (contentOn s).tank.stage = some .minute := by
  obtain ⟨-, ha, hr⟩ := tankParts_keep (contented_touches s)
  obtain ⟨-, -, hstage⟩ := minuteSecond_keeps (ha.trans hawake) (hr.trans hruns)
  rw [contentOn_eq]
  split
  · next h => exact .inr (.inl h)
  · rcases hstage with h | h
    · rw [h]
      exact (contented_stage s).imp_right .inl
    · exact .inr (.inr h)

theorem contentOn_levelLoop (h : s.present .levelLoop = true) : (contentOn s).present .levelLoop = true := by
  obtain ⟨-, ha, hr⟩ := tankParts_keep (contented_touches s)
  have hcontent : s.contented.present .levelLoop = true := by rw [State.present, contented_duty]; exact h
  rw [contentOn_eq]
  split
  · exact hcontent
  · exact minuteSecond_levelLoop (ha.trans hawake) (hr.trans hruns) hcontent

theorem contentOn_entry {e : FaultEntry} (he : e ∈ s.duty.faults) (hclass : e.cls = .levelLoop)
    (hpresent : e.present = true) : e ∈ (contentOn s).duty.faults := by
  obtain ⟨-, ha, hr⟩ := tankParts_keep (contented_touches s)
  have hcontent : e ∈ s.contented.duty.faults := by rw [contented_duty]; exact he
  rw [contentOn_eq]
  split
  · exact hcontent
  · exact minuteSecond_entry (ha.trans hawake) (hr.trans hruns) hcontent hclass hpresent

theorem contentOn_absent (h : s.present .levelLoop = false) : (contentOn s).present .levelLoop = false := by
  obtain ⟨-, ha, hr⟩ := tankParts_keep (contented_touches s)
  have hcontent : s.contented.present .levelLoop = false := by rw [State.present, contented_duty]; exact h
  rw [contentOn_eq]
  split
  · exact hcontent
  · exact minuteSecond_absent (ha.trans hawake) (hr.trans hruns) hcontent

end content

/-! ## The content of a second (R123 to R125) -/

section unlit
variable {s : State} (hgood : s.tank.good = false)
include hgood

theorem formLive_unlit : formLive s = { s with tank := { s.tank with liveLevel := none, liveContent := none } } := by
  simp [formLive, liveLevelOf, liveContentOf, hgood]

theorem contented_unknown_unlit (hmode : s.tank.mode = .unknown) :
    s.contented.tank.content = (none, none, .unknown, s.tank.hold, s.tank.matching, s.tank.reported) := by
  rw [State.contented, formLive_unlit hgood]
  simp [formContent, hmode, Tank.content]

theorem contented_held_unlit {x : Hold} (hmode : s.tank.mode = .held) (hhold : s.tank.hold = some x) :
    s.contented.tank.content = (none, none, .held, some x, s.tank.matching, reckon s x) := by
  rw [State.contented, formLive_unlit hgood]
  simp only [formContent, hmode, hhold, Tank.content]
  rfl

end unlit

section lit
variable {s : State} {avg : Nat} (hgood : s.tank.good = true) (havg : s.tank.filterAverage = some avg)
include hgood havg

theorem formLive_lit : formLive s =
    { s with
        tank := { s.tank with
          liveLevel := some (levelOf s.image avg)
          liveContent := some (volumeAt (levelOf s.image avg) s.image.table) } } := by
  simp [formLive, liveLevelOf, liveContentOf, hgood, havg]

theorem contented_unknown_lit (hmode : s.tank.mode = .unknown) :
    let v := volumeAt (levelOf s.image avg) s.image.table
    s.contented.tank.content = (some (levelOf s.image avg), some v, .live, none, s.tank.matching, v) := by
  rw [State.contented, formLive_lit hgood havg]
  simp only [formContent, hmode, adoptLive, Tank.content]

theorem contented_live_lit (hmode : s.tank.mode = .live) :
    let v := volumeAt (levelOf s.image avg) s.image.table
    s.contented.tank.content = (some (levelOf s.image avg), some v, .live, s.tank.hold, s.tank.matching, v) := by
  rw [State.contented, formLive_lit hgood havg]
  simp only [formContent, hmode, Tank.content]

section matching
variable {x : Hold} (hmode : s.tank.mode = .matching) (hhold : s.tank.hold = some x)
include hmode hhold

theorem contented_matching_lit : s.contented = matchSecond (formLive s) x := by
  rw [State.contented, formLive_lit hgood havg]
  simp only [formContent, hmode, hhold]

theorem contented_captured
    (hband : absDiff (volumeAt (levelOf s.image avg) s.image.table) (reckon s x) ≤ s.image.band) :
    let v := volumeAt (levelOf s.image avg) s.image.table
    s.contented.tank.content = (some (levelOf s.image avg), some v, .live, none, s.tank.matching, v) := by
  rw [contented_matching_lit hgood havg hmode hhold, formLive_lit hgood havg, matchSecond]
  dsimp only
  rw [if_pos (by exact hband)]
  rfl

theorem contented_apart
    (hband : s.image.band < absDiff (volumeAt (levelOf s.image avg) s.image.table) (reckon s x))
    (hcount : s.tank.matching < 120) :
    let v := volumeAt (levelOf s.image avg) s.image.table
    s.contented.tank.content =
      (some (levelOf s.image avg), some v, .matching, some x, s.tank.matching + 1, reckon s x) := by
  rw [contented_matching_lit hgood havg hmode hhold, formLive_lit hgood havg, matchSecond]
  dsimp only
  rw [if_neg (by exact Nat.not_le.mpr hband), if_pos (by exact hcount)]
  simp only [Tank.content, hmode, hhold]
  rfl

theorem contented_unmatched
    (hband : s.image.band < absDiff (volumeAt (levelOf s.image avg) s.image.table) (reckon s x))
    (hcount : 120 ≤ s.tank.matching) :
    s.contented.tank.stage = some .matching ∧ s.contented.tank.reported = reckon s x := by
  rw [contented_matching_lit hgood havg hmode hhold, formLive_lit hgood havg, matchSecond]
  dsimp only
  rw [if_neg (by exact Nat.not_le.mpr hband), if_neg (by exact Nat.not_lt.mpr hcount)]
  exact ⟨rfl, rfl⟩

end matching
end lit

/-- What is reckoned depends on the pulses and the image alone. -/
theorem reckon_of_same {s t : State} (himage : t.image = s.image) (hburn : t.burnCl = s.burnCl)
    (hinlet : t.inletCl = s.inletCl) (x : Hold) : reckon t x = reckon s x := by
  rw [reckon, reckon, himage, hburn, hinlet]

theorem filterAverage_of_some {t : Tank} (h : t.filter ≠ []) :
    t.filterAverage = some (sumOf t.filter / t.filter.length) := if_neg h

/-! ## The class of a loop second (R116) -/

theorem broken_iff (value : Nat) : (classOf value).broken = true ↔ value < 2000 ∨ 22000 < value := by
  unfold classOf
  split
  · simp [LoopClass.broken]; omega
  split
  · simp [LoopClass.broken]; omega
  split
  · simp [LoopClass.broken]; omega
  split <;> simp [LoopClass.broken] <;> omega

theorem inRange_iff (value : Nat) : classOf value = .inRange ↔ 3600 ≤ value ∧ value ≤ 20500 := by
  unfold classOf
  split
  · simp; omega
  split
  · simp; omega
  split
  · simp; omega
  split <;> simp <;> omega

theorem causeOf_class {value : Nat} (h : value < 2000 ∨ 22000 < value) :
    causeOf (classOf value) = if 22000 < value then .fault else .opened := by
  rcases h with h | h
  · have hclass : classOf value = .opened := if_pos h
    rw [hclass, if_neg (by omega)]
    rfl
  · have hclass : classOf value = .fault := by
      unfold classOf
      rw [if_neg (by omega), if_neg (by omega), if_neg (by omega), if_neg (by omega)]
    rw [hclass, if_pos h]
    rfl

theorem filterValue_class (i : Image) {value : Nat} (h : ¬ (value < 2000 ∨ 22000 < value)) :
    filterValue i (classOf value) value =
      if value < 3600 then i.calLow else if 20500 < value then i.calHigh else value := by
  unfold classOf
  rw [if_neg (by omega)]
  by_cases hunder : value < 3600
  · rw [if_pos hunder, if_pos hunder]; rfl
  · rw [if_neg hunder, if_neg hunder]
    by_cases hin : value ≤ 20500
    · rw [if_pos hin, if_neg (by omega)]; rfl
    · rw [if_neg hin, if_pos (by omega), if_pos (by omega)]; rfl

theorem enterFilter_eq (i : Image) (l : List Nat) (v : Nat) :
    enterFilter i l v = (l ++ [v]).drop (l.length + 1 - i.filterLength) := by
  rw [enterFilter, lastOf, List.length_append]
  rfl

/-! ## A loop found broken (R117, R124) -/

section broke
variable (s : State)

theorem broke_loop : s.broke.tank.loop =
    (s.tank.loopValue, false, some (causeOf s.tank.loopClass), 0, []) := by
  unfold State.broke openHold
  dsimp only
  split <;> rfl

theorem broke_stage : s.broke.tank.stage = s.tank.stage := by
  unfold State.broke openHold
  dsimp only
  split <;> rfl

theorem broke_figures : s.broke.burnCl = s.burnCl ∧ s.broke.inletCl = s.inletCl ∧
    s.broke.tank.reported = s.tank.reported := by
  unfold State.broke openHold
  dsimp only
  split <;> exact ⟨rfl, rfl, rfl⟩

variable {s}

theorem broke_unknown (h : s.tank.mode = .unknown) : s.broke.tank.mode = .unknown := by
  unfold State.broke openHold
  dsimp only
  rw [h]

theorem broke_live (h : s.tank.mode = .live) : s.broke.tank.mode = .held ∧ s.broke.tank.hold = some
    { content := s.tank.reported, burn := s.burnCl, inlet := s.inletCl, start := s.stationSeconds
      cause := causeOf s.tank.loopClass } := by
  unfold State.broke openHold
  dsimp only
  rw [h]
  exact ⟨rfl, rfl⟩

theorem broke_matching (h : s.tank.mode = .matching) :
    s.broke.tank.mode = .held ∧ s.broke.tank.hold = s.tank.hold := by
  unfold State.broke openHold
  dsimp only
  rw [h]
  exact ⟨rfl, rfl⟩

end broke

/-! ## The second of the loop (R116 to R125) -/

section second
variable {s : State} (hawake : s.awake = true) (hruns : s.runs .set = true)
include hawake hruns

omit hawake hruns in
theorem tankSecond_eq (s : State) : tankSecond s =
    if (judgeLoop s).tank.stage = some .qualifying then judgeLoop s else contentOn (judgeLoop s) := rfl

theorem judgeLoop_awake : (judgeLoop s).awake = true ∧ (judgeLoop s).runs .set = true ∧ (judgeLoop s).image = s.image ∧
    (judgeLoop s).stationSeconds = s.stationSeconds := by
  have htouches := (State.Touches.refl tankParts s).thenJudgeLoop
  obtain ⟨himage, ha, hr⟩ := tankParts_keep htouches
  exact ⟨ha.trans hawake, hr.trans hruns, himage, htouches.same .stationSeconds (by decide)⟩

theorem judgeLoop_value : (judgeLoop s).tank.loopValue = s.tank.loopValue := by
  cases hgood : s.tank.good with
  | true =>
    cases hbroken : s.tank.loopClass.broken with
    | true =>
      rw [judgeLoop_breaks hawake hruns hgood hbroken, (raised_touches s.broke .levelLoop).same .tank (by decide)]
      exact congrArg (fun l => l.1) (broke_loop s)
    | false => rw [judgeLoop_enters hgood hbroken]
  | false =>
    by_cases hclass : s.tank.loopClass = .inRange
    · rw [judgeLoop_counts hgood hclass]
    · rw [judgeLoop_begins hgood hclass]

theorem tankSecond_loop : (tankSecond s).tank.loop = (judgeLoop s).tank.loop := by
  obtain ⟨ha, hr, -, -⟩ := judgeLoop_awake hawake hruns
  rw [tankSecond_eq]
  split
  · rfl
  · exact (contentOn_keeps ha hr).1

theorem tankSecond_content (h : (judgeLoop s).tank.stage ≠ some .qualifying) :
    (tankSecond s).tank.content = (judgeLoop s).contented.tank.content := by
  obtain ⟨ha, hr, -, -⟩ := judgeLoop_awake hawake hruns
  rw [tankSecond_eq, if_neg h]
  exact (contentOn_keeps ha hr).2

section breaks
variable (hgood : s.tank.good = true) (hbroken : s.tank.loopClass.broken = true) (hstage : s.tank.stage = none)
include hgood hbroken

theorem judgeLoop_breaks_tank : (judgeLoop s).tank = s.broke.tank := by
  rw [judgeLoop_breaks hawake hruns hgood hbroken]
  exact (raised_touches s.broke .levelLoop).same .tank (by decide)

theorem tankSecond_breaks_loop :
    (tankSecond s).tank.loop = (s.tank.loopValue, false, some (causeOf s.tank.loopClass), 0, []) := by
  rw [tankSecond_loop hawake hruns, judgeLoop_breaks_tank hawake hruns hgood hbroken, broke_loop]

include hstage

theorem judgeLoop_breaks_stage : (judgeLoop s).tank.stage ≠ some .qualifying := by
  rw [judgeLoop_breaks_tank hawake hruns hgood hbroken, broke_stage, hstage]
  exact fun h => by cases h

theorem tankSecond_breaks_lights : (tankSecond s).tank.liveLevel = none ∧ (tankSecond s).tank.liveContent = none := by
  have hcontent := tankSecond_content hawake hruns (judgeLoop_breaks_stage hawake hruns hgood hbroken hstage)
  have hunlit : (judgeLoop s).tank.good = false := by
    rw [judgeLoop_breaks_tank hawake hruns hgood hbroken]
    exact congrArg (fun l => l.2.1) (broke_loop s)
  obtain ⟨hlevel, hlive⟩ := contented_lights (judgeLoop s)
  refine ⟨(congrArg (fun c => c.1) hcontent).trans (hlevel.trans ?_),
    (congrArg (fun c => c.2.1) hcontent).trans (hlive.trans ?_)⟩
  · simp [liveLevelOf, hunlit]
  · simp [liveContentOf, liveLevelOf, hunlit]

theorem tankSecond_breaks_eq : tankSecond s = contentOn (judgeLoop s) := by
  rw [tankSecond_eq, if_neg (judgeLoop_breaks_stage hawake hruns hgood hbroken hstage)]

theorem tankSecond_breaks_unknown (hmode : s.tank.mode = .unknown) :
    (tankSecond s).tank.mode = .unknown ∧ (tankSecond s).tank.reported = s.tank.reported := by
  have htank := judgeLoop_breaks_tank hawake hruns hgood hbroken
  have hcontent := contented_unknown_unlit (s := judgeLoop s)
    (by rw [htank]; exact congrArg (fun l => l.2.1) (broke_loop s)) (by rw [htank]; exact broke_unknown hmode)
  rw [← tankSecond_content hawake hruns (judgeLoop_breaks_stage hawake hruns hgood hbroken hstage), htank,
    (broke_figures s).2.2] at hcontent
  simp only [Tank.content, Prod.mk.injEq] at hcontent
  obtain ⟨-, -, hnow, -, -, hreported⟩ := hcontent
  exact ⟨hnow, hreported⟩

theorem tankSecond_breaks_held {x : Hold} (hmode : s.broke.tank.mode = .held) (hhold : s.broke.tank.hold = some x) :
    (tankSecond s).tank.mode = .held ∧ (tankSecond s).tank.hold = some x ∧
      (tankSecond s).tank.reported = reckon s x := by
  have htank := judgeLoop_breaks_tank hawake hruns hgood hbroken
  have himage := (judgeLoop_awake hawake hruns).2.2.1
  have hburn : (judgeLoop s).burnCl = s.burnCl := by
    rw [State.burnCl, htank, himage, ← (broke_figures s).1, State.burnCl, broke_image]
  have hinlet : (judgeLoop s).inletCl = s.inletCl := by
    rw [State.inletCl, htank, himage, ← (broke_figures s).2.1, State.inletCl, broke_image]
  have hcontent := contented_held_unlit (s := judgeLoop s) (x := x)
    (by rw [htank]; exact congrArg (fun l => l.2.1) (broke_loop s)) (by rw [htank]; exact hmode)
    (by rw [htank]; exact hhold)
  rw [← tankSecond_content hawake hruns (judgeLoop_breaks_stage hawake hruns hgood hbroken hstage),
    reckon_of_same himage hburn hinlet] at hcontent
  simp only [Tank.content, Prod.mk.injEq] at hcontent
  obtain ⟨-, -, hnow, hheld, -, hreported⟩ := hcontent
  exact ⟨hnow, hheld, hreported⟩

theorem tankSecond_breaks_present : (tankSecond s).present .levelLoop = true := by
  obtain ⟨ha, hr, -, -⟩ := judgeLoop_awake hawake hruns
  rw [tankSecond_breaks_eq hawake hruns hgood hbroken hstage]
  refine contentOn_levelLoop ha hr ?_
  rw [judgeLoop_breaks hawake hruns hgood hbroken, settle_present _ ⟨by decide, by decide, by decide⟩,
    raiseCondition_present]

theorem tankSecond_breaks_lists (habsent : s.present .levelLoop = false)
    (hreaction : s.image.reaction .levelLoop ≠ .ignore) :
    ∃ e ∈ (tankSecond s).duty.faults, e.cls = .levelLoop ∧ e.present = true ∧ e.raisedAt = s.stationSeconds := by
  obtain ⟨ha, hr, -, -⟩ := judgeLoop_awake hawake hruns
  have hnow : s.broke.stationSeconds = s.stationSeconds := by
    unfold State.broke openHold
    dsimp only
    split <;> rfl
  obtain ⟨e, he, hclass, hpresent, hat⟩ := raiseCondition_lists (s := s.broke) (c := .levelLoop)
    (by rw [State.present, broke_duty]; exact habsent) (by rw [broke_image]; exact hreaction)
  refine ⟨e, ?_, hclass, hpresent, hat.trans hnow⟩
  rw [tankSecond_breaks_eq hawake hruns hgood hbroken hstage]
  refine contentOn_entry ha hr ?_ hclass hpresent
  rw [judgeLoop_breaks hawake hruns hgood hbroken]
  exact (settle_keepsFaults _).entries e he (by rw [hclass]; exact ⟨by decide, by decide, by decide⟩) hpresent

end breaks

/-- A GOOD loop whose second has entered the filter. -/
def State.entered (s : State) : State :=
  { s with
      tank := { s.tank with
        filter := enterFilter s.image s.tank.filter (filterValue s.image s.tank.loopClass s.tank.loopValue) } }

section enters
variable (hgood : s.tank.good = true) (hwhole : s.tank.loopClass.broken = false)
include hgood hwhole

theorem tankSecond_enters_loop : (tankSecond s).tank.loop =
    (s.tank.loopValue, true, s.tank.badCause, s.tank.qualifying, s.entered.tank.filter) := by
  rw [tankSecond_loop hawake hruns, judgeLoop_enters hgood hwhole, ← hgood]
  rfl

variable (hstage : s.tank.stage = none)
include hstage

omit hawake hruns in
theorem tankSecond_enters_eq : tankSecond s = contentOn s.entered := by
  rw [tankSecond_eq, judgeLoop_enters hgood hwhole, if_neg]
  · rfl
  · exact fun h => by rw [show s.tank.stage = some .qualifying from h] at hstage; cases hstage

theorem tankSecond_enters_content : (tankSecond s).tank.content = s.entered.contented.tank.content := by
  rw [tankSecond_enters_eq hgood hwhole hstage]
  exact (contentOn_keeps (s := s.entered) hawake hruns).2

omit hawake hruns in
/-- A hold that the live content has missed to the last leaves MATCHING_EXPIRY to come. -/
theorem tankSecond_unmatched {x : Hold} (hmatching : s.entered.contented.tank.stage = some .matching)
    (hreported : s.entered.contented.tank.reported = reckon s.entered x) :
    (tankSecond s).tank.stage = some .matching ∧ (tankSecond s).tank.reported = reckon s x := by
  rw [tankSecond_enters_eq hgood hwhole hstage, contentOn_eq, if_pos hmatching]
  exact ⟨hmatching, hreported⟩

end enters

section bad
variable (hbad : s.tank.good = false)
include hbad

omit hawake hruns in
/-- In a BAD loop only the loop's part of the tank is judged. -/
theorem judgeLoop_bad_figures : (judgeLoop s).tank.good = false ∧ (judgeLoop s).tank.mode = s.tank.mode ∧
    (judgeLoop s).tank.hold = s.tank.hold ∧ (judgeLoop s).burnCl = s.burnCl ∧ (judgeLoop s).inletCl = s.inletCl := by
  by_cases hclass : s.tank.loopClass = .inRange
  · rw [judgeLoop_counts hbad hclass]
    exact ⟨hbad, rfl, rfl, rfl, rfl⟩
  · rw [judgeLoop_begins hbad hclass]
    exact ⟨hbad, rfl, rfl, rfl, rfl⟩

theorem tankSecond_counts (hclass : s.tank.loopClass = .inRange) :
    (tankSecond s).tank.loop = (s.tank.loopValue, false, s.tank.badCause, min 5 (s.tank.qualifying + 1),
      enterFilter s.image s.tank.filter s.tank.loopValue) ∧
    (4 ≤ s.tank.qualifying → (tankSecond s).tank.stage = some .qualifying) := by
  refine ⟨?_, fun hcount => ?_⟩
  · rw [tankSecond_loop hawake hruns, judgeLoop_counts hbad hclass, ← hbad]
    rfl
  · have hstage : (judgeLoop s).tank.stage = some .qualifying := by
      rw [judgeLoop_counts hbad hclass]
      exact if_pos hcount
    rw [tankSecond_eq, if_pos hstage]
    exact hstage

theorem tankSecond_begins (hclass : s.tank.loopClass ≠ .inRange) :
    (tankSecond s).tank.loop = (s.tank.loopValue, false,
      if s.tank.loopClass.broken then some (causeOf s.tank.loopClass) else s.tank.badCause, 0, []) := by
  rw [tankSecond_loop hawake hruns, judgeLoop_begins hbad hclass, ← hbad]
  rfl

/-- In HELD the content goes on being reckoned, unless LOOP_QUALIFIED is to come. -/
theorem tankSecond_held {x : Hold} (hstage : s.tank.stage = none)
    (hcount : s.tank.loopClass ≠ .inRange ∨ s.tank.qualifying < 4) (hmode : s.tank.mode = .held)
    (hhold : s.tank.hold = some x) :
    (tankSecond s).tank.mode = .held ∧ (tankSecond s).tank.hold = some x ∧ (tankSecond s).tank.reported = reckon s x := by
  obtain ⟨hgood, hm, hh, hburn, hinlet⟩ := judgeLoop_bad_figures hbad
  have hnot : (judgeLoop s).tank.stage ≠ some .qualifying := by
    by_cases hclass : s.tank.loopClass = .inRange
    · have hfew := hcount.resolve_left (fun h => h hclass)
      rw [judgeLoop_counts hbad hclass, if_neg (by omega), hstage]
      exact fun h => by cases h
    · rw [judgeLoop_begins hbad hclass, hstage]
      exact fun h => by cases h
  have hcontent := contented_held_unlit hgood (hm.trans hmode) (hh.trans hhold)
  rw [← tankSecond_content hawake hruns hnot, reckon_of_same (judgeLoop_awake hawake hruns).2.2.1 hburn hinlet] at hcontent
  simp only [Tank.content, Prod.mk.injEq] at hcontent
  obtain ⟨-, -, hnow, hheld, -, hreported⟩ := hcontent
  exact ⟨hnow, hheld, hreported⟩

end bad

end second

/-! ## The steps that end a bad loop and a matching (R117, R125) -/

section steps
variable {s : State} (hawake : s.awake = true) (hruns : s.runs .set = true)
include hawake hruns

/-- The tank of a loop found GOOD again. -/
def Tank.qualified (t : Tank) : Tank :=
  { t with
      stage := none, good := true, badCause := none
      mode := if t.mode = .held then .matching else t.mode
      matching := if t.mode = .held then 0 else t.matching }

theorem qualify_eq : qualify s = settle (clearCondition { s with tank := s.tank.qualified } .levelLoop) :=
  dutyEvent_of_runs (s := { s with tank := s.tank.qualified }) hawake hruns _

theorem qualify_touches : ({ s with tank := s.tank.qualified } : State).Touches actParts (qualify s) := by
  rw [qualify_eq hawake hruns]
  exact ((State.Touches.refl actParts ({ s with tank := s.tank.qualified } : State)).thenClearCondition .levelLoop).thenSettle

theorem qualify_tank : (qualify s).tank = s.tank.qualified := (qualify_touches hawake hruns).same .tank (by decide)

theorem qualify_kept : (qualify s).image = s.image ∧ (qualify s).awake = true ∧ (qualify s).runs .set = true := by
  have htouches := qualify_touches hawake hruns
  have himage : (qualify s).image = s.image := htouches.same .image (by decide)
  have hstation : (qualify s).station = s.station := htouches.same .station (by decide)
  have hmain : (qualify s).mainOn = s.mainOn := htouches.same .mainOn (by decide)
  have hreset : (qualify s).resetHeld = s.resetHeld := htouches.same .resetHeld (by decide)
  exact ⟨himage, by rw [State.awake, hmain, hreset]; exact hawake, by rw [State.runs, hstation, himage]; exact hruns⟩

theorem qualify_absent : (qualify s).present .levelLoop = false := by
  rw [qualify_eq hawake hruns]
  refine settle_absent ?_
  rw [present_of_conditions (clearCondition_effect _ _).1]
  simp

theorem qualify_reckon (x : Hold) : reckon (qualify s) x = reckon s x := by
  obtain ⟨himage, -, -⟩ := qualify_kept hawake hruns
  refine reckon_of_same himage ?_ ?_ x
  · rw [State.burnCl, himage, qualify_tank hawake hruns]
    rfl
  · rw [State.inletCl, himage, qualify_tank hawake hruns]
    rfl

theorem exec_loopQualified (hstage : s.tank.stage = some .qualifying) :
    exec .loopQualified s = .next (refreshNow (contentOn (qualify s))) :=
  congrArg Host.Outcome.next ((whenRuns_of_runs hawake hruns _).trans (if_pos (by simp [State.stageDue, hstage])))

theorem exec_loopQualified_early (hstage : s.tank.stage ≠ some .qualifying) : exec .loopQualified s = .next s :=
  congrArg Host.Outcome.next ((whenRuns_of_runs hawake hruns _).trans (if_neg (by simpa [State.stageDue] using hstage)))

theorem exec_matching (hstage : s.tank.stage = some .matching) :
    exec .matchingExpiry s =
      .next (refreshNow (minuteSecond { levelStep s with tank := { (levelStep s).tank with stage := none } })) :=
  congrArg Host.Outcome.next ((whenRuns_of_runs hawake hruns _).trans (if_pos (by simp [State.stageDue, hstage])))

theorem exec_matching_early (hstage : s.tank.stage ≠ some .matching) : exec .matchingExpiry s = .next s :=
  congrArg Host.Outcome.next ((whenRuns_of_runs hawake hruns _).trans (if_neg (by simpa [State.stageDue] using hstage)))

/-- The live content met or missed as matching begins. -/
theorem qualified_content {x : Hold} {avg : Nat} (hmode : s.tank.mode = .held) (hhold : s.tank.hold = some x)
    (havg : s.tank.filterAverage = some avg) :
    let live := volumeAt (levelOf s.image avg) s.image.table
    let t := (contentOn (qualify s)).tank
    (absDiff live (reckon s x) ≤ s.image.band → t.mode = .live ∧ t.reported = live ∧ t.hold = none) ∧
    (s.image.band < absDiff live (reckon s x) →
      t.mode = .matching ∧ t.matching = 1 ∧ t.reported = reckon s x ∧ t.hold = some x) := by
  obtain ⟨himage, ha, hr⟩ := qualify_kept hawake hruns
  have htank := qualify_tank hawake hruns
  have hgood : (qualify s).tank.good = true := by rw [htank]; rfl
  have havg' : (qualify s).tank.filterAverage = some avg := by rw [htank]; exact havg
  have hmode' : (qualify s).tank.mode = .matching := by rw [htank]; exact if_pos hmode
  have hmatching : (qualify s).tank.matching = 0 := by rw [htank]; exact if_pos hmode
  have hhold' : (qualify s).tank.hold = some x := by rw [htank]; exact hhold
  have hkept := (contentOn_keeps ha hr).2
  have hcaptured := contented_captured hgood havg' hmode' hhold'
  have hapart := contented_apart hgood havg' hmode' hhold'
  simp only [himage, qualify_reckon hawake hruns, hmatching] at hcaptured hapart
  intro live t
  refine ⟨fun hband => ?_, fun hband => ?_⟩
  · have htuple := hkept.trans (hcaptured hband)
    simp only [Tank.content, Prod.mk.injEq] at htuple
    obtain ⟨-, -, hnow, hheld, -, hreported⟩ := htuple
    exact ⟨hnow, hreported, hheld⟩
  · have htuple := hkept.trans (hapart hband (by decide))
    simp only [Tank.content, Prod.mk.injEq] at htuple
    obtain ⟨-, -, hnow, hheld, hcount, hreported⟩ := htuple
    exact ⟨hnow, hcount, hreported, hheld⟩

end steps

/-! ## The second of LOCAL_SECOND -/

theorem unitSeconds_keep (u : State) : (deliverySecond (setBillSecond u)).tank = u.tank ∧
    (deliverySecond (setBillSecond u)).duty = u.duty := ⟨rfl, rfl⟩

/-- `h` is a SET as its tank monitor has its second, and `t` the station after it. -/
structure State.Second (s : State) (i : SecondInputs) (h t : State) : Prop where
  tankAfter : t.tank = (tankSecond h).tank
  dutyAfter : t.duty = (tankSecond h).duty
  awake : h.awake = true
  runs : h.runs .set = true
  image : h.image = s.image
  reckoned : ∀ x, reckon h x = reckon s x
  burnCl : h.burnCl = s.burnCl
  inletCl : h.inletCl = s.inletCl
  seconds : h.stationSeconds = min 4294967295 (s.stationSeconds + 1)
  tank : h.tank = { s.tank with loopValue := loopMean i.loop, loopClass := classOf (loopMean i.loop) }
  absent : ∀ c, s.present c = false → h.present c = false

/-- The tank and the conditions of a SET after a second are those its tank monitor leaves. -/
theorem exec_localSecond_tank {s : State} (hawake : s.awake = true) (hruns : s.runs .set = true) (hdue : takeDue s = s)
    (i : SecondInputs) : ∃ t h, exec (.localSecond i) s = .next t ∧ s.Second i h t :=
  ⟨_, s.setBase i, exec_localSecond_of_set hruns i hawake hdue,
    { tankAfter := (unitSeconds_keep _).1
      dutyAfter := (unitSeconds_keep _).2
      awake := setBase_awake hruns i hawake
      runs := setBase_runs hruns i
      image := setBase_image hruns i
      reckoned := reckon_of_same (setBase_image hruns i) (setBase_burnCl hruns i) (setBase_inletCl hruns i)
      burnCl := setBase_burnCl hruns i
      inletCl := setBase_inletCl hruns i
      seconds := setBase_stationSeconds hruns i
      tank := setBase_tank hruns i
      absent := fun _ => setBase_absent hruns i }⟩

/-- Of a fresh hold nothing has been burned or filled. -/
theorem reckon_fresh (s : State) (start : Nat) (cause : BadCause) (content : Nat) :
    reckon s { content := content, burn := s.burnCl, inlet := s.inletCl, start := start, cause := cause } =
      min s.image.fullVolume content := by
  have hzero : ∀ n, diff32 n n = 0 := fun n => by simp [diff32]
  simp [reckon, clampInt, hzero]

namespace State.Second

variable {s h t : State} {i : SecondInputs} (second : s.Second i h t)
include second

/-- The class of the second's value, as the monitor finds it. -/
theorem class_iff : (h.tank.loopClass.broken = true ↔ loopMean i.loop < 2000 ∨ 22000 < loopMean i.loop) ∧
    (h.tank.loopClass = .inRange ↔ 3600 ≤ loopMean i.loop ∧ loopMean i.loop ≤ 20500) := by
  have hclass : h.tank.loopClass = classOf (loopMean i.loop) := by rw [second.tank]
  rw [hclass]
  exact ⟨broken_iff _, inRange_iff _⟩

/-- The value is that of the second, whatever the monitor makes of it. -/
theorem value : t.tank.loopValue = loopMean i.loop := by
  have hvalue : h.tank.loopValue = loopMean i.loop := by rw [second.tank]
  rw [second.tankAfter]
  exact (congrArg (fun l : Nat × Bool × Option BadCause × Nat × List Nat => l.1)
    (tankSecond_loop second.awake second.runs)).trans ((judgeLoop_value second.awake second.runs).trans hvalue)

/-- A BAD loop counts IN_RANGE seconds up to the fifth, and any other class begins the count again (R117). -/
theorem waits (hbad : s.tank.good = false) :
    let inRange : Prop := 3600 ≤ loopMean i.loop ∧ loopMean i.loop ≤ 20500
    let broken : Prop := loopMean i.loop < 2000 ∨ 22000 < loopMean i.loop
    t.tank.good = false ∧
    (inRange → t.tank.qualifying = min 5 (s.tank.qualifying + 1) ∧
      t.tank.filter = enterFilter s.image s.tank.filter (loopMean i.loop) ∧ t.tank.badCause = s.tank.badCause ∧
      (4 ≤ s.tank.qualifying → t.tank.stage = some .qualifying)) ∧
    (¬ inRange → t.tank.qualifying = 0 ∧ t.tank.filter = [] ∧
      (broken → t.tank.badCause = some (causeOf (classOf (loopMean i.loop)))) ∧
      (¬ broken → t.tank.badCause = s.tank.badCause)) := by
  intro inRange broken
  obtain ⟨hbroken, hinRange⟩ := second.class_iff
  obtain ⟨ht, -, ha, hr, himage, -, -, -, -, htank, -⟩ := second
  have hbadh : h.tank.good = false := by rw [htank]; exact hbad
  have hclass : h.tank.loopClass = classOf (loopMean i.loop) := by rw [htank]
  have hqualh : h.tank.qualifying = s.tank.qualifying := by rw [htank]
  have hcauseh : h.tank.badCause = s.tank.badCause := by rw [htank]
  rw [ht]
  refine ⟨?_, fun hin => ?_, fun hout => ?_⟩
  · by_cases hin : h.tank.loopClass = .inRange
    · exact congrArg (fun l => l.2.1) (tankSecond_counts ha hr hbadh hin).1
    · exact congrArg (fun l => l.2.1) (tankSecond_begins ha hr hbadh hin)
  · obtain ⟨hloop, hfifth⟩ := tankSecond_counts ha hr hbadh (hinRange.mpr hin)
    simp only [Tank.loop, Prod.mk.injEq] at hloop
    obtain ⟨-, -, hcauset, hqualt, hfiltert⟩ := hloop
    refine ⟨hqualt.trans (by rw [hqualh]), hfiltert.trans ?_, hcauset.trans hcauseh,
      fun hfour => hfifth (by rw [hqualh]; exact hfour)⟩
    rw [himage, htank]
  · have hloop := tankSecond_begins ha hr hbadh (fun hin => hout (hinRange.mp hin))
    simp only [Tank.loop, Prod.mk.injEq] at hloop
    obtain ⟨-, -, hcauset, hqualt, hfiltert⟩ := hloop
    refine ⟨hqualt, hfiltert, fun hbr => hcauset.trans ?_, fun hnb => hcauset.trans ?_⟩
    · rw [if_pos (hbroken.mpr hbr), hclass]
    · rw [if_neg (fun hb => hnb (hbroken.mp hb)), hcauseh]

variable (hstage : s.tank.stage = none)
include hstage

/-- In HELD a BAD loop that does not qualify has the content reckoned from the hold (R124). -/
theorem holds (hbad : s.tank.good = false)
    (hcount : ¬ (3600 ≤ loopMean i.loop ∧ loopMean i.loop ≤ 20500) ∨ s.tank.qualifying < 4) {x : Hold}
    (hmode : s.tank.mode = .held) (hhold : s.tank.hold = some x) :
    t.tank.mode = .held ∧ t.tank.hold = some x ∧ t.tank.reported = reckon s x := by
  obtain ⟨-, hinRange⟩ := second.class_iff
  obtain ⟨ht, -, ha, hr, -, hreckon, -, -, -, htank, -⟩ := second
  have hcounth : h.tank.loopClass ≠ .inRange ∨ h.tank.qualifying < 4 :=
    hcount.imp (fun hn hin => hn (hinRange.mp hin)) (fun hlt => by rw [htank]; exact hlt)
  obtain ⟨hm, hx, hrep⟩ := tankSecond_held ha hr (by rw [htank]; exact hbad) (by rw [htank]; exact hstage) hcounth
    (by rw [htank]; exact hmode) (by rw [htank]; exact hhold)
  rw [ht]
  exact ⟨hm, hx, hrep.trans (hreckon x)⟩

section breaks
variable (hgood : s.tank.good = true) (hbr : loopMean i.loop < 2000 ∨ 22000 < loopMean i.loop)
include hgood hbr

/-- OPEN and FAULT make a GOOD loop BAD, LEVEL_LOOP rising with its entry (R61, R64, R117). -/
theorem breaks : t.tank.good = false ∧ t.tank.badCause = some (causeOf (classOf (loopMean i.loop))) ∧
    t.tank.filter = [] ∧ t.tank.qualifying = 0 ∧ t.tank.liveLevel = none ∧ t.tank.liveContent = none ∧
    t.present .levelLoop = true ∧
    (s.present .levelLoop = false → s.image.reactLevelLoop.getD 1 = 1 →
      ∃ e ∈ t.duty.faults, e.cls = .levelLoop ∧ e.present = true ∧
        e.raisedAt = min 4294967295 (s.stationSeconds + 1)) := by
  have hbroken := second.class_iff.1.mpr hbr
  obtain ⟨ht, hduty, ha, hr, himage, -, -, -, hseconds, htank, habsent⟩ := second
  have hgoodh : h.tank.good = true := by rw [htank]; exact hgood
  have hstageh : h.tank.stage = none := by rw [htank]; exact hstage
  have hclass : h.tank.loopClass = classOf (loopMean i.loop) := by rw [htank]
  have hloop := tankSecond_breaks_loop ha hr hgoodh hbroken
  simp only [Tank.loop, Prod.mk.injEq] at hloop
  obtain ⟨-, hgoodt, hcauset, hqualt, hfiltert⟩ := hloop
  have hlive := tankSecond_breaks_lights ha hr hgoodh hbroken hstageh
  rw [ht, hduty, State.present, hduty, ← hclass]
  refine ⟨hgoodt, hcauset, hfiltert, hqualt, hlive.1, hlive.2, tankSecond_breaks_present ha hr hgoodh hbroken hstageh,
    fun hab hreaction => ?_⟩
  have hlists := tankSecond_breaks_lists ha hr hgoodh hbroken hstageh (habsent _ hab)
    (by rw [himage, show s.image.reaction .levelLoop = .alarm from congrArg ignoreChoice hreaction]; decide)
  rw [hseconds] at hlists
  exact hlists

/-- A LIVE content is held as the loop breaks, and a MATCHING one returns to its hold (R123, R124). -/
theorem breaks_content :
    (s.tank.mode = .unknown → t.tank.mode = .unknown ∧ t.tank.reported = s.tank.reported) ∧
    (s.tank.mode = .live → t.tank.mode = .held ∧ t.tank.reported = min s.image.fullVolume s.tank.reported ∧
      t.tank.hold = some
        { content := s.tank.reported, burn := s.burnCl, inlet := s.inletCl
          start := min 4294967295 (s.stationSeconds + 1), cause := causeOf (classOf (loopMean i.loop)) }) ∧
    (∀ x, s.tank.mode = .matching → s.tank.hold = some x →
      t.tank.mode = .held ∧ t.tank.hold = some x ∧ t.tank.reported = reckon s x) := by
  have hbroken := second.class_iff.1.mpr hbr
  obtain ⟨ht, -, ha, hr, himage, hreckon, hburn, hinlet, hseconds, htank, -⟩ := second
  have hgoodh : h.tank.good = true := by rw [htank]; exact hgood
  have hstageh : h.tank.stage = none := by rw [htank]; exact hstage
  have hmodeh : h.tank.mode = s.tank.mode := by rw [htank]
  have hreportedh : h.tank.reported = s.tank.reported := by rw [htank]
  have hclass : h.tank.loopClass = classOf (loopMean i.loop) := by rw [htank]
  rw [ht]
  refine ⟨fun hmode => ?_, fun hmode => ?_, fun x hmode hhold => ?_⟩
  · obtain ⟨hm, hrep⟩ := tankSecond_breaks_unknown ha hr hgoodh hbroken hstageh (hmodeh.trans hmode)
    exact ⟨hm, hrep.trans hreportedh⟩
  · obtain ⟨hm, hx⟩ := broke_live (hmodeh.trans hmode)
    obtain ⟨hmt, hxt, hrep⟩ := tankSecond_breaks_held ha hr hgoodh hbroken hstageh hm hx
    rw [reckon_fresh, hreportedh, himage] at hrep
    rw [hreportedh, hburn, hinlet, hseconds, hclass] at hxt
    exact ⟨hmt, hrep, hxt⟩
  · obtain ⟨hm, hx⟩ := broke_matching (hmodeh.trans hmode)
    obtain ⟨hmt, hxt, hrep⟩ := tankSecond_breaks_held ha hr hgoodh hbroken hstageh hm
      (hx.trans (by rw [htank]; exact hhold))
    exact ⟨hmt, hxt, hrep.trans (hreckon x)⟩

end breaks

section enters
variable (hgood : s.tank.good = true) (hnb : ¬ (loopMean i.loop < 2000 ∨ 22000 < loopMean i.loop))
  {filter : List Nat}
  (hentered : enterFilter s.image s.tank.filter (filterValue s.image (classOf (loopMean i.loop)) (loopMean i.loop)) = filter)
include hgood hnb hentered

omit hstage in
/-- UNDER, IN_RANGE and OVER enter the filter of a GOOD loop (R116, R118). -/
theorem enters : t.tank.good = true ∧ t.tank.filter = filter := by
  have hwhole : h.tank.loopClass.broken = false := Bool.eq_false_iff.mpr (fun hb => hnb (second.class_iff.1.mp hb))
  obtain ⟨ht, -, ha, hr, himage, -, -, -, -, htank, -⟩ := second
  have hloop := tankSecond_enters_loop ha hr (by rw [htank]; exact hgood) hwhole
  simp only [Tank.loop, Prod.mk.injEq] at hloop
  obtain ⟨-, hgoodt, -, -, hfiltert⟩ := hloop
  rw [ht]
  refine ⟨hgoodt, hfiltert.trans ?_⟩
  rw [← hentered, State.entered, himage, htank]

/-- The mean of the filter gives level and content, which a MATCHING content is held against (R118 to R120, R125). -/
theorem enters_content (hsome : filter ≠ []) {level content : Nat}
    (hlevel : levelOf s.image (sumOf filter / filter.length) = level) (hvolume : volumeAt level s.image.table = content) :
    t.tank.liveLevel = some level ∧ t.tank.liveContent = some content ∧
    (s.tank.mode = .unknown → t.tank.mode = .live ∧ t.tank.reported = content ∧ t.tank.hold = none) ∧
    (s.tank.mode = .live → t.tank.mode = .live ∧ t.tank.reported = content ∧ t.tank.hold = s.tank.hold) ∧
    (∀ x, s.tank.mode = .matching → s.tank.hold = some x →
      (absDiff content (reckon s x) ≤ s.image.band →
        t.tank.mode = .live ∧ t.tank.reported = content ∧ t.tank.hold = none) ∧
      (s.image.band < absDiff content (reckon s x) → s.tank.matching < 120 →
        t.tank.mode = .matching ∧ t.tank.reported = reckon s x ∧ t.tank.hold = some x ∧
        t.tank.matching = s.tank.matching + 1) ∧
      (s.image.band < absDiff content (reckon s x) → 120 ≤ s.tank.matching →
        t.tank.stage = some .matching ∧ t.tank.reported = reckon s x)) := by
  have hwhole : h.tank.loopClass.broken = false := Bool.eq_false_iff.mpr (fun hb => hnb (second.class_iff.1.mp hb))
  obtain ⟨ht, -, ha, hr, himage, hreckon, -, -, -, htank, -⟩ := second
  have hgoodh : h.tank.good = true := by rw [htank]; exact hgood
  have hstageh : h.tank.stage = none := by rw [htank]; exact hstage
  have hmodeh : h.tank.mode = s.tank.mode := by rw [htank]
  have hfilter : h.entered.tank.filter = filter := by rw [← hentered, State.entered, himage, htank]
  have havg : h.entered.tank.filterAverage = some (sumOf filter / filter.length) := by
    rw [filterAverage_of_some (by rw [hfilter]; exact hsome), hfilter]
  have hcontent := tankSecond_enters_content ha hr hgoodh hwhole hstageh
  have hlevelh : levelOf h.entered.image (sumOf filter / filter.length) = level :=
    (congrArg (fun i => levelOf i (sumOf filter / filter.length)) himage).trans hlevel
  have hvolumeh : volumeAt level h.entered.image.table = content :=
    (congrArg (fun i => volumeAt level (Image.table i)) himage).trans hvolume
  have hreckonh : ∀ x, reckon h.entered x = reckon s x := hreckon
  have hbandh : h.entered.image.band = s.image.band := congrArg Image.band himage
  have hmatchingh : h.entered.tank.matching = s.tank.matching := by
    rw [show h.entered.tank.matching = h.tank.matching from rfl, htank]
  have hholdh : h.entered.tank.hold = s.tank.hold := by
    rw [show h.entered.tank.hold = h.tank.hold from rfl, htank]
  obtain ⟨hlevelt, hlivet⟩ := contented_lights h.entered
  have hunknown := contented_unknown_lit (s := h.entered) hgoodh havg
  have hlive := contented_live_lit (s := h.entered) hgoodh havg
  simp only [hlevelh, hvolumeh, ← hcontent, hholdh] at hunknown hlive
  rw [ht]
  refine ⟨?_, ?_, fun hmode => ?_, fun hmode => ?_, fun x hmode hhold => ⟨fun hnear => ?_, fun hfar hcount => ?_,
    fun hfar hcount => ?_⟩⟩
  · refine (congrArg (fun c => c.1) hcontent).trans (hlevelt.trans ?_)
    rw [liveLevelOf, if_pos (by exact hgoodh), havg, Option.map_some, hlevelh]
  · refine (congrArg (fun c => c.2.1) hcontent).trans (hlivet.trans ?_)
    rw [liveContentOf, liveLevelOf, if_pos (by exact hgoodh), havg, Option.map_some, Option.map_some, hlevelh, hvolumeh]
  · have htuple := hunknown (hmodeh.trans hmode)
    simp only [Tank.content, Prod.mk.injEq] at htuple
    obtain ⟨-, -, hnow, hheld, -, hreported⟩ := htuple
    exact ⟨hnow, hreported, hheld⟩
  · have htuple := hlive (hmodeh.trans hmode)
    simp only [Tank.content, Prod.mk.injEq] at htuple
    obtain ⟨-, -, hnow, hheld, -, hreported⟩ := htuple
    exact ⟨hnow, hreported, hheld⟩
  · have hcaptured := contented_captured (s := h.entered) hgoodh havg (hmodeh.trans hmode) (hholdh.trans hhold)
    rw [hlevelh, hvolumeh, hreckonh, hbandh] at hcaptured
    have htuple := hcontent.trans (hcaptured hnear)
    simp only [Tank.content, Prod.mk.injEq] at htuple
    obtain ⟨-, -, hnow, hheld, -, hreported⟩ := htuple
    exact ⟨hnow, hreported, hheld⟩
  · have hapart := contented_apart (s := h.entered) hgoodh havg (hmodeh.trans hmode) (hholdh.trans hhold)
    rw [hlevelh, hvolumeh, hreckonh, hbandh, hmatchingh] at hapart
    have htuple := hcontent.trans (hapart hfar hcount)
    simp only [Tank.content, Prod.mk.injEq] at htuple
    obtain ⟨-, -, hnow, hheld, hcounted, hreported⟩ := htuple
    exact ⟨hnow, hreported, hheld, hcounted⟩
  · have hunmatched := contented_unmatched (s := h.entered) hgoodh havg (hmodeh.trans hmode) (hholdh.trans hhold)
    rw [hlevelh, hvolumeh, hreckonh, hbandh, hmatchingh] at hunmatched
    obtain ⟨hmatching, hreported⟩ := hunmatched hfar hcount
    obtain ⟨hstaget, hreportedt⟩ := tankSecond_unmatched hgoodh hwhole hstageh hmatching
      (hreported.trans (hreckonh x).symm)
    exact ⟨hstaget, hreportedt.trans (hreckon x)⟩

end enters

end State.Second

/-! ## LOOP_QUALIFIED and MATCHING_EXPIRY -/

section steps
variable {s : State} (hawake : s.awake = true) (hruns : s.runs .set = true)
include hawake hruns

/-- A qualified loop is GOOD, and LEVEL_LOOP gone (R117). -/
theorem exec_loopQualified_good (hstage : s.tank.stage = some .qualifying) :
    ∃ t, exec .loopQualified s = .next t ∧ t.tank.good = true ∧ t.tank.badCause = none ∧
      t.tank.stage ≠ some .qualifying ∧ t.present .levelLoop = false ∧
      ∀ h avg, s.tank.mode = .held → s.tank.hold = some h → s.tank.filterAverage = some avg →
        let live := volumeAt (levelOf s.image avg) s.image.table
        (absDiff live (reckon s h) ≤ s.image.band → t.tank.mode = .live ∧ t.tank.reported = live ∧ t.tank.hold = none) ∧
        (s.image.band < absDiff live (reckon s h) →
          t.tank.mode = .matching ∧ t.tank.matching = 1 ∧ t.tank.reported = reckon s h ∧ t.tank.hold = some h) := by
  obtain ⟨himage, ha, hr⟩ := qualify_kept hawake hruns
  have hloop := (contentOn_keeps ha hr).1
  have htank := qualify_tank hawake hruns
  refine ⟨_, exec_loopQualified hawake hruns hstage, ?_, ?_, fun hnow => ?_,
    contentOn_absent ha hr (qualify_absent hawake hruns), fun x avg hmode hhold havg =>
      qualified_content hawake hruns hmode hhold havg⟩
  · exact (congrArg (fun l => l.2.1) hloop).trans (by rw [htank])
  · exact (congrArg (fun l => l.2.2.1) hloop).trans (by rw [htank])
  · have hnone : (qualify s).tank.stage = none := by rw [htank]; rfl
    have hnow : (contentOn (qualify s)).tank.stage = some .qualifying := hnow
    rcases contentOn_stage ha hr with h | h | h
    · cases hnow.symm.trans (h.trans hnone)
    · cases hnow.symm.trans h
    · cases hnow.symm.trans h

/-- A content that does not match in its time is replaced by the live one, with LEVEL_STEP (R125). -/
theorem exec_matching_adopts {h : Hold} {live : Nat} (hstage : s.tank.stage = some .matching)
    (hhold : s.tank.hold = some h) (hlive : s.tank.liveContent = some live) :
    ∃ t, exec .matchingExpiry s = .next t ∧ t.tank.mode = .live ∧ t.tank.reported = live ∧ t.tank.hold = none ∧
      t.tank.stage ≠ some .matching ∧
      (59 ≤ s.tank.minuteSeconds → t.records = appendTo s.records s.stationSeconds s.powerUps
        (.event (.levelStep ((live : Int) - s.tank.reported) h.start h.cause))) := by
  have hstep : levelStep s =
      addEvent (adoptLive s live) (.levelStep (stepOf live s.tank.reported) h.start h.cause) := by
    rw [levelStep, hhold, hlive]
  generalize hw : ({ levelStep s with tank := { (levelStep s).tank with stage := none } } : State) = w
  have ha : w.awake = true := by rw [← hw, hstep]; exact hawake
  have hr : w.runs .set = true := by rw [← hw, hstep]; exact hruns
  have hcontent : w.tank.content = (s.tank.liveLevel, s.tank.liveContent, .live, none, s.tank.matching, live) := by
    rw [← hw, hstep]; rfl
  obtain ⟨-, hkept, hnext⟩ := minuteSecond_keeps ha hr
  have htuple := hkept.trans hcontent
  simp only [Tank.content, Prod.mk.injEq] at htuple
  obtain ⟨-, -, hmode, hheld, -, hreported⟩ := htuple
  have hexec := exec_matching hawake hruns hstage
  rw [hw] at hexec
  refine ⟨_, hexec, hmode, hreported, hheld, fun hnow => ?_, fun hend => ?_⟩
  · have hnow : (minuteSecond w).tank.stage = some .matching := hnow
    have hnone : w.tank.stage = none := by rw [← hw]
    rw [hnone, hnow] at hnext
    rcases hnext with h | h <;> cases h
  · have hminute : 59 ≤ w.tank.minuteSeconds := by rw [← hw, hstep]; exact hend
    rw [show minuteSecond w = _ from if_pos hminute, ← hw, hstep]
    rfl

end steps

/-- Settles O43: each clause of the loop's second (`State.Second`), of the table and of the two steps by its own lemma. -/
theorem loopRecoveryAdoptsTheContent : Obligations.LoopRecoveryAdoptsTheContent := by
  unfold Obligations.LoopRecoveryAdoptsTheContent
  refine ⟨fun s i hawake hruns hdue hstage => ?_, fun points level hasc => ⟨?_, ?_, ?_⟩, fun s hawake hruns =>
    ⟨exec_loopQualified_good hawake hruns, exec_loopQualified_early hawake hruns,
      fun h live hstage hhold hlive => exec_matching_adopts hawake hruns hstage hhold hlive, exec_matching_early hawake hruns⟩⟩
  · intro value broken inRange cause entered dead
    obtain ⟨t, h, hexec, second⟩ := exec_localSecond_tank hawake hruns hdue i
    have hentered : ∀ v, enterFilter s.image s.tank.filter v = entered v := enterFilter_eq s.image s.tank.filter
    refine ⟨t, hexec, second.value, fun hgood hbr => ?_, fun hgood hnb => ?_, fun hbad => ?_⟩
    · have hbreaks := second.breaks hstage hgood hbr
      have hcontent := second.breaks_content hstage hgood hbr
      have hcause : causeOf (classOf (loopMean i.loop)) = cause := causeOf_class hbr
      rw [hcause] at hbreaks hcontent
      obtain ⟨h1, h2, h3, h4, h5, h6, h7, h8⟩ := hbreaks
      exact ⟨h1, h2, h3, h4, h5, h6, h7, h8, hcontent⟩
    · intro filter level content
      have hfilter : enterFilter s.image s.tank.filter
          (filterValue s.image (classOf (loopMean i.loop)) (loopMean i.loop)) = filter := by
        rw [filterValue_class s.image (by exact hnb)]
        exact hentered _
      obtain ⟨hgoodt, hfiltert⟩ := second.enters hgood hnb hfilter
      exact ⟨hgoodt, hfiltert, fun hsome => second.enters_content hstage hgood hnb hfilter hsome rfl rfl⟩
    · obtain ⟨hbadt, hcounts, hbegins⟩ := second.waits hbad
      refine ⟨hbadt, fun hin => ?_, fun hout => ?_, fun x hcount hmode hhold => second.holds hstage hbad hcount hmode hhold⟩
      · obtain ⟨hqual, hfilter, hcause, hfifth⟩ := hcounts hin
        exact ⟨hqual, hfilter.trans (hentered _), hcause, hfifth⟩
      · obtain ⟨hqual, hfilter, hbroken, hwhole⟩ := hbegins hout
        exact ⟨hqual, hfilter, fun hbr => (hbroken hbr).trans (congrArg some (causeOf_class hbr)), hwhole⟩
  · rintro before p q after rfl hp hq
    exact volumeAt_between hasc hp hq
  · rintro before p rfl hp
    rw [volumeAt_skip hp before hasc]
    rfl
  · rintro p after rfl hp
    exact volumeAt_below hasc hp

end Sys2Proof.Machine
end

section
/-! PROOFS. The metering unit: readings, gaps, the link and silence (O36, O37). -/
set_option Elab.async false

namespace Sys2Proof.Machine

/-! ## One channel's record and what it hands over -/

/-- The state in which one channel's record, the settlement table and the free-value count have changed. -/
def State.metered (s : State) (n : Nat) (c : Channel) (b : BoardSettlement) (free : Nat) : State :=
  { setChannel s n c with boardBill := b, free := free }

section metered
variable (s : State) (n : Nat) (c : Channel) (b : BoardSettlement) (free : Nat)

theorem metered_self (h : n < s.meter.channels.length) :
    s.metered n (s.channel n) s.boardBill s.free = s := by
  have hset : s.meter.channels.set n (s.channel n) = s.meter.channels := by
    rw [State.channel, getD_of_lt _ _ h, List.set_getElem_self]
  exact congrArg (fun l => ({ s with meter := { s.meter with channels := l } } : State)) hset

theorem metered_channel (h : n < s.meter.channels.length) : (s.metered n c b free).channel n = c := by
  have hlength : n < (s.meter.channels.set n c).length := by rw [List.length_set]; exact h
  exact (getD_of_lt (s.meter.channels.set n c) blankChannel hlength).trans (List.getElem_set_self hlength)

theorem metered_channel_other {m : Nat} (h : m ≠ n) : (s.metered n c b free).channel m = s.channel m := by
  change (s.meter.channels.set n c).getD m blankChannel = s.meter.channels.getD m blankChannel
  rw [List.getD_eq_getElem?_getD, List.getD_eq_getElem?_getD, List.getElem?_set_ne (Ne.symm h)]

theorem metered_metered (c' : Channel) (b' : BoardSettlement) (free' : Nat) :
    (s.metered n c b free).metered n c' b' free' = s.metered n c' b' free' := by
  have hset : (s.meter.channels.set n c).set n c' = s.meter.channels.set n c' := List.set_set ..
  exact congrArg (fun l => ({ s with
    meter := { s.meter with channels := l }, boardBill := b', free := free' } : State)) hset

theorem metered_present (d : FaultClass) : (s.metered n c b free).present d = s.present d := rfl

/-- What a BOARD's settlement unit holds after a hand-over; another station's takes none. -/
def State.hands (s : State) (b : BoardSettlement) (n wh peak missed : Nat) : BoardSettlement :=
  if s.runs .board = true then b.handed n wh peak missed else b

theorem handSecond_eq (wh p : Nat) :
    handSecond s n wh p = { s with boardBill := s.hands s.boardBill n wh p 0 } := by
  unfold handSecond State.hands
  split
  · rw [placePeak_placeWh]
  · rfl

/-- A metered second of the channel, in a state that has metered it before. -/
theorem meterSecond_metered (h : n < s.meter.channels.length) (p : Nat) :
    meterSecond n p (s.metered n c b free) =
      s.metered n { c.integrate p with window := c.window.drop 1 ++ [p] } (s.hands b n ((c.ws + p) / 3600) p 0) free := by
  have hchannel := metered_channel s n c b free h
  have hsecond : meterSecond n p (s.metered n c b free) =
      handSecond (setChannel (s.metered n c b free) n { c.integrate p with window := c.window.drop 1 ++ [p] }) n
        ((c.ws + p) / 3600) p := by
    unfold meterSecond
    rw [hchannel]
  rw [hsecond, handSecond_eq]
  exact metered_metered s n c b free { c.integrate p with window := c.window.drop 1 ++ [p] } _ free

theorem takenBy_metered (h : n < s.meter.channels.length) (stamp p : Nat) :
    takenBy n stamp p (s.metered n c b free) =
      s.metered n { c with state := .active, silence := 0, stamp := some stamp, power := some p } b free := by
  have hchannel := metered_channel s n c b free h
  unfold takenBy
  rw [hchannel]
  exact metered_metered s n c b free { c with state := .active, silence := 0, stamp := some stamp, power := some p } b free

end metered

/-! ## Missing seconds (R40) -/

/-- The record of a channel after `m` seconds filled with one power. -/
def Channel.filled (v : Nat) : Nat → Channel → Channel
  | 0, c => c
  | m + 1, c => Channel.filled v m { c.integrate v with window := c.window.drop 1 ++ [v] }

theorem fill_carry (a v x : Nat) : (a + v) / 3600 + ((a + v) % 3600 + x) / 3600 = (a + (v + x)) / 3600 := by omega

theorem fill_rest (a v x : Nat) : ((a + v) % 3600 + x) % 3600 = (a + (v + x)) % 3600 := by omega

theorem filled_figures (v : Nat) : ∀ (m : Nat) (c : Channel),
    (c.filled v m).unmetered = c.unmetered ∧
    (m ≠ 0 → (c.filled v m).ws = (c.ws + m * v) % 3600 ∧ (c.filled v m).wh = (c.wh + (c.ws + m * v) / 3600) % two32)
  | 0, c => ⟨rfl, fun h => absurd rfl h⟩
  | m + 1, c => by
    obtain ⟨hunmetered, hfigures⟩ := filled_figures v m { c.integrate v with window := c.window.drop 1 ++ [v] }
    refine ⟨hunmetered, fun _ => ?_⟩
    by_cases hm : m = 0
    · subst hm
      rw [Nat.zero_add, Nat.one_mul]
      exact ⟨rfl, rfl⟩
    · obtain ⟨hws, hwh⟩ := hfigures hm
      have hsum : (m + 1) * v = v + m * v := by rw [Nat.add_mul, Nat.one_mul, Nat.add_comm]
      refine ⟨hws.trans ?_, hwh.trans ?_⟩
      · rw [hsum]
        exact fill_rest c.ws v (m * v)
      · rw [hsum, ← fill_carry c.ws v (m * v), ← Nat.add_assoc]
        exact Nat.mod_add_mod _ _ _

theorem hands_hands (s : State) (b : BoardSettlement) (n w1 w2 p1 p2 m1 m2 : Nat) :
    s.hands (s.hands b n w1 p1 m1) n w2 p2 m2 = s.hands b n (w1 + w2) (max p1 p2) (m1 + m2) := by
  unfold State.hands
  split
  · exact handed_handed b n w1 w2 p1 p2 m1 m2
  · rfl

/-- Seconds filled with one power hand over what they come to. -/
theorem fillGap_metered {s : State} {n : Nat} (h : n < s.meter.channels.length) (v free : Nat) :
    ∀ (m : Nat) (c : Channel) (b : BoardSettlement),
      fillGap n v m (s.metered n c b free) =
        s.metered n (c.filled v m) (if m = 0 then b else s.hands b n ((c.ws + m * v) / 3600) v 0) free
  | 0, _, _ => rfl
  | m + 1, c, b => by
    rw [fillGap, meterSecond_metered s n c b free h, fillGap_metered h v free m, if_neg (Nat.succ_ne_zero m)]
    refine congrArg (fun x => s.metered n (c.filled v (m + 1)) x free) ?_
    by_cases hm : m = 0
    · subst hm
      rw [if_pos rfl, Nat.zero_add, Nat.one_mul]
    · have hsum : (m + 1) * v = v + m * v := by rw [Nat.add_mul, Nat.one_mul, Nat.add_comm]
      rw [if_neg hm, hands_hands, hsum, ← fill_carry c.ws v (m * v), Nat.max_self]
      rfl

/-- Unmetered seconds on the CURRENT entry. -/
def BoardSettlement.missed (b : BoardSettlement) (d : Nat) : BoardSettlement :=
  { b with table := b.table.map (fun e => if e.state = .current then { e with unmetered := e.unmetered + d } else e) }

theorem placeUnmetered_eq {b : BoardSettlement} {d : Nat}
    (h : ∀ e ∈ b.table, e.state = .current → e.unmetered + d < two32) (free : Nat) :
    placeUnmetered free b d = b.missed d := by
  have hmap : atCurrent (fun e => { e with unmetered := countOn free e.unmetered d }) b.table =
      b.table.map (fun e => if e.state = .current then { e with unmetered := e.unmetered + d } else e) :=
    List.map_congr_left (fun e he => by
      by_cases hcurrent : e.state = .current
      · have hcount : countOn free e.unmetered d = e.unmetered + d := if_pos (h e he hcurrent)
        simp only [hcurrent, if_true, hcount]
      · simp only [hcurrent, if_false])
  exact congrArg (fun l => ({ b with table := l } : BoardSettlement)) hmap

theorem missed_handed (b : BoardSettlement) (n wh p d : Nat) : (b.missed d).handed n wh p 0 = b.handed n wh p d := by
  have hcurrent : (∀ e ∈ (b.missed d).table, e.state ≠ .current) ↔ ∀ e ∈ b.table, e.state ≠ .current := by
    simp only [BoardSettlement.missed, List.mem_map, forall_exists_index, and_imp, forall_apply_eq_imp_iff₂]
    exact forall₂_congr (fun e _ => by by_cases he : e.state = .current <;> simp [he])
  unfold BoardSettlement.handed
  rw [BoardSettlement.mk.injEq]
  refine ⟨?_, ?_, rfl⟩
  · refine (List.map_map ..).trans (List.map_congr_left (fun e _ => ?_))
    by_cases he : e.state = .current
    · simp [he]
    · simp [he]
  · simp only [hcurrent]
    rfl

section steps
variable {s : State} {n : Nat} (h : n < s.meter.channels.length)
include h

theorem addUnmetered_counted (c : Channel) (b : BoardSettlement) (free d : Nat) :
    ∃ free', addUnmetered n d (s.metered n c b free) =
      s.metered n { c with unmetered := countOn free c.unmetered d }
        (if s.runs .board = true then placeUnmetered (freeAfter two32 free c.unmetered d) b d else b) free' ∧
      (s.runs .board = false → free' = freeAfter two32 free c.unmetered d) := by
  have hchannel := metered_channel s n c b free h
  have hset : (s.meter.channels.set n c).set n { c with unmetered := countOn free c.unmetered d } =
      s.meter.channels.set n { c with unmetered := countOn free c.unmetered d } := List.set_set ..
  generalize hfree : freeAfter two32 free c.unmetered d = counted
  unfold addUnmetered
  rw [hchannel]
  dsimp only
  rw [show (s.metered n c b free).free = free from rfl, hfree]
  by_cases hboard : s.runs .board = true
  · rw [if_pos (by exact hboard), if_pos hboard]
    exact ⟨counted + 1, congrArg (fun l => ({ s with
      meter := { s.meter with channels := l }, boardBill := placeUnmetered counted b d, free := counted + 1 } : State))
      hset, fun hno => by rw [hno] at hboard; cases hboard⟩
  · rw [if_neg (by exact hboard), if_neg hboard]
    exact ⟨counted, congrArg (fun l => ({ s with
      meter := { s.meter with channels := l }, boardBill := b, free := counted } : State)) hset, fun _ => rfl⟩

theorem addUnmetered_metered (c : Channel) (b : BoardSettlement) (free d : Nat) (hcount : c.unmetered + d < two32) :
    ∃ free', addUnmetered n d (s.metered n c b free) =
      s.metered n { c with unmetered := c.unmetered + d } (if s.runs .board = true then placeUnmetered free b d else b)
        free' ∧ (s.runs .board = false → free' = free) := by
  have hcounted : countOn free c.unmetered d = c.unmetered + d := if_pos hcount
  have hfree : freeAfter two32 free c.unmetered d = free := if_pos hcount
  have hadded := addUnmetered_counted h c b free d
  rwa [hcounted, hfree] at hadded

/-- The record of a channel after a reading `k` stamps on. -/
def Channel.stepped (c : Channel) (stamp p k v : Nat) : Channel :=
  let c1 := c.filled v (filledSeconds k)
  { c1.integrate p with
      window := c1.window.drop 1 ++ [p]
      unmetered := c.unmetered + (k - 1 - 5)
      state := .active
      silence := 0
      stamp := some stamp
      power := some p }

theorem takeStep_one (stamp p v : Nat) :
    takeStep n stamp p 1 v s =
      s.metered n ((s.channel n).stepped stamp p 1 v)
        (s.hands s.boardBill n (((s.channel n).ws + p) / 3600) p 0) s.free := by
  have hstep : takeStep n stamp p 1 v s = takenBy n stamp p (meterSecond n p s) := rfl
  rw [hstep]
  conv => lhs; rw [← metered_self s n h]
  rw [meterSecond_metered s n _ _ _ h, takenBy_metered s n _ _ _ h]
  rfl

/-- A reading some stamps on: seconds filled, seconds missed, and its own. -/
theorem takeStep_gap (stamp p k v : Nat) (hk : 1 < k) (hcount : (s.channel n).unmetered + k < two32) :
    ∃ b free, takeStep n stamp p k v s = s.metered n ((s.channel n).stepped stamp p k v) b free ∧
      (s.runs .board = false → b = s.boardBill) ∧
      (s.runs .board = true → (∀ e ∈ s.boardBill.table, e.state = .current → e.unmetered + k < two32) →
        b = s.boardBill.handed n (((s.channel n).ws + (min 5 (k - 1) * v + p)) / 3600) (max v p) (k - 1 - 5)) := by
  have hm : filledSeconds k ≠ 0 := by unfold filledSeconds; omega
  have hgap : fillGap n v (filledSeconds k) s = s.metered n ((s.channel n).filled v (filledSeconds k))
      (s.hands s.boardBill n (((s.channel n).ws + filledSeconds k * v) / 3600) v 0) s.free := by
    have hfilled := fillGap_metered h v s.free (filledSeconds k) (s.channel n) s.boardBill
    rwa [metered_self s n h, if_neg hm] at hfilled
  obtain ⟨hunmetered, hfigures⟩ := filled_figures v (filledSeconds k) (s.channel n)
  have hws := (hfigures hm).1
  have hstep : takeStep n stamp p k v s = takenBy n stamp p (meterSecond n p
      (if 5 < k - 1 then addUnmetered n (k - 1 - 5) (fillGap n v (filledSeconds k) s)
        else fillGap n v (filledSeconds k) s)) := rfl
  rw [hstep, hgap]
  by_cases hlong : 5 < k - 1
  · obtain ⟨free, hmissed, -⟩ := addUnmetered_metered h ((s.channel n).filled v (filledSeconds k))
      (s.hands s.boardBill n (((s.channel n).ws + filledSeconds k * v) / 3600) v 0) s.free (k - 1 - 5)
      (by rw [hunmetered]; omega)
    rw [if_pos hlong, hmissed, meterSecond_metered s n _ _ _ h, takenBy_metered s n _ _ _ h, hunmetered]
    refine ⟨_, _, rfl, fun hb => ?_, fun hb hentries => ?_⟩
    · simp only [State.hands, hb, Bool.false_eq_true, if_false]
    · have hroom : ∀ e ∈ (s.boardBill.handed n (((s.channel n).ws + filledSeconds k * v) / 3600) v 0).table,
          e.state = .current → e.unmetered + (k - 1 - 5) < two32 := fun e he hcurrent => by
        obtain ⟨x, hx, rfl⟩ := List.mem_map.mp he
        by_cases hxc : x.state = .current
        · have := hentries x hx hxc
          simp only [hxc, if_true]
          omega
        · simp only [hxc, if_false] at hcurrent
      simp only [State.hands, hb, if_true]
      rw [placeUnmetered_eq hroom, missed_handed, handed_handed, hws, fill_carry, Nat.zero_add]
      rfl
  · have hnone : k - 1 - 5 = 0 := by omega
    have hchannel : (s.channel n).unmetered + (k - 1 - 5) = ((s.channel n).filled v (filledSeconds k)).unmetered := by
      rw [hnone, hunmetered]
      rfl
    rw [if_neg hlong, meterSecond_metered s n _ _ _ h, takenBy_metered s n _ _ _ h, Channel.stepped, hchannel]
    refine ⟨_, _, rfl, fun hb => ?_, fun hb _ => ?_⟩
    · simp only [State.hands, hb, Bool.false_eq_true, if_false]
    · simp only [State.hands, hb, if_true]
      rw [handed_handed, hws, fill_carry, hnone]
      rfl

omit h in
/-- No watt-second is lost. -/
theorem stepped_figures (c : Channel) (stamp p k v : Nat) (hk : 1 ≤ k) :
    (c.stepped stamp p k v).ws = (c.ws + (min 5 (k - 1) * v + p)) % 3600 ∧
      (c.stepped stamp p k v).wh = (c.wh + (c.ws + (min 5 (k - 1) * v + p)) / 3600) % two32 := by
  by_cases hone : k = 1
  · subst hone
    rw [show min 5 (1 - 1) * v + p = p by simp]
    exact ⟨rfl, rfl⟩
  · have hm : filledSeconds k ≠ 0 := by unfold filledSeconds; omega
    obtain ⟨hws, hwh⟩ := (filled_figures v (filledSeconds k) c).2 hm
    refine ⟨?_, ?_⟩
    · refine (congrArg (fun x => (x + p) % 3600) hws).trans ?_
      exact fill_rest c.ws (min 5 (k - 1) * v) p
    · have hsum : (c.stepped stamp p k v).wh =
          ((c.filled v (filledSeconds k)).wh + ((c.filled v (filledSeconds k)).ws + p) / 3600) % two32 := rfl
      rw [hsum, hws, hwh, Nat.mod_add_mod, Nat.add_assoc, fill_carry]
      rfl

/-- The record of a channel that takes its readings up again (R43). -/
def Channel.resumed (c : Channel) (stamp p : Nat) : Channel :=
  { c.integrate p with
      state := .active, stamp := some stamp, power := some p, silence := 0, window := List.replicate 10 p }

omit h in
/-- A channel that takes its readings up again, once the loss is told of. -/
theorem resynchronise_metered {w : State} (hleave : leaveLost n s = w) (hw : n < w.meter.channels.length)
    (stamp p : Nat) :
    resynchronise n stamp p s = w.metered n ((w.channel n).resumed stamp p)
      (w.hands w.boardBill n (((w.channel n).ws + p) / 3600) p 0) w.free := by
  have htaken := takenBy_metered w n (w.channel n) w.boardBill w.free hw stamp p
  rw [metered_self w n hw] at htaken
  unfold resynchronise
  dsimp only
  rw [hleave, htaken, metered_channel w n _ _ _ hw, handSecond_eq]
  exact metered_metered w n _ w.boardBill w.free _ _ w.free

end steps

/-! ## A reading on a waiting link (R33, R40, R197) -/

theorem exec_meterReading {s : State} (hmain : s.mainOn = true) (l : List Byte) :
    exec (.meterReading l) s = .next (readMeter l s) := congrArg Host.Outcome.next (if_pos hmain)

section reading
variable {s : State} {ch stamp p3 p2 p1 p0 check : Byte} (hawake : s.awake = true) (hlink : s.meter.link = [])
  (hold : s.meter.linkOld = false)
include hawake hlink hold

theorem exec_reading : exec (.meterReading [165#8, ch, stamp, p3, p2, p1, p0, check]) s =
    .next (judgeReading [165#8, ch, stamp, p3, p2, p1, p0, check] s) := by
  obtain ⟨hmain, hreset⟩ := awake_iff.mp hawake
  rw [exec_meterReading hmain, readMeter_whole hlink hold hreset]

theorem exec_reading_offered (hcheck : ch + stamp + p3 + p2 + p1 + p0 + check = 0#8) (hchannel : ch.toNat ≤ 12) :
    exec (.meterReading [165#8, ch, stamp, p3, p2, p1, p0, check]) s =
      .next (offerReading ch.toNat stamp.toNat (signed32 (rd4 p3 p2 p1 p0)) s) := by
  rw [exec_reading hawake hlink hold, judgeReading, if_neg (not_not_intro hcheck), if_neg (by omega)]

end reading

section offer
variable {s : State} {n : Nat} (hused : s.inUse n = true) (stamp : Nat) (x : Int)
include hused

theorem offerReading_followed {last : Nat} (hstate : (s.channel n).state = .active ∨ (s.channel n).state = .stalled)
    (hstamp : (s.channel n).stamp = some last) :
    offerReading n stamp x s = if (stamp + 256 - last) % 256 = 0 then s
      else takeStep n stamp (clampPower x) ((stamp + 256 - last) % 256) ((s.channel n).power.getD 0) s := by
  unfold offerReading
  rw [if_pos hused]
  dsimp only
  rw [hstamp]
  rcases hstate with h | h <;> rw [h]

theorem offerReading_resumed (hstate : (s.channel n).state = .noData ∨ (s.channel n).state = .lost) :
    offerReading n stamp x s = resynchronise n stamp (clampPower x) s := by
  unfold offerReading
  rw [if_pos hused]
  dsimp only
  rcases hstate with h | h <;> rw [h]

end offer

theorem leaveLost_of_not_lost {s : State} {n : Nat} (h : (s.channel n).state ≠ .lost) : leaveLost n s = s := if_neg h

/-- A metered state differs from the one before by its metering and its settlement table, where no count ran over. -/
theorem metered_eq (s : State) (n : Nat) (c : Channel) (b : BoardSettlement) :
    s.metered n c b s.free = { s with meter := (s.metered n c b s.free).meter, boardBill := b } := rfl

theorem hands_of_board {s : State} (b : BoardSettlement) (n wh p d : Nat) :
    (s.runs .board = false → s.hands b n wh p d = b) ∧ (s.runs .board = true → s.hands b n wh p d = b.handed n wh p d) := by
  refine ⟨fun h => ?_, fun h => ?_⟩ <;> simp [State.hands, h]

/-- What a SET in RUN, or a BOARD, has in use. -/
theorem inUse_of_set {s : State} {n : Nat} (hruns : s.runs .set = true) (h : s.inUse n = true) : n = 0 := by
  obtain ⟨hstation, hrole⟩ := runs_iff.mp hruns
  simpa [State.inUse, hstation, hrole] using h

/-- Leaving LOST tells of the end of the loss, and leaves metering and settlement as they are. -/
theorem leaveLost_keeps (s : State) (n : Nat) : (leaveLost n s).meter = s.meter ∧
    (leaveLost n s).boardBill = s.boardBill ∧ (leaveLost n s).runs .board = s.runs .board := by
  unfold leaveLost
  split
  · split
    · exact ⟨rfl, rfl, rfl⟩
    · split
      · have htouches := (State.Touches.refl dutyParts s).thenDutyEvent
          (fun v => (State.Touches.refl actParts v).thenClearCondition .meterLost)
        exact ⟨htouches.same .meter (by decide), htouches.same .boardBill (by decide),
          runs_of_same (htouches.same .station (by decide)) (htouches.same .image (by decide)) _⟩
      · exact ⟨rfl, rfl, rfl⟩
  · exact ⟨rfl, rfl, rfl⟩

/-- Settles O36: the reading reaches its channel, which steps on from its stamp or takes its readings up again. -/
theorem readingsAreMeteredInStampOrder : Obligations.ReadingsAreMeteredInStampOrder := by
  unfold Obligations.ReadingsAreMeteredInStampOrder
  intro s n ch stamp p3 p2 p1 p0 check hawake hused hn hlength hlink hold hch hcheck p reading c handed
  have hexec : exec reading s = .next (offerReading n stamp.toNat (signed32 (rd4 p3 p2 p1 p0)) s) := by
    rw [← hch]
    exact exec_reading_offered hawake hlink hold hcheck (by omega)
  have hp : clampPower (signed32 (rd4 p3 p2 p1 p0)) = p := rfl
  have hother : ∀ (w : State) (x : Channel) (b : BoardSettlement) (free m : Nat), m ≠ n →
      (w.metered n x b free).channel m = w.channel m := fun w x b free m hm => metered_channel_other w n x b free hm
  refine ⟨fun last hstate hstamp => ?_, ?_⟩
  · have hoffer := offerReading_followed hused stamp.toNat (signed32 (rd4 p3 p2 p1 p0)) hstate hstamp
    refine ⟨fun hsame => ?_, fun hone hlast => ?_, fun k v hk hpos hpower hcount => ?_⟩
    · rw [hexec, hoffer, if_pos (by omega)]
    · have hk : (stamp.toNat + 256 - last) % 256 = 1 := by omega
      rw [hk, if_neg (by decide), takeStep_one hlength, hp] at hoffer
      obtain ⟨hnone, hboard⟩ := hands_of_board (s := s) s.boardBill n ((c.ws + p) / 3600) p 0
      exact ⟨_, hexec.trans (congrArg Host.Outcome.next hoffer), metered_eq .., ⟨hnone, hboard⟩,
        metered_channel s n _ _ _ hlength, hother s _ _ _, rfl⟩
    · intro metered
      have hstepped := stepped_figures c stamp.toNat p k v hpos
      rw [hpower, ← hk, if_neg (by omega), hp, Option.getD_some] at hoffer
      by_cases hone : k = 1
      · subst hone
        obtain ⟨hnone, hboard⟩ := hands_of_board (s := s) s.boardBill n ((c.ws + p) / 3600) p 0
        have hmetered : metered = p := by simp [metered]
        have hchannel := metered_channel s n ((s.channel n).stepped stamp.toNat p 1 v)
          (s.hands s.boardBill n (((s.channel n).ws + p) / 3600) p 0) s.free hlength
        rw [hoffer, takeStep_one hlength] at hexec
        refine ⟨_, hexec, ?_, ?_, ?_, ?_, ?_, ?_, hnone, fun hb _ => ?_⟩
        · rw [hchannel]; exact hstepped.1
        · rw [hchannel]; exact hstepped.2
        · rw [hchannel]; rfl
        · rw [hchannel]; rfl
        · rw [hchannel]; rfl
        · rw [hchannel]; rfl
        · rw [hmetered]
          exact hboard hb
      · obtain ⟨b, free, hstep, hnone, hboard⟩ := takeStep_gap hlength stamp.toNat p k v (by omega) hcount
        have hchannel := metered_channel s n ((s.channel n).stepped stamp.toNat p k v) b free hlength
        rw [hoffer, hstep] at hexec
        refine ⟨_, hexec, ?_, ?_, ?_, ?_, ?_, ?_, hnone, fun hb hentries => ?_⟩
        · rw [hchannel]; exact hstepped.1
        · rw [hchannel]; exact hstepped.2
        · rw [hchannel]; rfl
        · rw [hchannel]; rfl
        · rw [hchannel]; rfl
        · rw [hchannel]; rfl
        · rw [if_neg hone]
          exact hboard hb hentries
  · intro resumed
    refine ⟨fun hstate => ?_, fun hstate => ?_⟩
    · have hoffer := offerReading_resumed hused stamp.toNat (signed32 (rd4 p3 p2 p1 p0)) (.inl hstate)
      rw [resynchronise_metered (leaveLost_of_not_lost (by rw [hstate]; decide)) hlength, hp] at hoffer
      obtain ⟨hnone, hboard⟩ := hands_of_board (s := s) s.boardBill n ((c.ws + p) / 3600) p 0
      exact ⟨_, hexec.trans (congrArg Host.Outcome.next hoffer), metered_eq .., ⟨hnone, hboard⟩,
        metered_channel s n _ _ _ hlength, hother s _ _ _⟩
    · have hoffer := offerReading_resumed hused stamp.toNat (signed32 (rd4 p3 p2 p1 p0)) (.inr hstate)
      obtain ⟨hmeter, hbill, hruns⟩ := leaveLost_keeps s n
      have hchannel : ∀ m, (leaveLost n s).channel m = s.channel m := fun m => by
        rw [State.channel, State.channel, hmeter]
      rw [resynchronise_metered rfl (by rw [hmeter]; exact hlength), hp, hchannel, hbill] at hoffer
      obtain ⟨hnone, hboard⟩ := hands_of_board (s := leaveLost n s) s.boardBill n ((c.ws + p) / 3600) p 0
      rw [hruns] at hnone hboard
      refine ⟨_, hexec.trans (congrArg Host.Outcome.next hoffer), ⟨hnone, hboard⟩,
        metered_channel _ n _ _ _ (by rw [hmeter]; exact hlength), fun m hm => (hother _ _ _ _ m hm).trans (hchannel m),
        fun hb => ?_, fun hset => ?_, fun hstation => ?_⟩
      · have hleave : leaveLost n s = addEvent s (.meterLostCleared n) := by
          rw [leaveLost, if_pos hstate, if_pos hb]
        rw [hleave]
        rfl
      · have hnot : s.runs .board = false := runs_of_set hset
        have hleave : leaveLost n s = settle (clearCondition s .meterLost) := by
          rw [leaveLost, if_pos hstate, if_neg (by rw [hnot]; decide), if_pos (inUse_of_set hset hused),
            dutyEvent_of_runs hawake hset]
        rw [metered_present, hleave]
        refine settle_absent (s := clearCondition s .meterLost) ?_
        rw [present_of_conditions (clearCondition_effect _ _).1]
        simp
      · have hleave : leaveLost n s = s := by
          have hnot := not_runs_of_unconfigured hstation
          rw [leaveLost, if_pos hstate, if_neg (by rw [hnot]; decide)]
          split
          · rw [dutyEvent, whenRuns_of_not_runs (hnot .set)]
          · rfl
        rw [hleave, State.hands, if_neg (by rw [not_runs_of_unconfigured hstation]; decide)]
        rfl

end Sys2Proof.Machine
end

section
/-! PROOFS. The meter link's errors, and the silence of a channel (O37). -/
set_option Elab.async false

namespace Sys2Proof.Machine

/-! ## The link, character by character (R32, R46, R197) -/

/-- The link holds the characters of a reading into which no restart has fallen. -/
theorem readMeter_begun {s : State} (rest : List Byte) (h : rest.length < 7) (hlink : s.meter.link = []) :
    readMeter (syncChar :: rest) s = setLink s (syncChar :: rest) false := by
  have hwithin := readMeter_within (s := setLink s [syncChar] false) (by simp) rest (by simp [lastPlace]; omega)
  have hbegins : readMeter (syncChar :: rest) s = readMeter rest (linkChar s syncChar) := rfl
  rw [hbegins, linkChar_begins hlink, hwithin]
  rfl

theorem readMeter_skips {s : State} {first : Byte} (rest : List Byte) (hfirst : first ≠ syncChar)
    (hlink : s.meter.link = []) : readMeter (first :: rest) s = readMeter rest s := by
  have hskips : readMeter (first :: rest) s = readMeter rest (linkChar s first) := rfl
  rw [hskips, linkChar_skips hlink hfirst]

theorem readMeter_append (a b : List Byte) (s : State) : readMeter (a ++ b) s = readMeter b (readMeter a s) :=
  List.foldl_append

/-- Characters that follow a reading begun are read as if the whole came at once. -/
theorem readMeter_continued {s : State} {begun : List Byte} (more : List Byte) (h : begun.length ≤ 6)
    (hlink : s.meter.link = syncChar :: begun) (hold : s.meter.linkOld = false) :
    readMeter (syncChar :: begun ++ more) (setLink s [] false) = readMeter more s := by
  rw [readMeter_append, readMeter_begun (s := setLink s [] false) begun (by omega) rfl]
  exact congrArg (readMeter more) (setLink_same hlink hold)

/-- A reading that arrives with RESET held low is passed over (R46). -/
theorem readMeter_held {s : State} {ch stamp p3 p2 p1 p0 check : Byte} (hlink : s.meter.link = [])
    (hold : s.meter.linkOld = false) (hreset : s.resetHeld = true)
    (hcheck : ch + stamp + p3 + p2 + p1 + p0 + check = 0#8) :
    readMeter [165#8, ch, stamp, p3, p2, p1, p0, check] s = s := by
  have hbegun := readMeter_begun (s := s) [ch, stamp, p3, p2, p1, p0] (by simp) hlink
  have hlast := linkChar_completes (s := setLink s [syncChar, ch, stamp, p3, p2, p1, p0] false) rfl check
  have hpasses : completeReading [syncChar, ch, stamp, p3, p2, p1, p0, check]
      (setLink s [syncChar, ch, stamp, p3, p2, p1, p0] false) =
      passReading [syncChar, ch, stamp, p3, p2, p1, p0, check] (setLink s [] false) :=
    if_pos (by
      rw [show (setLink s [syncChar, ch, stamp, p3, p2, p1, p0] false).resetHeld = true from hreset, Bool.or_true])
  have hpassed : passReading [syncChar, ch, stamp, p3, p2, p1, p0, check] (setLink s [] false) = setLink s [] false :=
    if_neg (not_not_intro hcheck)
  have hsplit : readMeter [165#8, ch, stamp, p3, p2, p1, p0, check] s =
      linkChar (readMeter [syncChar, ch, stamp, p3, p2, p1, p0] s) check := rfl
  rw [hsplit, hbegun, hlast]
  exact hpasses.trans (hpassed.trans (setLink_same hlink hold))

theorem exec_meterReadingTimeout {s : State} (hmain : s.mainOn = true) :
    exec .meterReadingTimeout s = .next (endReading s) := congrArg Host.Outcome.next (if_pos hmain)

/-! ## Silence (R41, R42) -/

theorem exec_channelStalled {s : State} (hawake : s.awake = true) (n : Nat) :
    exec (.channelStalled n) s =
      .next (if s.stalledDue n = true then setChannel s n { s.channel n with state := .stalled } else s) :=
  congrArg Host.Outcome.next (whenAwake_of_awake hawake _)

theorem exec_channelLost {s : State} (hawake : s.awake = true) (n : Nat) :
    exec (.channelLost n) s = .next (if s.lostDue n = true then enterLost n s else s) :=
  congrArg Host.Outcome.next (whenAwake_of_awake hawake _)

/-- The notices of a loss leave the metering unit as it is. -/
theorem lostNotices_meter (n : Nat) (s : State) : (lostNotices n s).meter = s.meter := by
  unfold lostNotices
  split
  · split <;> rfl
  · split
    · exact ((State.Touches.refl dutyParts s).thenDutyEvent
        (fun v => (State.Touches.refl actParts v).thenRaiseCondition .meterLost)).same .meter (by decide)
    · rfl

section notices
variable {s : State} {n : Nat} {c : Channel} {b : BoardSettlement} {free : Nat}

theorem lostNotices_of_board (hruns : s.runs .board = true) :
    lostNotices n (s.metered n c b free) = addEvent
      (if n = 0 then s.metered n c (markIncomerLost b) free else s.metered n c b free) (.meterLostRaised n) :=
  if_pos (by exact hruns)

theorem lostNotices_of_set (hawake : s.awake = true) (hruns : s.runs .set = true) (hn : n = 0) :
    lostNotices n (s.metered n c b free) = settle (raiseCondition (s.metered n c b free) .meterLost) := by
  have hnot : (s.metered n c b free).runs .board = false := runs_of_set (s := s) hruns
  rw [lostNotices, if_neg (by rw [hnot]; decide), if_pos hn,
    dutyEvent_of_runs (s := s.metered n c b free) hawake hruns]

theorem lostNotices_of_unconfigured (hstation : s.station = .unconfigured) :
    lostNotices n (s.metered n c b free) = s.metered n c b free := by
  have hnot : ∀ r, (s.metered n c b free).runs r = false := not_runs_of_unconfigured (s := s) hstation
  rw [lostNotices, if_neg (by rw [hnot]; decide), dutyEvent, whenRuns_of_not_runs (hnot .set), ite_self]

end notices

/-- The record of a channel that enters LOST. -/
def Channel.gone (c : Channel) : Channel := { c with state := .lost, unmetered := c.unmetered + 10 }

/-- Entering LOST is a change of the channel's record, of the table, and the notices. -/
theorem enterLost_eq {s : State} {n : Nat} (hlength : n < s.meter.channels.length)
    (hcount : (s.channel n).unmetered + 10 < two32) :
    ∃ free, enterLost n s = lostNotices n (s.metered n (s.channel n).gone
      (if s.runs .board = true then placeUnmetered s.free s.boardBill 10 else s.boardBill) free) ∧
      (s.runs .board = false → free = s.free) := by
  obtain ⟨free, hadded, hfree⟩ := addUnmetered_metered hlength { s.channel n with state := .lost } s.boardBill s.free 10
    hcount
  exact ⟨free, congrArg (lostNotices n) hadded, hfree⟩

/-- The table of a BOARD as its channel enters LOST. -/
theorem lost_table (b : BoardSettlement) (n : Nat) :
    (if n = 0 then markIncomerLost (b.missed 10) else b.missed 10) =
      { b with
          table := b.table.map (fun e =>
            if e.state = .current then
              { e with unmetered := e.unmetered + 10, incomerLost := if n = 0 then true else e.incomerLost }
            else e) } := by
  by_cases hn : n = 0
  · have hmap : atCurrent (fun e => { e with incomerLost := true }) (b.missed 10).table =
        b.table.map (fun e => if e.state = .current then
          { e with unmetered := e.unmetered + 10, incomerLost := if n = 0 then true else e.incomerLost } else e) := by
      refine (List.map_map ..).trans (List.map_congr_left (fun e _ => ?_))
      by_cases he : e.state = .current <;> simp [he, hn]
    rw [if_pos hn]
    exact congrArg (fun l => ({ b with table := l } : BoardSettlement)) hmap
  · have hmap : (b.missed 10).table =
        b.table.map (fun e => if e.state = .current then
          { e with unmetered := e.unmetered + 10, incomerLost := if n = 0 then true else e.incomerLost } else e) := by
      refine List.map_congr_left (fun e _ => ?_)
      by_cases he : e.state = .current <;> simp [he, hn]
    rw [if_neg hn]
    exact congrArg (fun l => ({ b with table := l } : BoardSettlement)) hmap

/-- Settles O37: the link's characters and the silence of a channel, each by its own step. -/
theorem badReadingsAndSilenceAreCounted : Obligations.BadReadingsAndSilenceAreCounted := by
  unfold Obligations.BadReadingsAndSilenceAreCounted
  refine ⟨fun s ch stamp p3 p2 p1 p0 check hawake => ?_, fun s ch stamp p3 p2 p1 p0 check hmain hreset hlink hold hcheck =>
    ?_, fun s n hawake hused hlength => ?_⟩
  · intro counted reading linked
    obtain ⟨hmain, hreset⟩ := awake_iff.mp hawake
    refine ⟨fun hlink hold => ⟨fun hcheck => ?_, fun hcheck hchannel => ?_, fun hcheck hchannel hunused => ?_,
      fun rest hrest => ?_, fun first rest hfirst => ?_, ?_⟩, fun begun more hbegun hlink => ⟨fun hold => ?_, fun hfew => ?_⟩,
      fun hlink hold => ?_, fun hlink => ⟨?_, ?_, fun c hc => ?_⟩⟩
    · rw [exec_reading hawake hlink hold, judgeReading, if_pos hcheck]
      rfl
    · rw [exec_reading hawake hlink hold, judgeReading, if_neg (not_not_intro hcheck), if_pos hchannel]
      rfl
    · rw [exec_reading_offered hawake hlink hold hcheck hchannel, offerReading, if_neg (by rw [hunused]; decide)]
    · rw [exec_meterReading hmain]
      exact congrArg Host.Outcome.next (readMeter_begun rest hrest hlink)
    · rw [exec_meterReading hmain, exec_meterReading hmain, readMeter_skips rest hfirst hlink]
    · rw [exec_meterReadingTimeout hmain, endReading, if_pos hlink]
    · rw [exec_meterReading hmain, exec_meterReading (s := linked s []) hmain]
      exact congrArg Host.Outcome.next (readMeter_continued more hbegun hlink hold).symm
    · rw [exec_meterReading hmain, readMeter_within (by rw [hlink]; exact List.cons_ne_nil _ _) more
        (by rw [hlink, List.length_cons]; simp only [lastPlace]; omega), hlink]
      rfl
    · have hlast : readMeter [check] s = passReading [165#8, ch, stamp, p3, p2, p1, p0, check] (setLink s [] false) := by
        have hcompletes := linkChar_completes (s := s) (by rw [hlink]; rfl) check
        rw [hlink, completeReading_passes hold] at hcompletes
        exact hcompletes
      rw [exec_meterReading hmain, hlast]
      exact ⟨fun hcheck => congrArg Host.Outcome.next (if_neg (not_not_intro hcheck)),
        fun hcheck => congrArg Host.Outcome.next (if_pos hcheck)⟩
    · rw [exec_meterReadingTimeout hmain, endReading, if_neg hlink]
      rfl
    · rw [exec_meterReading (s := linked counted []) hmain]
      exact congrArg Host.Outcome.next (linkChar_begins (s := linked counted []) rfl)
    · rw [exec_meterReading (s := linked counted []) hmain]
      exact congrArg Host.Outcome.next (linkChar_skips (s := linked counted []) rfl hc)
  · rw [exec_meterReading hmain, readMeter_held hlink hold hreset hcheck]
  · intro c
    refine ⟨fun hstate hsilence => ?_, fun h => ?_, fun hstate hsilence hcount => ?_, fun h => ?_⟩
    · rw [exec_channelStalled hawake, if_pos]
      · rfl
      · rw [State.stalledDue, hused, show (s.channel n).state = .active from hstate]
        simpa using hsilence
    · rw [exec_channelStalled hawake, if_neg]
      rcases h with h | h
      · simp [State.stalledDue, show (s.channel n).state ≠ .active from h]
      · simp [State.stalledDue, show (s.channel n).silence < 3 from h]
    · have hdue : s.lostDue n = true := by
        rw [State.lostDue, hused]
        rcases hstate with h | h <;> rw [show (s.channel n).state = _ from h] <;> simpa using hsilence
      obtain ⟨free, hlost, hfree⟩ := enterLost_eq hlength hcount
      refine ⟨_, by rw [exec_channelLost hawake, if_pos hdue], ?_⟩
      rw [hlost]
      refine ⟨lostNotices_meter n _, fun hb => ?_, fun hset hn => ?_, fun hstation => ?_⟩
      · rw [if_pos hb, lostNotices_of_board hb]
        refine ⟨by split <;> rfl, fun hn e he hcurrent => ?_, fun hentries => ?_⟩
        · rw [if_pos hn] at he
          obtain ⟨x, -, rfl⟩ := List.mem_map.mp he
          by_cases hx : x.state = .current
          · simp only [hx, if_true]
          · simp only [hx, if_false] at hcurrent
        · rw [placeUnmetered_eq hentries, ← lost_table]
          by_cases hn : n = 0
          · rw [if_pos hn, if_pos hn]
            rfl
          · rw [if_neg hn, if_neg hn]
            rfl
      · rw [lostNotices_of_set hawake hset hn, settle_present _ ⟨by decide, by decide, by decide⟩,
          raiseCondition_present]
      · have hnot := not_runs_of_unconfigured hstation
        rw [hfree (hnot .board), if_neg (by rw [hnot]; decide), lostNotices_of_unconfigured hstation]
        rfl
    · rw [exec_channelLost hawake, if_neg]
      rcases h with ⟨h1, h2⟩ | h
      · simp [State.lostDue, show (s.channel n).state ≠ .stalled from h1, show (s.channel n).state ≠ .noData from h2]
      · simp [State.lostDue, show (s.channel n).silence < 10 from h]

end Sys2Proof.Machine
end

section
/-! PROOFS. What a second advances: channels, table, line and the counts of the role's blocks (O11). -/
set_option Elab.async false

namespace Sys2Proof.Machine

/-! ## The second of the channels (R41, R42, R44) -/

/-- A second of the channels changes metering, settlement table and free values alone. -/
def State.Metered (s t : State) : Prop :=
  ∃ meter bill free, t = { s with meter := meter, boardBill := bill, free := free }

theorem State.Metered.trans {s t u : State} (h : s.Metered t) (g : t.Metered u) : s.Metered u := by
  obtain ⟨meter, bill, free, rfl⟩ := h
  obtain ⟨meter', bill', free', rfl⟩ := g
  exact ⟨meter', bill', free', rfl⟩

theorem channelSecond_metered (s : State) (n : Nat) : s.Metered (channelSecond s n) := by
  unfold channelSecond
  split
  · dsimp only
    split
    · unfold addUnmetered
      dsimp only
      split
      · exact ⟨_, _, _, rfl⟩
      · exact ⟨_, s.boardBill, _, rfl⟩
    · exact ⟨_, s.boardBill, s.free, rfl⟩
  · exact ⟨s.meter, s.boardBill, s.free, rfl⟩

theorem foldl_channelSecond_metered : ∀ (l : List Nat) (s : State), s.Metered (l.foldl channelSecond s)
  | [], s => ⟨s.meter, s.boardBill, s.free, rfl⟩
  | n :: l, s => (channelSecond_metered s n).trans (foldl_channelSecond_metered l _)

theorem State.Metered.inUse {s t : State} (h : s.Metered t) (n : Nat) : t.inUse n = s.inUse n := by
  obtain ⟨meter, bill, free, rfl⟩ := h
  rfl

theorem channel_of_beyond {s : State} {n : Nat} (h : s.meter.channels.length ≤ n) : s.channel n = blankChannel :=
  getD_of_le _ _ h

/-- A channel that is LOST stands in the list. -/
theorem length_of_lost {s : State} {n : Nat} (h : (s.channel n).state = .lost) : n < s.meter.channels.length := by
  by_cases hlength : n < s.meter.channels.length
  · exact hlength
  · rw [channel_of_beyond (Nat.not_lt.mp hlength)] at h
    cases h

/-- The record of a channel after its second, its silence one longer. -/
def Channel.waited (c : Channel) : Channel := { c with silence := min 65535 (c.silence + 1) }

section tick
variable {s : State} {n : Nat}

theorem channelSecond_unused (h : s.inUse n = false) : channelSecond s n = s := if_neg (by rw [h]; decide)

theorem channelSecond_heard (hused : s.inUse n = true) (h : (s.channel n).state ≠ .lost) :
    channelSecond s n = s.metered n (s.channel n).waited s.boardBill s.free := by
  unfold channelSecond
  rw [if_pos hused]
  exact if_neg h

theorem channelSecond_lost (hused : s.inUse n = true) (h : (s.channel n).state = .lost) :
    ∃ free, channelSecond s n =
      s.metered n { (s.channel n).waited with unmetered := countOn s.free (s.channel n).unmetered 1 }
        (if s.runs .board = true then
          placeUnmetered (freeAfter two32 s.free (s.channel n).unmetered 1) s.boardBill 1 else s.boardBill) free := by
  obtain ⟨free, hadded, -⟩ := addUnmetered_counted (length_of_lost h) (s.channel n).waited s.boardBill s.free 1
  refine ⟨free, Eq.trans ?_ hadded⟩
  unfold channelSecond
  rw [if_pos hused]
  exact if_pos h

theorem channelSecond_other {m : Nat} (hm : m ≠ n) : (channelSecond s n).channel m = s.channel m := by
  cases hused : s.inUse n with
  | false => rw [channelSecond_unused hused]
  | true =>
    by_cases hlost : (s.channel n).state = .lost
    · obtain ⟨free, h⟩ := channelSecond_lost hused hlost
      rw [h, metered_channel_other s n _ _ _ hm]
    · rw [channelSecond_heard hused hlost, metered_channel_other s n _ _ _ hm]

theorem channelSecond_length : (channelSecond s n).meter.channels.length = s.meter.channels.length := by
  cases hused : s.inUse n with
  | false => rw [channelSecond_unused hused]
  | true =>
    by_cases hlost : (s.channel n).state = .lost
    · obtain ⟨free, h⟩ := channelSecond_lost hused hlost
      rw [h]
      exact List.length_set
    · rw [channelSecond_heard hused hlost]
      exact List.length_set

/-- A second moves no channel to another state, and leaves its window. -/
theorem channelSecond_state (m : Nat) : ((channelSecond s n).channel m).state = (s.channel m).state ∧
    ((channelSecond s n).channel m).average = (s.channel m).average := by
  by_cases hm : m = n
  · subst hm
    cases hused : s.inUse m with
    | false => rw [channelSecond_unused hused]; exact ⟨rfl, rfl⟩
    | true =>
      by_cases hlost : (s.channel m).state = .lost
      · obtain ⟨free, h⟩ := channelSecond_lost hused hlost
        rw [h, metered_channel s m _ _ _ (length_of_lost hlost)]
        exact ⟨rfl, rfl⟩
      · rw [channelSecond_heard hused hlost]
        by_cases hlength : m < s.meter.channels.length
        · rw [metered_channel s m _ _ _ hlength]
          exact ⟨rfl, rfl⟩
        · have hset : (s.metered m (s.channel m).waited s.boardBill s.free).meter.channels.length ≤ m :=
            by exact Nat.le_trans (Nat.le_of_eq (List.length_set ..)) (Nat.not_lt.mp hlength)
          rw [channel_of_beyond hset, channel_of_beyond (Nat.not_lt.mp hlength)]
          exact ⟨rfl, rfl⟩
  · rw [channelSecond_other hm]
    exact ⟨rfl, rfl⟩

/-- The channel whose second it is. -/
theorem channelSecond_same (hlength : n < s.meter.channels.length) (hused : s.inUse n = true) :
    ((channelSecond s n).channel n).silence = min 65535 ((s.channel n).silence + 1) ∧
    ((s.channel n).unmetered + 1 < two32 →
      ((channelSecond s n).channel n).unmetered =
        (s.channel n).unmetered + if (s.channel n).state = .lost then 1 else 0) := by
  by_cases hlost : (s.channel n).state = .lost
  · obtain ⟨free, h⟩ := channelSecond_lost hused hlost
    rw [h, metered_channel s n _ _ _ hlength, if_pos hlost]
    exact ⟨rfl, fun hcount => if_pos hcount⟩
  · rw [channelSecond_heard hused hlost, metered_channel s n _ _ _ hlength, if_neg hlost]
    exact ⟨rfl, fun _ => rfl⟩

end tick

theorem foldl_channelSecond_other {n : Nat} : ∀ (l : List Nat) (s : State), n ∉ l →
    (l.foldl channelSecond s).channel n = s.channel n ∧
      (l.foldl channelSecond s).meter.channels.length = s.meter.channels.length
  | [], _, _ => ⟨rfl, rfl⟩
  | m :: l, s, h => by
    obtain ⟨hne, hl⟩ := not_or.mp (fun h' => h (List.mem_cons.mpr h'))
    obtain ⟨hchannel, hlength⟩ := foldl_channelSecond_other l (channelSecond s m) hl
    exact ⟨hchannel.trans (channelSecond_other hne), hlength.trans channelSecond_length⟩

/-- A channel in use has one second in the second of all. -/
theorem meterTick_channel {s : State} {n : Nat} (hlength : n < s.meter.channels.length) (hn : n ≤ 12)
    (hused : s.inUse n = true) :
    ((meterTick s).channel n).silence = min 65535 ((s.channel n).silence + 1) ∧
    ((s.channel n).unmetered + 1 < two32 →
      ((meterTick s).channel n).unmetered = (s.channel n).unmetered + if (s.channel n).state = .lost then 1 else 0) := by
  have hall : allChannels = List.range 13 := by decide
  have hmem : n ∈ allChannels := by rw [hall]; exact List.mem_range.mpr (by omega)
  have hnodup : allChannels.Nodup := by rw [hall]; exact List.nodup_range
  obtain ⟨before, after, hsplit⟩ := List.append_of_mem hmem
  rw [hsplit] at hnodup
  obtain ⟨hbefore, hafter⟩ : n ∉ before ∧ n ∉ after := by
    have hmiddle := List.perm_middle.nodup_iff.mp hnodup
    have hout := (List.nodup_cons.mp hmiddle).1
    exact ⟨fun h => hout (List.mem_append_left _ h), fun h => hout (List.mem_append_right _ h)⟩
  obtain ⟨hchannel, hsame⟩ := foldl_channelSecond_other before s hbefore
  have hused' : (before.foldl channelSecond s).inUse n = true := by
    rw [(foldl_channelSecond_metered before s).inUse]
    exact hused
  have hown := channelSecond_same (s := before.foldl channelSecond s) (n := n) (by rw [hsame]; exact hlength) hused'
  have htick : (meterTick s).channel n = (channelSecond (before.foldl channelSecond s) n).channel n := by
    rw [meterTick, hsplit, List.foldl_append, List.foldl_cons, (foldl_channelSecond_other after _ hafter).1]
  rw [htick]
  rwa [hchannel] at hown

theorem foldl_channelSecond_state (m : Nat) : ∀ (l : List Nat) (s : State),
    ((l.foldl channelSecond s).channel m).state = (s.channel m).state ∧
      ((l.foldl channelSecond s).channel m).average = (s.channel m).average
  | [], _ => ⟨rfl, rfl⟩
  | n :: l, s => by
    obtain ⟨hstate, haverage⟩ := foldl_channelSecond_state m l (channelSecond s n)
    exact ⟨hstate.trans (channelSecond_state m).1, haverage.trans (channelSecond_state m).2⟩

theorem meterTick_output (s : State) : (meterTick s).output = s.output := (foldl_channelSecond_state 0 allChannels s).2

/-! ## The settlement table of a BOARD over a second (R157, R159, R163) -/

/-- What a second counts of an entry. -/
def Entry.timing (e : Entry) : EntryState × Nat × Nat × Nat := (e.state, e.age, e.wait, e.waitLength)

theorem placeUnmetered_timing (free : Nat) (b : BoardSettlement) (d : Nat) :
    (placeUnmetered free b d).table.map Entry.timing = b.table.map Entry.timing := by
  refine (List.map_map ..).trans (List.map_congr_left (fun e _ => ?_))
  by_cases he : e.state = .current <;> simp [he, Entry.timing]

theorem channelSecond_timing (s : State) (n : Nat) :
    (channelSecond s n).boardBill.table.map Entry.timing = s.boardBill.table.map Entry.timing := by
  cases hused : s.inUse n with
  | false => rw [channelSecond_unused hused]
  | true =>
    by_cases hlost : (s.channel n).state = .lost
    · obtain ⟨free, h⟩ := channelSecond_lost hused hlost
      rw [h]
      change (if s.runs .board = true then _ else _ : BoardSettlement).table.map Entry.timing = _
      split
      · exact placeUnmetered_timing ..
      · rfl
    · rw [channelSecond_heard hused hlost]
      rfl

theorem meterTick_timing (s : State) :
    (meterTick s).boardBill.table.map Entry.timing = s.boardBill.table.map Entry.timing := by
  have hfold : ∀ (l : List Nat) (v : State),
      (l.foldl channelSecond v).boardBill.table.map Entry.timing = v.boardBill.table.map Entry.timing := fun l => by
    induction l with
    | nil => exact fun _ => rfl
    | cons n l ih => exact fun v => (ih _).trans (channelSecond_timing v n)
  exact hfold allChannels s

theorem missed_zero (b : BoardSettlement) : b.missed 0 = b := by
  have hmap : b.table.map (fun e => if e.state = .current then { e with unmetered := e.unmetered + 0 } else e) =
      b.table := by
    conv => rhs; rw [← List.map_id b.table]
    refine List.map_congr_left (fun e _ => ?_)
    split <;> rfl
  exact congrArg (fun l => ({ b with table := l } : BoardSettlement)) hmap

theorem missed_missed (b : BoardSettlement) (c d : Nat) : (b.missed c).missed d = b.missed (c + d) := by
  have hmap : (b.missed c).table.map (fun e => if e.state = .current then { e with unmetered := e.unmetered + d } else e) =
      b.table.map (fun e => if e.state = .current then { e with unmetered := e.unmetered + (c + d) } else e) := by
    refine (List.map_map ..).trans (List.map_congr_left (fun e _ => ?_))
    by_cases he : e.state = .current <;> simp [he, Nat.add_assoc]
  exact congrArg (fun l => ({ b with table := l } : BoardSettlement)) hmap

/-- Whether a channel costs the CURRENT entry a second. -/
def State.misses (s : State) (n : Nat) : Bool := s.inUse n && (s.channel n).state == .lost

theorem misses_of_metered {s t : State} (h : s.Metered t) (hstate : ∀ m, (t.channel m).state = (s.channel m).state) :
    t.misses = s.misses := by
  funext n
  rw [State.misses, State.misses, h.inUse, hstate]

/-- Each LOST channel in use costs the CURRENT entry of a BOARD one second. -/
theorem foldl_channelSecond_missed : ∀ (l : List Nat) (s : State), s.runs .board = true →
    (∀ e ∈ s.boardBill.table, e.state = .current → e.unmetered + l.length < two32) →
      (l.foldl channelSecond s).boardBill = s.boardBill.missed (l.countP s.misses)
  | [], s, _, _ => (missed_zero _).symm
  | n :: l, s, hruns, hcount => by
    have hkeeps := misses_of_metered (channelSecond_metered s n) (fun m => (channelSecond_state (n := n) m).1)
    have hruns' : (channelSecond s n).runs .board = true := by
      obtain ⟨meter, bill, free, h⟩ := channelSecond_metered s n
      rw [h]
      exact hruns
    have hrest := foldl_channelSecond_missed l (channelSecond s n) hruns'
    rw [List.foldl_cons, List.countP_cons]
    cases hmisses : s.misses n with
    | false =>
      have hbill : (channelSecond s n).boardBill = s.boardBill := by
        cases hused : s.inUse n with
        | false => rw [channelSecond_unused hused]
        | true =>
          rw [channelSecond_heard hused (fun hlost => by simp [State.misses, hused, hlost] at hmisses)]
          rfl
      rw [hbill] at hrest
      rw [hrest (fun e he hcurrent => by have := hcount e he hcurrent; simp only [List.length_cons] at this; omega), hkeeps]
      rfl
    | true =>
      obtain ⟨hused, hlost⟩ : s.inUse n = true ∧ (s.channel n).state = .lost := by
        simpa [State.misses] using hmisses
      obtain ⟨free, h⟩ := channelSecond_lost hused hlost
      have hone : ∀ e ∈ s.boardBill.table, e.state = .current → e.unmetered + 1 < two32 := fun e he hcurrent => by
        have := hcount e he hcurrent
        simp only [List.length_cons] at this
        omega
      have hbill : (channelSecond s n).boardBill = s.boardBill.missed 1 := by
        rw [h]
        exact (if_pos hruns).trans (placeUnmetered_eq hone _)
      rw [hbill] at hrest
      have hroom : ∀ e ∈ (s.boardBill.missed 1).table, e.state = .current → e.unmetered + l.length < two32 :=
        fun e he hcurrent => by
          obtain ⟨x, hx, rfl⟩ := List.mem_map.mp he
          by_cases hxc : x.state = .current
          · have := hcount x hx hxc
            simp only [List.length_cons] at this
            simp only [hxc, if_true]
            omega
          · simp only [hxc, if_false] at hcurrent
      rw [hrest hroom, hkeeps, missed_missed, Nat.add_comm]
      rfl

end Sys2Proof.Machine
end

section
/-! PROOFS. The STATUS interval through the second of a SET, and what the second leaves of its blocks (O11). -/
set_option Elab.async false

namespace Sys2Proof.Machine

/-! ## The STATUS interval: kept, or begun again by a posting (R25) -/

/-- The interval count stands, or a STATUS has begun it again. -/
def State.Tells (s t : State) : Prop := t.line.statusTimer = s.line.statusTimer ∨ t.line.statusTimer = some 0

theorem acceptFrame_statusTimer (l : LineCtl) (f : TxFrame) : (acceptFrame l f).statusTimer = l.statusTimer := by
  unfold acceptFrame
  repeat' split
  all_goals rfl

namespace State.Tells

variable {s t u : State}

theorem refl (s : State) : s.Tells s := .inl rfl

theorem trans (h : s.Tells t) (g : t.Tells u) : s.Tells u := by
  rcases g with g | g
  · exact h.imp (fun h => g.trans h) (fun h => g.trans h)
  · exact .inr g

/-- A change beside the line. -/
theorem of_line (h : t.line = s.line) : s.Tells t := .inl (congrArg LineCtl.statusTimer h)

theorem ite {p : Prop} [Decidable p] (h : s.Tells t) (g : s.Tells u) : s.Tells (if p then t else u) := by
  split
  · exact h
  · exact g

theorem foldl {α : Type} {f : State → α → State} (hf : ∀ (v : State) (x : α), v.Tells (f v x)) :
    ∀ (l : List α) (s : State), s.Tells (l.foldl f s)
  | [], s => .refl s
  | x :: l, s => (hf s x).trans (foldl hf l _)

end State.Tells

theorem post_tells (s : State) (dest : Nat) (b : Body) : s.Tells (post s dest b) := by
  refine .inl ?_
  change (if s.posts = true then acceptFrame s.line (newFrame dest b) else s.line).statusTimer = _
  split
  · exact acceptFrame_statusTimer ..
  · rfl

theorem postStatus_tells (s : State) : s.Tells (postStatus s) := by
  cases h : s.ownStatus with
  | none =>
    refine .inl ?_
    simp only [postStatus, h]
  | some b =>
    by_cases hrun : s.station = .run
    · refine .inr ?_
      simp only [postStatus, h, if_pos hrun]
    · refine .inl ?_
      simp only [postStatus, h, if_neg hrun]

/-- A change beside the line, then a STATUS. -/
theorem tells_postStatus {s t : State} (h : t.line = s.line) : s.Tells (postStatus t) :=
  (State.Tells.of_line h).trans (postStatus_tells t)

theorem refuseEntry_tells (reason : Nat) (s : State) (r : Reservation) : s.Tells (refuseEntry reason s r) :=
  (State.Tells.of_line rfl).trans (post_tells { s with reservations := withoutBoard r.board s.reservations } _ _)

theorem refuseAll_tells (s : State) (reason : Nat) : s.Tells (refuseAll s reason) :=
  .foldl (refuseEntry_tells reason) s.reservations s

theorem recheckEntry_tells (s : State) (r : Reservation) : s.Tells (recheckEntry s r) := by
  unfold recheckEntry
  split
  · exact .trans (.of_line rfl) (post_tells _ _ _)
  · exact refuseEntry_tells ..

theorem recheckAll_tells (s : State) : s.Tells (recheckAll s) := .foldl recheckEntry_tells _ s

theorem enterReady_tells (s : State) (fromWarming : Bool) : s.Tells (enterReady s fromWarming) := by
  unfold enterReady
  dsimp only
  refine .trans ?_ (postStatus_tells _)
  split
  · exact .trans (.of_line rfl) (recheckAll_tells _)
  · exact .of_line rfl

theorem enterWarming_tells (s : State) : s.Tells (enterWarming s) := by
  have hwarm : s.Tells (postStatus (zeroTimer (setDuty s .warming none))) := tells_postStatus rfl
  unfold enterWarming
  dsimp only
  split
  · exact hwarm.trans (enterReady_tells _ true)
  · exact hwarm

theorem startEngine_tells (s : State) : s.Tells (startEngine s) := by
  unfold startEngine
  dsimp only
  split
  · refine .trans ?_ (enterWarming_tells _)
    exact tells_postStatus rfl
  · exact tells_postStatus rfl

theorem primeStart_tells (s : State) : s.Tells (primeStart s) := .ite (startEngine_tells s) (.refl s)

theorem enterOff_tells (s : State) : s.Tells (enterOff s) := by
  refine .trans ?_ (primeStart_tells _)
  exact tells_postStatus rfl

theorem enterCooling_tells (s : State) (origin : Origin) : s.Tells (enterCooling s origin) := by
  unfold enterCooling
  dsimp only
  split
  · refine .trans ?_ (enterOff_tells _)
    refine .trans ?_ (.of_line (s := postStatus (pulse (zeroTimer (setDuty s .cooling (some origin))) .brkOpen)) rfl)
    exact tells_postStatus rfl
  · exact tells_postStatus rfl

theorem unloadTest_tells (s : State) : s.Tells (unloadTest s) := .ite (enterCooling_tells s .stopping) (.refl s)

theorem enterUnloading_tells (s : State) : s.Tells (enterUnloading s) := by
  refine .trans ?_ (unloadTest_tells _)
  refine .trans ?_ (postStatus_tells _)
  exact .trans (.of_line rfl) (refuseAll_tells _ reasonStopping)

theorem enterFault_tells (s : State) : s.Tells (enterFault s) := by
  refine .trans ?_ (postStatus_tells _)
  exact .trans (.of_line rfl) (refuseAll_tells _ reasonFault)

theorem actReaction_tells (s : State) : s.Tells (actReaction s) := by
  unfold actReaction
  split
  · split
    · exact .refl s
    · exact .trans (.of_line rfl) (enterFault_tells _)
  · split
    · exact .refl s
    · refine .trans ?_ (enterOff_tells _)
      exact .trans (.of_line rfl) (refuseAll_tells _ reasonStopping)
    · refine .trans ?_ (enterCooling_tells _ .stopping)
      exact .trans (.of_line rfl) (refuseAll_tells _ reasonStopping)
    · exact enterUnloading_tells s
    · exact .refl s
    · exact .of_line rfl
    · exact .refl s
  · exact .refl s
  · exact .refl s

theorem raiseEntry_tells (s : State) (c : FaultClass) (present : Bool) (e : Event) :
    s.Tells (raiseEntry s c present e) := by
  unfold raiseEntry
  dsimp only
  split
  · exact .of_line rfl
  · exact tells_postStatus rfl

theorem raiseCondition_tells (s : State) (c : FaultClass) : s.Tells (raiseCondition s c) := by
  refine .ite (.refl s) (.trans ?_ (actReaction_tells _))
  unfold raiseOnly
  dsimp only
  split
  · exact .refl s
  · split
    · exact .of_line rfl
    · exact .trans (.of_line rfl) (raiseEntry_tells ..)

theorem dropSettled_tells (s : State) : s.Tells (dropSettled s) := by
  unfold dropSettled
  dsimp only
  split
  · exact .of_line rfl
  · exact tells_postStatus rfl

theorem clearCondition_tells (s : State) (c : FaultClass) : s.Tells (clearCondition s c) := by
  unfold clearCondition
  dsimp only
  have hgone : s.Tells (if s.image.reaction c = .ignore then
      { s with duty := { s.duty with conditions := s.duty.conditions.filter (fun d => d != c) } }
    else dropSettled (addEvent
      { s with
          duty := { s.duty with
            conditions := s.duty.conditions.filter (fun d => d != c)
            faults := s.duty.faults.map (fun e => if e.cls = c then { e with present := false } else e) } }
      (.faultCleared c))) :=
    .ite (.of_line rfl) (.trans (.of_line rfl) (dropSettled_tells _))
  split
  · exact .ite (hgone.trans (primeStart_tells _)) hgone
  · exact .refl s

theorem settle_tells (s : State) : s.Tells (settle s) := by
  unfold settle
  dsimp only
  have hengine : s.Tells (if s.input 3 = false ∧ s.duty.runOn = false then clearCondition s .engineFault else s) :=
    .ite (clearCondition_tells s _) (.refl s)
  generalize (if s.input 3 = false ∧ s.duty.runOn = false then clearCondition s .engineFault else s) = t at hengine
  have hbreaker : t.Tells (if t.input 2 = t.duty.brkClosed then clearCondition t .breaker else t) :=
    .ite (clearCondition_tells t _) (.refl t)
  generalize (if t.input 2 = t.duty.brkClosed then clearCondition t .breaker else t) = u at hbreaker
  exact (hengine.trans hbreaker).trans (.ite (.refl u) (clearCondition_tells u _))

/-! ### The second of a SET -/

theorem setBase_tells (s : State) (i : SecondInputs) : (s.ticked i).Tells (s.setBase i) := by
  have hcounts : (s.ticked i).Tells (dutyCounts (s.ticked i)) := .of_line rfl
  have hduty : (s.ticked i).Tells (dutySecond (s.ticked i)) :=
    .trans (hcounts.trans (.ite (clearCondition_tells _ _) (.refl _))) (settle_tells _)
  exact hduty.trans (.of_line rfl)

theorem formDry_tells (s : State) : s.Tells (formDry s) := by
  unfold formDry
  split
  · exact .ite (tells_postStatus rfl) (.refl s)
  · exact .ite (.trans (.trans (.of_line rfl) (post_tells _ _ _)) (postStatus_tells _)) (.refl s)

section second
variable {s : State} (hawake : s.awake = true) (hruns : s.runs .set = true)
include hawake hruns

theorem finishTank_tells : s.Tells (finishTank s) := by
  rw [finishTank_eq hawake hruns]
  refine .trans ?_ (formDry_tells _)
  rw [State.judged]
  refine .ite (.of_line rfl) ?_
  unfold State.passed
  refine .trans ?_ (settle_tells _)
  exact .ite (.trans (.of_line rfl) (raiseCondition_tells _ _)) (.trans (.of_line rfl) (clearCondition_tells _ _))

theorem minuteSecond_tells : s.Tells (minuteSecond s) := by
  by_cases hend : 59 ≤ s.tank.minuteSeconds
  · rw [show minuteSecond s = _ from if_pos hend]
    exact .of_line rfl
  · rw [minuteSecond_within (by omega)]
    exact .trans (.of_line rfl) (finishTank_tells (s := s.later) hawake hruns)

omit hawake hruns in
theorem contented_line (s : State) : s.contented.line = s.line := by
  unfold State.contented formContent
  split
  case h_7 =>
    unfold matchSecond
    dsimp only
    repeat' split
    all_goals rfl
  all_goals rfl

theorem judgeLoop_tells : s.Tells (judgeLoop s) := by
  cases hgood : s.tank.good with
  | true =>
    cases hbroken : s.tank.loopClass.broken with
    | true =>
      have hline : s.broke.line = s.line := by
        unfold State.broke openHold
        dsimp only
        split <;> rfl
      rw [judgeLoop_breaks hawake hruns hgood hbroken]
      exact (State.Tells.of_line hline).trans ((raiseCondition_tells _ _).trans (settle_tells _))
    | false => rw [judgeLoop_enters hgood hbroken]; exact .of_line rfl
  | false =>
    by_cases hclass : s.tank.loopClass = .inRange
    · rw [judgeLoop_counts hgood hclass]; exact .of_line rfl
    · rw [judgeLoop_begins hgood hclass]; exact .of_line rfl

theorem tankSecond_tells : s.Tells (tankSecond s) := by
  obtain ⟨ha, hr, -, -⟩ := judgeLoop_awake hawake hruns
  obtain ⟨-, ha', hr'⟩ := tankParts_keep (contented_touches (judgeLoop s))
  rw [tankSecond_eq]
  refine .ite (judgeLoop_tells hawake hruns) ((judgeLoop_tells hawake hruns).trans ?_)
  rw [contentOn_eq]
  exact .ite (.of_line (contented_line _))
    (.trans (.of_line (contented_line _)) (minuteSecond_tells (ha'.trans ha) (hr'.trans hr)))

end second

/-! ## What the tank monitor's second leaves alone -/

/-- What the deliveries read, and a tank monitor's second keeps: the session and the pulses. -/
def State.pulsed (s : State) : SetDelivery × Nat × Nat := (s.delivery, s.tank.burnPulses, s.tank.inletPulses)

theorem contented_pulsed (s : State) : s.contented.pulsed = s.pulsed ∧ s.contented.reservations = s.reservations := by
  unfold State.contented formContent
  split
  case h_7 =>
    unfold matchSecond
    dsimp only
    repeat' split
    all_goals exact ⟨rfl, rfl⟩
  all_goals exact ⟨rfl, rfl⟩

theorem broke_pulsed (s : State) : s.broke.pulsed = s.pulsed := by
  unfold State.broke openHold
  dsimp only
  split <;> rfl

section second
variable {s : State} (hawake : s.awake = true) (hruns : s.runs .set = true)
include hawake hruns

theorem finishTank_pulsed : (finishTank s).pulsed = s.pulsed := by
  have htank := finishTank_tank hawake hruns
  have hjudged : s.judged.delivery = s.delivery := by
    rw [State.judged]
    split
    · rfl
    · exact (passed_touches s).same .delivery (by decide)
  have hdelivery : (finishTank s).delivery = s.delivery := by
    obtain ⟨line, records, h⟩ := formDry_shape s.judged
    rw [finishTank_eq hawake hruns, h, ← hjudged]
  rw [State.pulsed, htank, hdelivery]
  rfl

theorem minuteSecond_pulsed : (minuteSecond s).pulsed = s.pulsed := by
  by_cases hend : 59 ≤ s.tank.minuteSeconds
  · rw [show minuteSecond s = _ from if_pos hend]
    rfl
  · rw [minuteSecond_within (by omega)]
    exact finishTank_pulsed (s := s.later) hawake hruns

theorem judgeLoop_pulsed : (judgeLoop s).pulsed = s.pulsed := by
  cases hgood : s.tank.good with
  | true =>
    cases hbroken : s.tank.loopClass.broken with
    | true =>
      have htouches := raised_touches s.broke .levelLoop
      rw [judgeLoop_breaks hawake hruns hgood hbroken, State.pulsed, htouches.same .tank (by decide),
        htouches.same .delivery (by decide)]
      exact broke_pulsed s
    | false => rw [judgeLoop_enters hgood hbroken]; rfl
  | false =>
    by_cases hclass : s.tank.loopClass = .inRange
    · rw [judgeLoop_counts hgood hclass]; rfl
    · rw [judgeLoop_begins hgood hclass]; rfl

theorem tankSecond_pulsed : (tankSecond s).pulsed = s.pulsed := by
  obtain ⟨ha, hr, -, -⟩ := judgeLoop_awake hawake hruns
  obtain ⟨-, ha', hr'⟩ := tankParts_keep (contented_touches (judgeLoop s))
  have hjudge := judgeLoop_pulsed hawake hruns
  have hcontent := (contented_pulsed (judgeLoop s)).1
  rw [tankSecond_eq]
  split
  · exact hjudge
  · rw [contentOn_eq]
    split
    · exact hcontent.trans hjudge
    · exact (minuteSecond_pulsed (ha'.trans ha) (hr'.trans hr)).trans (hcontent.trans hjudge)

/-- Where nothing rises at the minute's part of a second, the duty controller has nothing to do. -/
theorem minuteSecond_quiet (hnone : s.duty.conditions = []) (hafter : (minuteSecond s).duty.conditions = []) :
    (minuteSecond s).duty = s.duty ∧ (minuteSecond s).reservations = s.reservations := by
  by_cases hend : 59 ≤ s.tank.minuteSeconds
  · rw [show minuteSecond s = _ from if_pos hend]
    exact ⟨rfl, rfl⟩
  · rw [minuteSecond_within (by omega)] at hafter ⊢
    have hjudged : s.later.judged.duty = s.duty ∧ s.later.judged.reservations = s.reservations := by
      rw [finishTank_duty (s := s.later) hawake hruns] at hafter
      rw [State.judged] at hafter ⊢
      by_cases hsame : emptyNow s.later = s.later.tank.empty
      · rw [if_pos hsame]
        exact ⟨rfl, rfl⟩
      · rw [if_neg hsame] at hafter ⊢
        have hnow : emptyNow s.later = false := by
          rw [← passed_present, State.present, hafter]
          rfl
        have hpassed : s.later.passed = { s.later with tank := s.later.judgedTank } := by
          unfold State.passed
          dsimp only
          rw [if_neg (by rw [hnow]; decide), clearCondition_of_absent (present_of_none (by exact hnone) _),
            settle_of_none (by exact hnone)]
        rw [hpassed]
        exact ⟨rfl, rfl⟩
    obtain ⟨line, records, h⟩ := formDry_shape s.later.judged
    rw [finishTank_eq (s := s.later) hawake hruns, h]
    exact hjudged

/-- Where a second finds and leaves no condition, its tank monitor leaves the duty controller as it is. -/
theorem tankSecond_quiet (hnone : s.duty.conditions = []) (hafter : (tankSecond s).duty.conditions = []) :
    (tankSecond s).duty = s.duty ∧ (tankSecond s).reservations = s.reservations := by
  obtain ⟨ha, hr, -, -⟩ := judgeLoop_awake hawake hruns
  obtain ⟨-, ha', hr'⟩ := tankParts_keep (contented_touches (judgeLoop s))
  have hjudge : (judgeLoop s).duty = s.duty ∧ (judgeLoop s).reservations = s.reservations := by
    cases hgood : s.tank.good with
    | true =>
      cases hbroken : s.tank.loopClass.broken with
      | true =>
        have hpresent : (tankSecond s).present .levelLoop = true := by
          have hjudged : (judgeLoop s).present .levelLoop = true := by
            rw [judgeLoop_breaks hawake hruns hgood hbroken, settle_present _ ⟨by decide, by decide, by decide⟩,
              raiseCondition_present]
          rw [tankSecond_eq]
          split
          · exact hjudged
          · exact contentOn_levelLoop ha hr hjudged
        rw [present_of_none hafter] at hpresent
        cases hpresent
      | false => rw [judgeLoop_enters hgood hbroken]; exact ⟨rfl, rfl⟩
    | false =>
      by_cases hclass : s.tank.loopClass = .inRange
      · rw [judgeLoop_counts hgood hclass]; exact ⟨rfl, rfl⟩
      · rw [judgeLoop_begins hgood hclass]; exact ⟨rfl, rfl⟩
  rw [tankSecond_eq] at hafter ⊢
  split at hafter
  · next h => rw [if_pos h]; exact hjudge
  · next h =>
    rw [if_neg h]
    rw [contentOn_eq] at hafter ⊢
    have hcontent : (judgeLoop s).contented.duty = s.duty := (contented_duty _).trans hjudge.1
    have hreserved : (judgeLoop s).contented.reservations = s.reservations := (contented_pulsed _).2.trans hjudge.2
    split at hafter
    · next hm => rw [if_pos hm]; exact ⟨hcontent, hreserved⟩
    · next hm =>
      obtain ⟨hd, hres⟩ := minuteSecond_quiet (ha'.trans ha) (hr'.trans hr) (by rw [hcontent]; exact hnone) hafter
      rw [if_neg hm]
      exact ⟨hd.trans hcontent, hres.trans hreserved⟩

end second

end Sys2Proof.Machine
end

section
/-! PROOFS. The second as a whole (O11). -/
set_option Elab.async false

namespace Sys2Proof.Machine

/-! ## The state as the channels' second begins -/

/-- The station once clock, senses, loop, peer table and STATUS interval have had their second. -/
def State.clocked (s : State) (i : SecondInputs) : State :=
  { s with
      stationSeconds := min 4294967295 (s.stationSeconds + 1)
      backupGood := i.backupGood
      inputs := s.inputs.take 3 ++ [i.live1, i.live2, i.live3]
      tank :=
        if s.station = .unconfigured ∨ s.image.role = some .set then
          { s.tank with loopValue := loopMean i.loop, loopClass := classOf (loopMean i.loop) }
        else s.tank
      peers := s.peers.map (fun p => { p with since := min 65535 (p.since + 1) })
      line := { s.line with statusTimer := s.line.statusTimer.map (fun n => min s.image.statusEvery (n + 1)) } }

theorem ticked_eq (s : State) (i : SecondInputs) : s.ticked i = meterTick (s.clocked i) := by
  have hmeasure : ∀ (l : List Nat) (w : State), measureLoop l w =
      { w with
          tank := if w.station = .unconfigured ∨ w.image.role = some .set then
              { w.tank with loopValue := loopMean l, loopClass := classOf (loopMean l) }
            else w.tank } := fun l w => by
    unfold measureLoop
    split <;> rfl
  unfold State.ticked
  rw [hmeasure]
  rfl

theorem ticked_metered (s : State) (i : SecondInputs) : (s.clocked i).Metered (s.ticked i) := by
  rw [ticked_eq]
  exact foldl_channelSecond_metered _ _

/-! ## What the role's blocks leave of the station -/

/-- The parts of the station that the blocks' second leaves alone. -/
structure State.Framed (s t : State) : Prop where
  stationSeconds : t.stationSeconds = s.stationSeconds
  backupGood : t.backupGood = s.backupGood
  inputs : t.inputs = s.inputs
  peers : t.peers = s.peers
  meter : t.meter = s.meter
  station : t.station = s.station
  image : t.image = s.image

theorem unitSeconds_framed (u : State) : u.Framed (deliverySecond (setBillSecond u)) := ⟨rfl, rfl, rfl, rfl, rfl, rfl, rfl⟩

theorem State.Framed.trans {s t u : State} (h : s.Framed t) (g : t.Framed u) : s.Framed u :=
  ⟨g.stationSeconds.trans h.stationSeconds, g.backupGood.trans h.backupGood, g.inputs.trans h.inputs,
    g.peers.trans h.peers, g.meter.trans h.meter, g.station.trans h.station, g.image.trans h.image⟩

theorem framed_of_touches {ps : List Part} {s t : State} (h : s.Touches ps t)
    (hp : ∀ p ∈ [Part.stationSeconds, .backupGood, .inputs, .peers, .meter, .station, .image], p ∉ ps) : s.Framed t :=
  ⟨h.same .stationSeconds (hp _ (by decide)), h.same .backupGood (hp _ (by decide)), h.same .inputs (hp _ (by decide)),
    h.same .peers (hp _ (by decide)), h.same .meter (hp _ (by decide)), h.same .station (hp _ (by decide)),
    h.same .image (hp _ (by decide))⟩

theorem setSecond_framed (s : State) : s.Framed (setSecond s) := by
  have hduty : s.Framed (holdSecond (dutySecond s)) :=
    framed_of_touches ((State.Touches.refl actParts s).thenDutySecond.thenHoldSecond) (by decide)
  have htank : (holdSecond (dutySecond s)).Framed (tankSecond (holdSecond (dutySecond s))) :=
    framed_of_touches ((State.Touches.refl tankParts _).thenTankSecond) (by decide)
  exact (hduty.trans htank).trans (unitSeconds_framed _)

theorem roleSecond_framed (s : State) : s.Framed (roleSecond s) := by
  unfold roleSecond
  split
  · exact ⟨rfl, rfl, rfl, rfl, rfl, rfl, rfl⟩
  · exact setSecond_framed s
  · exact ⟨rfl, rfl, rfl, rfl, rfl, rfl, rfl⟩
  · exact ⟨rfl, rfl, rfl, rfl, rfl, rfl, rfl⟩
  · exact ⟨rfl, rfl, rfl, rfl, rfl, rfl, rfl⟩

theorem roleSecond_of_board {s : State} (hruns : s.runs .board = true) : roleSecond s = boardSecond s := by
  obtain ⟨hstation, hrole⟩ := runs_iff.mp hruns
  rw [roleSecond, hstation, hrole]

theorem roleSecond_of_tanker {s : State} (hruns : s.runs .tanker = true) : roleSecond s = tankerSecond s := by
  obtain ⟨hstation, hrole⟩ := runs_iff.mp hruns
  rw [roleSecond, hstation, hrole]

theorem roleSecond_of_unconfigured {s : State} (hstation : s.station = .unconfigured) : roleSecond s = s := by
  rw [roleSecond, hstation]

/-- The line of a station that is no SET in RUN is not touched by its blocks' second. -/
theorem roleSecond_line {s : State} (h : s.runs .set = false) : (roleSecond s).line = s.line := by
  unfold roleSecond
  split
  · rfl
  · next hstation hrole => rw [runs_iff.mpr ⟨hstation, hrole⟩] at h; cases h
  · rfl
  · rfl
  · rfl

section ticked
variable (s : State) (i : SecondInputs)

theorem ticked_runs (r : Role) : (s.ticked i).runs r = s.runs r := by
  obtain ⟨meter, bill, free, h⟩ := ticked_metered s i
  rw [h]
  rfl

theorem ticked_inUse (n : Nat) : (s.ticked i).inUse n = s.inUse n := (ticked_metered s i).inUse n

theorem ticked_output : (s.ticked i).output = s.output := by
  rw [ticked_eq, meterTick_output]
  rfl

/-- The feedbacks are not measured by the second. -/
theorem ticked_input (hlength : s.inputs.length = 6) {n : Nat} (hn : 1 ≤ n ∧ n ≤ 3) :
    (s.ticked i).input n = s.input n := by
  obtain ⟨meter, bill, free, h⟩ := ticked_metered s i
  have hinputs : (s.ticked i).inputs = s.inputs.take 3 ++ [i.live1, i.live2, i.live3] := by rw [h]; rfl
  have htake : n - 1 < (s.inputs.take 3).length := by rw [List.length_take, hlength]; omega
  rw [State.input, State.input, hinputs, List.getD_eq_getElem?_getD, List.getElem?_append_left htake, List.getElem?_take_of_lt (by omega),
    ← List.getD_eq_getElem?_getD]

theorem ticked_closedList (hlength : s.inputs.length = 6) : (s.ticked i).closedList = s.closedList := by
  unfold State.closedList
  refine List.filter_congr (fun n hn => ?_)
  exact ticked_input s i hlength (by simp only [List.mem_cons, List.not_mem_nil, or_false] at hn; omega)

end ticked

/-! ## The second of a BOARD and of a TANKER -/

theorem entrySecond_timing (e : Entry) : (entrySecond e).state = e.state ∧
    (entrySecond e).age = (if e.state = .waitingClose then min 7200 (e.age + 1) else e.age) ∧
    (entrySecond e).wait = (if e.state = .claimed then min e.waitLength (e.wait + 1) else e.wait) ∧
    (entrySecond e).unmetered = e.unmetered := by
  unfold entrySecond
  cases h : e.state
  · simp [h]
  · simp [incTo]
  · simp [incTo]

/-- What a second makes of an entry's state, age and wait. -/
def timingSecond (x : EntryState × Nat × Nat × Nat) : EntryState × Nat × Nat :=
  (x.1, if x.1 = .waitingClose then min 7200 (x.2.1 + 1) else x.2.1,
    if x.1 = .claimed then min x.2.2.2 (x.2.2.1 + 1) else x.2.2.1)

theorem stepSecond_eq (i : Image) (c : ChgState) (timer : Nat) : stepSecond i c timer =
    if c = .seeking then min 2 (timer + 1)
    else if c = .waiting then min 180 (timer + 1)
    else if c = .dead then min i.deadSeconds (timer + 1)
    else timer := by
  cases c <;> rfl

section board
variable {s : State} (i : SecondInputs) (hruns : s.runs .board = true)
include hruns

theorem roleSecond_board_chg (hlength : s.inputs.length = 6) :
    let t := roleSecond (s.ticked i)
    t.chg = { s.chg with
      held := if s.chg.cmd = none then s.chg.held else min 3 (s.chg.held + 1)
      lastLive := if t.stageLive = true ∧ t.input (3 + t.closedPos) = true then some t.output else s.chg.lastLive
      attempt := s.chg.attempt.map (fun a =>
        { a with
            timer :=
              if s.chg.state = .seeking then min 2 (a.timer + 1)
              else if s.chg.state = .waiting then min 180 (a.timer + 1)
              else if s.chg.state = .dead then min s.image.deadSeconds (a.timer + 1)
              else a.timer
            unfed := if s.closedList = [] then min 65535 (a.unfed + 1) else a.unfed })
      retry := s.chg.retry.map (fun x => (min s.image.retryTime (x.1 + 1), x.2))
      dwell := s.chg.dwell.map (fun n => min 60 (n + 1)) } := by
  have hrole : roleSecond (s.ticked i) = boardBillSecond (chgSecond (s.ticked i)) :=
    roleSecond_of_board (by rw [ticked_runs]; exact hruns)
  have hchg : (s.ticked i).chg = s.chg := by obtain ⟨meter, bill, free, h⟩ := ticked_metered s i; rw [h]; rfl
  have himage : (s.ticked i).image = s.image := by obtain ⟨meter, bill, free, h⟩ := ticked_metered s i; rw [h]; rfl
  have hlive : ∀ v : State, (boardBillSecond (chgSecond v)).stageLive = v.stageLive ∧
      (boardBillSecond (chgSecond v)).input (3 + (boardBillSecond (chgSecond v)).closedPos) =
        v.input (3 + v.closedPos) ∧ (boardBillSecond (chgSecond v)).output = v.output := fun v => ⟨rfl, rfl, rfl⟩
  have htaken : ∀ v : State, (if v.takesLoad = true then some v.output else v.chg.lastLive) =
      if v.stageLive = true ∧ v.input (3 + v.closedPos) = true then some v.output else v.chg.lastLive := fun v =>
    ite_congr (by rw [State.takesLoad, Bool.and_eq_true]) (fun _ => rfl) (fun _ => rfl)
  obtain ⟨h1, h2, h3⟩ := hlive (s.ticked i)
  dsimp only
  rw [hrole, h1, h2, h3]
  have hshape : ∀ v : State, (boardBillSecond (chgSecond v)).chg = (chgSecond v).chg := fun v => rfl
  have hcond := htaken (s.ticked i)
  rw [hchg] at hcond
  rw [hshape, chgSecond]
  simp only [stepSecond_eq, ticked_closedList s i hlength, hchg, himage, incTo, hcond]

theorem roleSecond_board_table : (roleSecond (s.ticked i)).boardBill.table =
    (s.ticked i).boardBill.table.map entrySecond := by
  rw [roleSecond_of_board (by rw [ticked_runs]; exact hruns)]
  rfl

theorem roleSecond_board_timing :
    (roleSecond (s.ticked i)).boardBill.table.map (fun e => (e.state, e.age, e.wait)) =
      s.boardBill.table.map (fun e =>
        (e.state, if e.state = .waitingClose then min 7200 (e.age + 1) else e.age,
          if e.state = .claimed then min e.waitLength (e.wait + 1) else e.wait)) := by
  have htiming : (s.ticked i).boardBill.table.map Entry.timing = s.boardBill.table.map Entry.timing := by
    rw [ticked_eq, meterTick_timing]
    rfl
  have hsecond : ∀ l : List Entry, (l.map entrySecond).map (fun e => (e.state, e.age, e.wait)) =
      (l.map Entry.timing).map timingSecond := fun l => by
    rw [List.map_map, List.map_map]
    refine List.map_congr_left (fun e _ => ?_)
    obtain ⟨hstate, hage, hwait, -⟩ := entrySecond_timing e
    simp only [Function.comp, hstate, hage, hwait, Entry.timing, timingSecond]
    rfl
  rw [roleSecond_board_table i hruns, hsecond, htiming, List.map_map]
  rfl

theorem roleSecond_board_unmetered
    (hcount : ∀ e ∈ s.boardBill.table, e.state = .current → e.unmetered + 13 < two32) :
    (roleSecond (s.ticked i)).boardBill.table.map Entry.unmetered = s.boardBill.table.map (fun e =>
      if e.state = .current then
        e.unmetered + (List.range 13).countP (fun n => s.inUse n && (s.channel n).state == .lost)
      else e.unmetered) := by
  have hbill : (s.ticked i).boardBill = s.boardBill.missed (allChannels.countP s.misses) := by
    rw [ticked_eq]
    exact foldl_channelSecond_missed allChannels (s.clocked i) hruns hcount
  have hall : allChannels = List.range 13 := by decide
  rw [roleSecond_board_table i hruns, hbill, hall, List.map_map]
  refine (List.map_map ..).trans (List.map_congr_left (fun e _ => ?_))
  simp only [Function.comp, (entrySecond_timing _).2.2.2]
  by_cases he : e.state = .current
  · rw [if_pos he, if_pos he]
    rfl
  · rw [if_neg he, if_neg he]

end board

theorem roleSecond_tanker {s : State} (i : SecondInputs) (hruns : s.runs .tanker = true) :
    (roleSecond (s.ticked i)).tanker = { s.tanker with
      delivery := s.tanker.delivery.map (fun o =>
        if s.tanker.state = .opening then { o with timer := min 2 (o.timer + 1) }
        else if s.tanker.state = .closing then { o with timer := min 180 (o.timer + 1) }
        else o)
      run := s.tanker.run.map (fun r => { r with quiet := min 120 (r.quiet + 1) }) } := by
  have htanker : (s.ticked i).tanker = s.tanker := by obtain ⟨meter, bill, free, h⟩ := ticked_metered s i; rw [h]; rfl
  rw [roleSecond_of_tanker (by rw [ticked_runs]; exact hruns)]
  simp only [tankerSecond, htanker, incTo]
  cases s.tanker.state <;> rfl

/-! ## The second of a SET -/

/-- Whether the inlet moved since the second before. -/
theorem inletMoved_iff (now : Option Anchor) (inlet : Nat) :
    inletMoved now inlet = true ↔ ∃ a, now = some a ∧ a.inlet ≠ inlet := by
  cases now with
  | none => simp [inletMoved]
  | some a => simp [inletMoved]

section delivery
variable {u : State} {d : SetDelivery} (hd : u.delivery = d)
include hd

theorem deliverySecond_session {x : Session} (hx : d.session = some x) :
    (deliverySecond u).delivery.session = some (sessionSecond x (inletMoved d.now u.inletCl)) := by
  subst hd
  simp only [deliverySecond, hx]
  rfl

theorem deliverySecond_watch {w : Watch} (hx : d.session = none) (hw : d.watch = some w) :
    (deliverySecond u).delivery =
      watchSecond { d with now := some (anchorNow u), before := d.now } w u.inletCl := by
  subst hd
  simp only [deliverySecond, hx, hw]
  rfl

theorem deliverySecond_idle (hx : d.session = none) (hw : d.watch = none) :
    (deliverySecond u).delivery =
      if inletMoved d.now u.inletCl = true then
        { d with now := some (anchorNow u), before := d.now, watch := d.now.map (fun b => { anchor := b, age := 0 }) }
      else { d with now := some (anchorNow u), before := d.now } := by
  subst hd
  simp only [deliverySecond, hx, hw]
  rfl

end delivery

end Sys2Proof.Machine
end

section
/-! PROOFS. The second of a SET, and the second as a whole (O11). -/
set_option Elab.async false

namespace Sys2Proof.Machine

/-! ## The second of a SET -/

/-- The state of a SET as its deliveries and its settlement have their second. -/
def State.gauged (s : State) (i : SecondInputs) : State := tankSecond (s.setBase i)

/-- The last parts of the second: what each leaves, and what it works on. -/
theorem unitSeconds_line (u : State) : (deliverySecond (setBillSecond u)).line = u.line ∧
    (deliverySecond (setBillSecond u)).reservations = u.reservations ∧
    (deliverySecond (setBillSecond u)).setBill = (setBillSecond u).setBill ∧
    (setBillSecond u).delivery = u.delivery ∧ (setBillSecond u).inletCl = u.inletCl := ⟨rfl, rfl, rfl, rfl, rfl⟩

section set
variable {s : State} (hawake : s.awake = true) (hruns : s.runs .set = true) (i : SecondInputs)

section runs
include hruns

theorem roleSecond_set : roleSecond (s.ticked i) = deliverySecond (setBillSecond (s.gauged i)) := by
  rw [roleSecond_of_set (by rw [ticked_runs]; exact hruns)]
  rfl

theorem ticked_duty : (s.ticked i).duty = s.duty ∧ (s.ticked i).reservations = s.reservations ∧
    (s.ticked i).setBill = s.setBill ∧ (s.ticked i).image = s.image ∧ (s.ticked i).line = (s.clocked i).line := by
  obtain ⟨meter, free, h⟩ := ticked_of_set hruns i
  rw [h]
  exact ⟨rfl, rfl, rfl, rfl, rfl⟩

/-- The counts of the duty controller, over the figures of the second before. -/
theorem dutyCounts_ticked (hlength : s.inputs.length = 6) (hcount : s.duty.runSeconds + 1 < two32) :
    (dutyCounts (s.ticked i)).duty = { s.duty with
      timer := if s.duty.state.timed then incTo s.timerLimit s.duty.timer else s.duty.timer
      idle := idleNext s
      disagree := if s.input 2 = s.duty.brkClosed then 0 else incTo 2 s.duty.disagree
      overload := overloadNext s
      burnSilence := burnSilenceNext s
      runSeconds := if s.running then s.duty.runSeconds + 1 else s.duty.runSeconds } := by
  obtain ⟨hduty, hreserved, -, himage, -⟩ := ticked_duty hruns i
  have hready := ticked_input s i hlength (n := 1) (by omega)
  have hbreaker := ticked_input s i hlength (n := 2) (by omega)
  have hcounted : ∀ free, countOn free s.duty.runSeconds 1 = s.duty.runSeconds + 1 := fun _ => if_pos hcount
  have hlimit : (s.ticked i).timerLimit = s.timerLimit := by rw [State.timerLimit, State.timerLimit, hduty, himage]
  simp only [dutyCounts, idleNext, overloadNext, burnSilenceNext, State.running, hlimit, hduty, hreserved, himage,
    hready, hbreaker, ticked_output, hcounted]
  rfl

theorem gauged_image : (s.gauged i).image = s.image ∧ (s.gauged i).setBill = s.setBill ∧
    (s.gauged i).meter = (s.ticked i).meter := by
  have htouches : (s.setBase i).Touches tankParts (s.gauged i) := (State.Touches.refl tankParts _).thenTankSecond
  refine ⟨?_, ?_, ?_⟩
  · rw [htouches.same .image (by decide)]
    exact setBase_image hruns i
  · rw [htouches.same .setBill (by decide), (setBase_touches s i).same .setBill (by decide)]
    exact (ticked_duty hruns i).2.2.1
  · rw [htouches.same .meter (by decide), (setBase_touches s i).same .meter (by decide)]

end runs

include hawake hruns

theorem gauged_delivery : (s.gauged i).delivery = s.delivery ∧ (s.gauged i).inletCl = s.inletCl := by
  have hpulsed : (s.gauged i).pulsed = (s.setBase i).pulsed :=
    tankSecond_pulsed (setBase_awake hruns i hawake) (setBase_runs hruns i)
  obtain ⟨hdelivery, -, hinlet⟩ := And.intro (congrArg (fun x => x.1) hpulsed)
    (And.intro (congrArg (fun x => x.2.1) hpulsed) (congrArg (fun x => x.2.2) hpulsed))
  refine ⟨hdelivery.trans (setBase_delivery hruns i), ?_⟩
  have hpulses : (s.gauged i).tank.inletPulses = (s.setBase i).tank.inletPulses := hinlet
  rw [← setBase_inletCl hruns i, State.inletCl, State.inletCl, hpulses, (gauged_image hruns i).1, setBase_image hruns i]

theorem roleSecond_set_tells : (roleSecond (s.ticked i)).line.statusTimer = (s.clocked i).line.statusTimer ∨
    (roleSecond (s.ticked i)).line.statusTimer = some 0 := by
  rw [roleSecond_set hruns i, (unitSeconds_line _).1, ← (ticked_duty hruns i).2.2.2.2]
  exact (setBase_tells s i).trans (tankSecond_tells (setBase_awake hruns i hawake) (setBase_runs hruns i))

theorem roleSecond_set_loop : (roleSecond (s.ticked i)).tank.loopValue = loopMean i.loop := by
  have ha := setBase_awake hruns i hawake
  have hr := setBase_runs hruns i
  rw [roleSecond_set hruns i, (unitSeconds_keep _).1]
  have hloop : (s.gauged i).tank.loopValue = (judgeLoop (s.setBase i)).tank.loopValue :=
    congrArg (fun l => l.1) (tankSecond_loop ha hr)
  rw [hloop, judgeLoop_value ha hr, setBase_tank hruns i]

/-- The deliveries' second works on the figures of the second before. -/
theorem roleSecond_set_delivery : ∃ u : State, u.delivery = s.delivery ∧ u.inletCl = s.inletCl ∧
    (roleSecond (s.ticked i)).delivery = (deliverySecond u).delivery := by
  obtain ⟨hdelivery, hinlet⟩ := gauged_delivery hawake hruns i
  exact ⟨setBillSecond (s.gauged i), hdelivery, hinlet, by rw [roleSecond_set hruns i]⟩

/-- Where the second finds and leaves no condition, duty, reservations and settlement have their counts alone. -/
theorem roleSecond_set_quiet (hnone : s.duty.conditions = []) (hafter : (roleSecond (s.ticked i)).duty.conditions = []) :
    (roleSecond (s.ticked i)).duty = (dutyCounts (s.ticked i)).duty ∧
    (roleSecond (s.ticked i)).reservations =
      s.reservations.map (fun r => { r with hold := r.hold.map (fun h => h - 1) }) ∧
    (roleSecond (s.ticked i)).setBill = { s.setBill with
      opened := s.setBill.opened.map (fun o =>
        { o with elapsed := incTo s.image.periodLength o.elapsed
                 idle := if s.duty.state = .ready ∧ s.output * 20 < s.image.ratedPower then incTo 3600 o.idle else o.idle })
      window := s.setBill.window.map (fun w => incTo s.image.windowLength w) } := by
  obtain ⟨hduty, hreserved, -, -, -⟩ := ticked_duty hruns i
  obtain ⟨-, hheld, hbill, -, -⟩ := unitSeconds_line (s.gauged i)
  rw [roleSecond_set hruns i, (unitSeconds_keep _).2] at hafter ⊢
  have hbase := setBase_of_none hruns i hnone
  have hcounted : (s.setBase i).duty = (dutyCounts (s.ticked i)).duty := by rw [hbase]; rfl
  have hstate : (s.setBase i).duty.state = s.duty.state ∧ (s.setBase i).duty.conditions = [] := by
    rw [hcounted]
    have hcounts : (dutyCounts (s.ticked i)).duty.state = (s.ticked i).duty.state ∧
      (dutyCounts (s.ticked i)).duty.conditions = (s.ticked i).duty.conditions := ⟨rfl, rfl⟩
    rw [hcounts.1, hcounts.2, hduty]
    exact ⟨rfl, hnone⟩
  obtain ⟨hkept, hkept'⟩ := tankSecond_quiet (setBase_awake hruns i hawake) (setBase_runs hruns i) hstate.2 hafter
  obtain ⟨himage, hsettled, hmeter⟩ := gauged_image hruns i
  have hgauged : (s.gauged i).duty.state = s.duty.state := (congrArg Duty.state hkept).trans hstate.1
  have houtput : (s.gauged i).output = s.output := by
    rw [← ticked_output s i, State.output, State.output, State.channel, State.channel, hmeter]
  refine ⟨hkept.trans hcounted, ?_, ?_⟩
  · rw [hheld]
    refine Eq.trans hkept' ?_
    rw [hbase, ← hreserved]
    rfl
  · rw [hbill]
    simp only [setBillSecond, State.idling, himage, hsettled, houtput, hgauged, Bool.and_eq_true, beq_iff_eq,
      decide_eq_true_eq]

end set

theorem idleNext_eq (s : State) : idleNext s =
    if s.duty.mode ≠ .auto then 0
    else if s.duty.state ≠ .ready then s.duty.idle
    else if s.duty.feed = [] ∧ s.reservations = [] then min s.image.idleLimit (s.duty.idle + 1)
    else 0 := by
  simp only [idleNext, ne_eq, ite_not, incTo]

theorem overloadNext_eq (s : State) : overloadNext s =
    if (s.duty.state = .ready ∨ s.duty.state = .unloading) ∧ s.image.ratedPower < s.output then
      min 60 (s.duty.overload + 1)
    else 0 := by
  unfold overloadNext incTo
  split
  · next hstate =>
    exact ite_congr (propext ⟨fun h => ⟨hstate, h⟩, fun h => h.2⟩) (fun _ => rfl) (fun _ => rfl)
  · next hstate => exact (if_neg fun h => hstate h.1).symm

theorem burnSilenceNext_eq (s : State) : burnSilenceNext s =
    if s.duty.state ≠ .ready then 0
    else if s.duty.burnSilence = 120 then 120
    else if s.image.ratedPower < s.output * 10 then min 120 (s.duty.burnSilence + 1)
    else 0 := by
  simp only [burnSilenceNext, ne_eq, ite_not, incTo]

/-- A second of the deliveries: the session's counts, or the inlet watch, by whether the inlet has moved (R136, R137,
R139). -/
theorem deliverySecond_moves (u : State) :
    let moved : Prop := ∃ a, u.delivery.now = some a ∧ a.inlet ≠ u.inletCl
    let t := (deliverySecond u).delivery
    (∀ x, u.delivery.session = some x →
      (moved → t.session = some { x with
        quiet := 0, phase := if x.phase = .quiet then .opened else x.phase
        settle := if x.phase = .settling then min 60 (x.settle + 1) else x.settle }) ∧
      (¬ moved → t.session = some { x with
        quiet := min 1800 (x.quiet + 1)
        settle := if x.phase = .settling then min 60 (x.settle + 1) else x.settle })) ∧
    (u.delivery.session = none →
      (∀ w, u.delivery.watch = some w → 100 ≤ diff32 u.inletCl w.anchor.inlet →
        t.watch = none ∧ t.session = some (openedOn w.anchor none none)) ∧
      (∀ w, u.delivery.watch = some w → diff32 u.inletCl w.anchor.inlet < 100 →
        t.session = none ∧ t.watch = some { w with age := min 60 (w.age + 1) }) ∧
      (u.delivery.watch = none → t.session = none ∧ (¬ moved → t.watch = none) ∧
        (moved → t.watch = u.delivery.now.map (fun a => { anchor := a, age := 0 })))) := by
  have hmoved := inletMoved_iff u.delivery.now u.inletCl
  dsimp only
  refine ⟨fun x hx => ?_, fun hnone => ⟨fun w hw hrise => ?_, fun w hw hrise => ?_, fun hw => ?_⟩⟩
  · rw [deliverySecond_session rfl hx]
    refine ⟨fun h => ?_, fun h => ?_⟩
    · rw [hmoved.mpr h]
      simp only [sessionSecond, incTo, if_true, true_and]
    · rw [Bool.eq_false_iff.mpr (fun h' => h (hmoved.mp h'))]
      simp only [sessionSecond, incTo, Bool.false_eq_true, if_false, false_and]
  · rw [deliverySecond_watch rfl hnone hw, watchSecond, if_pos hrise]
    exact ⟨rfl, rfl⟩
  · rw [deliverySecond_watch rfl hnone hw, watchSecond, if_neg (Nat.not_le.mpr hrise)]
    exact ⟨hnone, rfl⟩
  · rw [deliverySecond_idle rfl hnone hw]
    refine ⟨?_, fun h => ?_, fun h => ?_⟩
    · split <;> exact hnone
    · rw [if_neg (fun h' => h (hmoved.mp h'))]
      exact hw
    · rw [if_pos (hmoved.mpr h)]

/-! ## The second as a whole -/

/-- Settles O11: the second of every channel (`meterTick_channel`), then that of the role's blocks. -/
theorem localSecondAdvancesTheCounts : Obligations.LocalSecondAdvancesTheCounts := by
  unfold Obligations.LocalSecondAdvancesTheCounts
  intro s i hawake hdue
  have hframed := roleSecond_framed (s.ticked i)
  obtain ⟨meter, bill, free, hticked⟩ := ticked_metered s i
  refine ⟨_, exec_localSecond hawake hdue i, ?_, ?_, ?_, ?_, ?_, ?_, ?_, ?_, ?_, ?_, ?_, ?_, ?_⟩
  · rw [hframed.stationSeconds, hticked]; rfl
  · rw [hframed.backupGood, hticked]; rfl
  · rw [hframed.inputs, hticked]; rfl
  · rw [hframed.peers, hticked]; rfl
  · intro n hlength hn hused
    rw [State.channel, hframed.meter, ticked_eq]
    exact meterTick_channel (s := s.clocked i) hlength hn hused
  · rintro (hstation | hrole)
    · have htank : (s.ticked i).tank = (s.clocked i).tank := by rw [hticked]
      rw [roleSecond_of_unconfigured (by rw [hticked]; exact hstation), htank]
      exact congrArg Tank.loopValue (if_pos (.inl hstation))
    · cases hstation : s.station with
      | unconfigured =>
        have htank : (s.ticked i).tank = (s.clocked i).tank := by rw [hticked]
        rw [roleSecond_of_unconfigured (by rw [hticked]; exact hstation), htank]
        exact congrArg Tank.loopValue (if_pos (.inl hstation))
      | run => exact roleSecond_set_loop hawake (runs_iff.mpr ⟨hstation, hrole⟩) i
  · rw [hframed.station, hticked]; rfl
  · rw [hframed.image, hticked]; rfl
  · cases hruns : s.runs .set with
    | true => exact (roleSecond_set_tells hawake hruns i).imp_right (fun h => ⟨rfl, h⟩)
    | false =>
      rw [roleSecond_line (by rw [ticked_runs]; exact hruns), hticked]
      exact .inl rfl
  · exact fun hruns => roleSecond_tanker i hruns
  · exact fun hruns hlength => ⟨roleSecond_board_chg i hruns hlength, roleSecond_board_timing i hruns,
      fun hcount => roleSecond_board_unmetered i hruns hcount⟩
  · intro hruns
    obtain ⟨u, hdelivery, hinlet, hsecond⟩ := roleSecond_set_delivery hawake hruns i
    rw [hsecond, ← hinlet, ← hdelivery]
    exact deliverySecond_moves u
  · intro hruns hlength hnone hafter hcount
    obtain ⟨hduty, hreserved, hbill⟩ := roleSecond_set_quiet hawake hruns i hnone hafter
    dsimp only
    rw [hduty, dutyCounts_ticked hruns i hlength hcount, hreserved, hbill]
    refine ⟨?_, rfl, fun h => ?_, fun h => ?_, rfl⟩
    · have htimer : (if s.duty.state.timed = true then incTo s.timerLimit s.duty.timer else s.duty.timer) =
          match s.duty.state with
          | .starting => min s.image.startLimit (s.duty.timer + 1)
          | .warming => min s.image.warmupTime (s.duty.timer + 1)
          | .unloading => min s.image.unloadTime (s.duty.timer + 1)
          | .cooling => min s.image.cooldownTime (s.duty.timer + 1)
          | .off | .ready | .fault => s.duty.timer := by
        unfold State.timerLimit
        cases s.duty.state <;> rfl
      rw [htimer, idleNext_eq, overloadNext_eq, burnSilenceNext_eq]
      simp only [State.running, Bool.and_eq_true, incTo] <;> rfl
    · simp only [if_pos h]
      rfl
    · simp only [if_neg h]
      rfl

end Sys2Proof.Machine
end

section
/-! PROOFS. The run mode through the duty controller's work, and adoption (R59, R72). -/
set_option Elab.async false

namespace Sys2Proof.Machine

/-! ## The run mode stands, whatever the duty controller does (R57) -/

/-- The run mode stands. -/
def State.SameMode (s t : State) : Prop := t.duty.mode = s.duty.mode

namespace State.SameMode

theorem refl (s : State) : s.SameMode s := rfl

theorem trans {s t u : State} (h : s.SameMode t) (g : t.SameMode u) : s.SameMode u := Eq.trans g h

theorem ite {c : Prop} [Decidable c] {s t u : State} (h : s.SameMode t) (g : s.SameMode u) :
    s.SameMode (if c then t else u) := by
  split
  · exact h
  · exact g

theorem foldl {α : Type} {f : State → α → State} (hf : ∀ (v : State) (x : α), v.SameMode (f v x)) :
    ∀ (l : List α) (s : State), s.SameMode (l.foldl f s)
  | [], s => .refl s
  | x :: l, s => (hf s x).trans (foldl hf l (f s x))

/-- Duty as another state has it, but for parts other than the mode. -/
theorem of_duty {s t : State} {d : Duty} (h : t.duty = d) (hd : d.mode = s.duty.mode) : s.SameMode t :=
  (congrArg Duty.mode h).trans hd

end State.SameMode

theorem enterReady_sameMode (s : State) (fromWarming : Bool) : s.SameMode (enterReady s fromWarming) :=
  .of_duty (enterReady_duty s fromWarming) rfl

theorem enterWarming_sameMode (s : State) : s.SameMode (enterWarming s) := by
  have hwarm : s.SameMode (postStatus (zeroTimer (setDuty s .warming none))) := rfl
  exact .ite (hwarm.trans (enterReady_sameMode _ true)) hwarm

theorem startEngine_sameMode (s : State) : s.SameMode (startEngine s) := by
  unfold startEngine
  dsimp only
  split
  · refine .trans ?_ (enterWarming_sameMode _)
    rfl
  · rfl

theorem primeStart_sameMode (s : State) : s.SameMode (primeStart s) := .ite (startEngine_sameMode s) (.refl s)

theorem enterOff_sameMode (s : State) : s.SameMode (enterOff s) := by
  refine .trans ?_ (primeStart_sameMode _)
  rfl

theorem enterCooling_sameMode (s : State) (origin : Origin) : s.SameMode (enterCooling s origin) := by
  unfold enterCooling
  dsimp only
  split
  · refine .trans ?_ (enterOff_sameMode _)
    rfl
  · rfl

theorem unloadTest_sameMode (s : State) : s.SameMode (unloadTest s) := .ite (enterCooling_sameMode s .stopping) (.refl s)

theorem enterUnloading_sameMode (s : State) : s.SameMode (enterUnloading s) := by
  refine .trans ?_ (unloadTest_sameMode _)
  exact .of_duty (refuseAll_duty _ reasonStopping) rfl

theorem trip_sameMode (s : State) : s.SameMode (trip s) := .of_duty (refuseAll_duty _ reasonFault) rfl

theorem abandonStart_sameMode (s : State) : s.SameMode (abandonStart s) := by
  refine .trans ?_ (enterOff_sameMode _)
  exact .of_duty (refuseAll_duty _ reasonStopping) rfl

theorem abandonWarming_sameMode (s : State) : s.SameMode (abandonWarming s) := by
  refine .trans ?_ (enterCooling_sameMode _ .stopping)
  exact .of_duty (refuseAll_duty _ reasonStopping) rfl

theorem actReaction_sameMode (s : State) : s.SameMode (actReaction s) := by
  unfold actReaction
  split
  · exact .ite (.refl s) (trip_sameMode s)
  · split
    · exact .refl s
    · exact abandonStart_sameMode s
    · exact abandonWarming_sameMode s
    · exact enterUnloading_sameMode s
    · exact .refl s
    · rfl
    · exact .refl s
  · exact .refl s
  · exact .refl s

theorem actMode_sameMode (s : State) : s.SameMode (actMode s) := by
  unfold actMode
  split
  · exact primeStart_sameMode s
  · exact .ite (abandonStart_sameMode s) (.refl s)
  · exact .ite (abandonWarming_sameMode s) (.refl s)
  · exact .ite (enterUnloading_sameMode s) (.refl s)
  · exact .refl s
  · split
    · exact .refl s
    · exact .ite (enterReady_sameMode s false) (.refl s)
    · rfl
  · exact .refl s

theorem raiseOnly_sameMode (s : State) (c : FaultClass) : s.SameMode (raiseOnly s c) := by
  have hraised : ∀ (v : State) (present : Bool) (e : Event), v.SameMode (raiseEntry v c present e) := fun v present e =>
    .ite rfl rfl
  refine .ite (.refl s) (.ite rfl ?_)
  refine .trans ?_ (hraised _ _ _)
  rfl

theorem clearCondition_sameMode (s : State) (c : FaultClass) : s.SameMode (clearCondition s c) := by
  have hdropped : ∀ v : State, v.SameMode (dropSettled v) := fun v => .of_duty (dropSettled_duty v) rfl
  unfold clearCondition
  dsimp only
  have hgone : s.SameMode (if s.image.reaction c = .ignore then
      { s with duty := { s.duty with conditions := s.duty.conditions.filter (fun d => d != c) } }
    else dropSettled (addEvent
      { s with
          duty := { s.duty with
            conditions := s.duty.conditions.filter (fun d => d != c)
            faults := s.duty.faults.map (fun e => if e.cls = c then { e with present := false } else e) } }
      (.faultCleared c))) := by
    refine .ite rfl (.trans ?_ (hdropped _))
    rfl
  exact .ite (.ite (hgone.trans (primeStart_sameMode _)) hgone) (.refl s)

theorem settle_sameMode (s : State) : s.SameMode (settle s) := by
  unfold settle
  dsimp only
  have hengine : s.SameMode (if s.input 3 = false ∧ s.duty.runOn = false then clearCondition s .engineFault else s) :=
    .ite (clearCondition_sameMode s _) (.refl s)
  generalize (if s.input 3 = false ∧ s.duty.runOn = false then clearCondition s .engineFault else s) = t at hengine
  have hbreaker : t.SameMode (if t.input 2 = t.duty.brkClosed then clearCondition t .breaker else t) :=
    .ite (clearCondition_sameMode t _) (.refl t)
  generalize (if t.input 2 = t.duty.brkClosed then clearCondition t .breaker else t) = u at hbreaker
  exact (hengine.trans hbreaker).trans (.ite (.refl u) (clearCondition_sameMode u _))

/-! ## Adoption (R59, R72) -/

/-- The state that adoption starts out from: duty and commands from the inputs, every list empty. -/
def State.adopting (s : State) (mode : RunMode) : State := { s with duty := adoptedDuty s mode }

theorem adoptDuty_mode (s : State) (mode : RunMode) : (adoptDuty s mode).duty.mode = mode := by
  have hraised := State.SameMode.foldl raiseOnly_sameMode (adoptedConditions s) (s.adopting mode)
  have hwarm : ∀ v : State, v.SameMode (warmNow v) := fun v => .ite (enterReady_sameMode v true) (.refl v)
  exact (((hraised.trans (actReaction_sameMode _)).trans (actMode_sameMode _)).trans (hwarm _)).trans (settle_sameMode _)

/-- A set is adopted with its feed list empty, and joins no board to either list. -/
theorem adoptDuty_lists (s : State) (mode : RunMode) :
    (adoptDuty s mode).duty.feed = [] ∧ (s.reservations = [] → (adoptDuty s mode).reservations = []) := by
  have hraised : (s.adopting mode).Touches actParts ((adoptedConditions s).foldl raiseOnly (s.adopting mode)) :=
    .foldl (fun v c => (State.Touches.refl actParts v).thenRaiseOnly c) (.refl _ _) _
  have htouches : (s.adopting mode).Touches actParts (adoptDuty s mode) :=
    hraised.thenActReaction.thenActMode.thenWarmNow.thenSettle
  obtain ⟨hfeed, hreserved⟩ := htouches.same .lists (by decide)
  refine ⟨List.map_eq_nil_iff.mp (List.sublist_nil.mp hfeed), fun hnone => ?_⟩
  have hempty : (s.adopting mode).reservations.map Reservation.promise = [] := by
    rw [show (s.adopting mode).reservations = s.reservations from rfl, hnone]
    rfl
  rw [hempty] at hreserved
  exact List.map_eq_nil_iff.mp (List.sublist_nil.mp hreserved)

theorem actReaction_of_none {s : State} (h : s.duty.conditions = []) : actReaction s = s := by
  have hreaction : s.activeReaction = .alarm := by
    simp only [State.activeReaction, State.tripPresent, State.unloadPresent, h]
    rfl
  rw [actReaction, hreaction]

/-- A set with nothing to act on is adopted as its inputs stand. -/
theorem adoptDuty_of_quiet {s : State} (hheard : (s.channel 0).state ≠ .lost) (hfault : s.input 3 = false)
    (hready : s.input 2 = true → s.input 1 = true) (hwarmup : s.input 1 = true → s.image.warmupTime ≠ 0) :
    adoptDuty s .auto = s.adopting .auto := by
  have hconditions : adoptedConditions s = [] := by
    have hbreaker : (s.input 2 && !s.input 1) = false := by
      cases h : s.input 2 with
      | false => rfl
      | true => rw [hready h]; rfl
    rw [adoptedConditions, if_neg hheard, hfault, hbreaker]
    rfl
  have hnone : (s.adopting .auto).duty.conditions = [] := rfl
  have hstate : (s.adopting .auto).duty.state = (if s.input 1 then (if s.input 2 then .ready else .warming) else .off) := rfl
  have hmode : actMode (s.adopting .auto) = s.adopting .auto := by
    have hprime : primeStart (s.adopting .auto) = s.adopting .auto := if_neg (fun h => by cases h.2.1)
    unfold actMode
    rw [hprime]
    cases h1 : s.input 1 <;> cases h2 : s.input 2 <;> simp only [hstate, h1, h2] <;> rfl
  have hwarm : warmNow (s.adopting .auto) = s.adopting .auto := by
    refine if_neg (fun h => ?_)
    rw [hstate] at h
    cases h1 : s.input 1 with
    | false => rw [h1] at h; cases h.1
    | true => exact hwarmup h1 h.2
  have hshape : adoptDuty s .auto = settle (warmNow (actMode (actReaction
      ((adoptedConditions s).foldl raiseOnly (s.adopting .auto))))) := rfl
  rw [hshape, hconditions, List.foldl_nil, actReaction_of_none hnone, hmode, hwarm, settle_of_none hnone]

end Sys2Proof.Machine
end

section
/-! PROOFS. What a BOARD's blocks do at START and at a warm restart (R113, R168). -/
set_option Elab.async false

namespace Sys2Proof.Machine

/-! ## The settlement table at a start (R168) -/

/-- An entry made CURRENT changes table, unattributed Wh and records; with room in the table no record is written. -/
theorem openFor_shape (s : State) (pos : Nat) :
    ∃ t w r, openFor s pos =
        { s with boardBill := { s.boardBill with table := t, unattributed := w }, records := r } ∧
      hasCurrent t = true ∧ (∀ e ∈ t, e ∈ s.boardBill.table ∨ e.state = .current) ∧
      (s.boardBill.table.length < tableCap → r = s.records) := by
  unfold openFor makeCurrent
  dsimp only
  split
  · rename_i n hfound
    obtain ⟨hlt, -⟩ := List.findIdx?_eq_some_iff_getElem.mp hfound
    obtain ⟨before, e, after, htable, -, hmodify⟩ := List.exists_of_modify (reopen ((s.channel 0).state == .lost) pos) hlt
    rw [hmodify]
    refine ⟨_, s.boardBill.unattributed, s.records, rfl,
      hasCurrent_iff.mpr ⟨_, List.mem_append_right _ (List.mem_cons_self ..), rfl⟩, fun x hx => ?_, fun _ => rfl⟩
    rw [htable]
    rcases List.mem_append.mp hx with hx | hx
    · exact .inl (List.mem_append_left _ hx)
    · rcases List.mem_cons.mp hx with rfl | hx
      · exact .inr rfl
      · exact .inl (List.mem_append_right _ (List.mem_cons_of_mem _ hx))
  · have hroom : ∃ t w r, makeRoom s =
          { s with boardBill := { s.boardBill with table := t, unattributed := w }, records := r } ∧
        (∀ e ∈ t, e ∈ s.boardBill.table) ∧ (s.boardBill.table.length < tableCap → r = s.records) := by
      unfold makeRoom
      split
      · exact ⟨s.boardBill.table, s.boardBill.unattributed, s.records, rfl, fun _ h => h, fun _ => rfl⟩
      · next hfull =>
        split
        · unfold leaveTable
          split
          · dsimp only
            split
            · exact ⟨_, _, _, rfl, fun e he => List.mem_of_mem_eraseIdx he, fun h => absurd h hfull⟩
            · exact ⟨_, s.boardBill.unattributed, s.records, rfl, fun e he => List.mem_of_mem_eraseIdx he, fun _ => rfl⟩
          · exact ⟨s.boardBill.table, s.boardBill.unattributed, s.records, rfl, fun _ h => h, fun _ => rfl⟩
        · exact ⟨s.boardBill.table, s.boardBill.unattributed, s.records, rfl, fun _ h => h, fun _ => rfl⟩
    obtain ⟨t, w, r, heq, hmem, hrecords⟩ := hroom
    unfold openEntry
    rw [heq]
    refine ⟨_, w, r, rfl, hasCurrent_iff.mpr ⟨_, List.mem_append_right _ (List.mem_singleton_self _), rfl⟩,
      fun x hx => ?_, hrecords⟩
    rcases List.mem_append.mp hx with hx | hx
    · exact .inl (hmem x hx)
    · rw [List.mem_singleton.mp hx]
      exact .inr rfl

/-- The table set against the feedbacks, the claims not yet posted again. -/
def State.tabled (s : State) : State :=
  let s1 := setTable s (s.boardBill.table.map (settleCurrent s))
  let s2 :=
    if hasCurrent s1.boardBill.table then s1
    else
      match s1.closedList with
      | [] => s1
      | n :: _ => openFor s1 n
  setTable s2 (s2.boardBill.table.map (fun e => if e.state = .claimed then { e with wait := 0 } else e))

theorem startBoardBill_eq (s : State) : startBoardBill s = s.tabled.boardBill.table.foldl reclaim s.tabled := rfl

theorem settleCurrent_claimed {s : State} {e : Entry} (h : e.state ≠ .claimed) : (settleCurrent s e).state ≠ .claimed := by
  unfold settleCurrent
  split
  · exact fun hc => by cases hc
  · split <;> exact h

/-- What the table's start changes beside the posting of claims, and when it writes no record. -/
theorem tabled_shape (s : State) :
    ∃ t w r, s.tabled = { s with boardBill := { s.boardBill with table := t, unattributed := w }, records := r } ∧
      (s.closedList ≠ [] → hasCurrent t = true) ∧
      ((∀ e ∈ s.boardBill.table, e.state ≠ .claimed) → ∀ e ∈ t, e.state ≠ .claimed) ∧
      (s.boardBill.table.length < tableCap → r = s.records) := by
  have hcurrent : ∀ l : List Entry,
      hasCurrent (l.map (fun e => if e.state = .claimed then { e with wait := 0 } else e)) = hasCurrent l :=
    hasCurrent_map (fun e => by split <;> rfl)
  have hclaims : ∀ l : List Entry, (∀ e ∈ l, e.state ≠ .claimed) →
      ∀ e ∈ l.map (fun e => if e.state = .claimed then { e with wait := 0 } else e), e.state ≠ .claimed := fun l h e he => by
    obtain ⟨x, hx, rfl⟩ := List.mem_map.mp he
    rw [if_neg (h x hx)]
    exact h x hx
  have hset : ∀ e ∈ s.boardBill.table.map (settleCurrent s),
      (∀ e ∈ s.boardBill.table, e.state ≠ .claimed) → e.state ≠ .claimed := fun e he h => by
    obtain ⟨x, hx, rfl⟩ := List.mem_map.mp he
    exact settleCurrent_claimed (h x hx)
  have hlength : (s.boardBill.table.map (settleCurrent s)).length = s.boardBill.table.length := List.length_map ..
  have hlist : ∀ t, (setTable s t).closedList = s.closedList := fun _ => rfl
  unfold State.tabled
  dsimp only
  split
  · next h =>
    exact ⟨_, s.boardBill.unattributed, s.records, rfl, fun _ => (hcurrent _).trans h,
      fun hnone => hclaims _ (fun e he => hset e he hnone), fun _ => rfl⟩
  · split
    · next hopen =>
      rw [hlist] at hopen
      exact ⟨_, s.boardBill.unattributed, s.records, rfl, fun h => absurd hopen h,
        fun hnone => hclaims _ (fun e he => hset e he hnone), fun _ => rfl⟩
    · next n more _ =>
      obtain ⟨t, w, r, heq, hopened, hmem, hrecords⟩ := openFor_shape (setTable s (s.boardBill.table.map (settleCurrent s))) n
      rw [heq]
      refine ⟨_, w, r, rfl, fun _ => (hcurrent _).trans hopened, fun hnone => hclaims _ (fun e he => ?_), fun h => ?_⟩
      · rcases hmem e he with he | he
        · exact hset e he hnone
        · rw [he]
          exact fun hc => by cases hc
      · exact hrecords (Nat.lt_of_le_of_lt (Nat.le_of_eq hlength) h)

theorem foldl_reclaim_boardBill : ∀ (l : List Entry) (s : State), (l.foldl reclaim s).boardBill = s.boardBill
  | [], _ => rfl
  | e :: l, s => by
    have hone : (reclaim s e).boardBill = s.boardBill := by
      unfold reclaim
      split <;> rfl
    exact (foldl_reclaim_boardBill l (reclaim s e)).trans hone

theorem foldl_reclaim_of_none {s : State} : ∀ {l : List Entry}, (∀ e ∈ l, e.state ≠ .claimed) → l.foldl reclaim s = s
  | [], _ => rfl
  | e :: l, h => by
    have hone : reclaim s e = s := if_neg (h e (List.mem_cons_self ..))
    rw [List.foldl_cons, hone]
    exact foldl_reclaim_of_none (fun x hx => h x (List.mem_cons_of_mem _ hx))

/-- While a position is closed the table has a CURRENT entry after a start. -/
theorem startBoardBill_current {s : State} (h : s.closedList ≠ []) : hasCurrent (startBoardBill s).boardBill.table = true := by
  obtain ⟨t, w, r, heq, hcurrent, -, -⟩ := tabled_shape s
  rw [startBoardBill_eq, foldl_reclaim_boardBill, heq]
  exact hcurrent h

/-- A table with no claim posts nothing at a start, and one with room records nothing. -/
theorem startBoardBill_still {s : State} (h : ∀ e ∈ s.boardBill.table, e.state ≠ .claimed) :
    (startBoardBill s).line = s.line ∧
      (s.boardBill.table.length < tableCap → (startBoardBill s).records = s.records) := by
  obtain ⟨t, w, r, heq, -, hclaims, hrecords⟩ := tabled_shape s
  have htable : s.tabled.boardBill.table = t := by rw [heq]
  rw [startBoardBill_eq, foldl_reclaim_of_none (by rw [htable]; exact hclaims h), heq]
  exact ⟨rfl, hrecords⟩

theorem startBoardBill_touches (s : State) : s.Touches tableParts (startBoardBill s) :=
  (State.Touches.refl _ s).thenStartBoardBill

/-! ## The changeover controller adopted (R113) -/

theorem setStatusOf_of_no_peers {s : State} (h : s.peers = []) (n : Nat) : s.setStatusOf n = none := by
  simp only [State.setStatusOf, State.peer, h, List.find?_nil]

theorem freshSet_of_no_peers {s : State} (h : s.peers = []) (n : Nat) : s.freshSet n = none := by
  simp only [State.freshSet, State.peer, h, List.find?_nil]

/-- A board that has heard no station has no candidate. -/
theorem candidateList_of_no_peers {s : State} (h : s.peers = []) (estimate : Nat) : candidateList s estimate = [] := by
  have hnone : ∀ pos, candidateOk s estimate pos = false := fun pos => by
    simp only [candidateOk, freshSet_of_no_peers h, Bool.and_false]
  have hfilter : ∀ l : List Nat, l.filter (candidateOk s estimate) = [] := fun l =>
    List.filter_eq_nil_iff.mpr (fun x _ => by rw [hnone]; decide)
  simp only [candidateList, hfilter, List.filter_nil, List.append_nil]

theorem takeTrigger_of_no_peers {s : State} (h : s.peers = []) (r : Reason) :
    (takeTrigger s r).chg.attempt = s.chg.attempt ∧ (takeTrigger s r).chg.cmd = s.chg.cmd := by
  rw [takeTrigger, candidateList_of_no_peers h, beginAttempt_empty, emptyAttempt]
  dsimp only
  split <;> exact ⟨rfl, rfl⟩

/-- A board that has heard no station begins no attempt. -/
theorem idleTests_of_no_peers {s : State} (h : s.peers = []) :
    (idleTests s).chg.attempt = s.chg.attempt ∧ (idleTests s).chg.cmd = s.chg.cmd := by
  unfold idleTests idleRows
  split
  · split
    · exact takeTrigger_of_no_peers h _
    · unfold noteTest
      split
      · split
        · split
          · split
            · exact ⟨rfl, rfl⟩
            · exact takeTrigger_of_no_peers h _
          · exact ⟨rfl, rfl⟩
        · exact ⟨rfl, rfl⟩
      · exact ⟨rfl, rfl⟩
  · exact ⟨rfl, rfl⟩

/-- The changeover controller as adoption begins. -/
def State.adoptedChg (s : State) (note : Option Nat) : Changeover :=
  { s.chg with
      state := .idle, cmd := none, held := 0, lastLive := none, attempt := none, retry := none, dwell := none,
      dryNote := note, fault := none, quiet := none }

theorem adoptStage_eq (s : State) :
    adoptStage s =
      if 2 ≤ s.closedList.length then takeSwitchFault { s with chg := s.adoptedChg (adoptedNote s) } .twoClosed
      else idleTests { s with chg := s.adoptedChg (adoptedNote s) } := rfl

theorem takeSwitchFault_of_none {s : State} (h : s.chg.attempt = none) (cause : SwitchFault) :
    (takeSwitchFault s cause).chg.attempt = none ∧ (takeSwitchFault s cause).chg.cmd = none := by
  unfold takeSwitchFault
  rw [h]
  exact ⟨h, rfl⟩

theorem adoptStage_of_no_peers {s : State} (h : s.peers = []) :
    (adoptStage s).chg.attempt = none ∧ (adoptStage s).chg.cmd = none := by
  rw [adoptStage_eq]
  split
  · exact takeSwitchFault_of_none rfl _
  · exact idleTests_of_no_peers (s := { s with chg := s.adoptedChg (adoptedNote s) }) h

/-- On one closed position that is not dead, its set neither UNLOADING nor DRY, adoption rests in IDLE. -/
theorem adoptStage_rests {s : State} {pos : Nat} (hone : s.closedList = [pos]) (hlive : s.liveAt pos ≠ .notLive)
    (hunload : ∀ b, s.setStatusOf (s.image.setAt pos) = some b → b.duty ≠ dutyCode .unloading)
    (hdry : s.image.followsDry = true → ∀ b, s.freshSet (s.image.setAt pos) = some b → b.dryFlag = false) :
    adoptStage s = { s with chg := s.adoptedChg none } := by
  have hclosed : s.closedPos = pos := by simp only [State.closedPos, hone]
  have hfeeding : s.feedingSet = s.image.setAt pos := by rw [State.feedingSet, hclosed]
  have hnote : adoptedNote s = none := by
    refine if_neg (fun ⟨hfollows, hany⟩ => ?_)
    obtain ⟨b, hb, hflag⟩ := (Option.any_eq_true ..).mp hany
    rw [hfeeding] at hb
    rw [hdry hfollows b hb] at hflag
    cases hflag
  have hcalm : ({ s with chg := s.adoptedChg none } : State).Calm none none := by
    refine ⟨fun _ hdead => ?_, fun hnone => ?_, fun b _ hb hduty => ?_, fun n hn => ?_⟩
    · exact absurd ((congrArg s.liveAt hclosed.symm).trans hdead) hlive
    · cases hone.symm.trans hnone
    · exact absurd hduty (hunload b (by rw [← hfeeding]; exact hb))
    · cases hn
  rw [adoptStage_eq, hone, hnote, if_neg (show ¬ 2 ≤ [pos].length from (by decide : ¬ 2 ≤ 1))]
  exact idleTests_of_calm (s := { s with chg := s.adoptedChg none }) hcalm

end Sys2Proof.Machine
end

section
/-! PROOFS. WARM_RESTART (O53). -/
set_option Elab.async false

namespace Sys2Proof.Machine

/-! ## WARM_RESTART as a command (R192) -/

/-- The station of a warm restart as the blocks of its role start. -/
def State.restarting (s : State) : State :=
  { endPulses s with
      line := restartLine s.line
      peers := []
      meter := restartMeter s.meter
      reservations := []
      chg := dropCmd s.chg }

theorem warmRestart_eq (s : State) : warmRestart s = postStatus (rewarmRole s.restarting) := rfl

theorem exec_warmRestart {s : State} (h : s.listens) (p : List Byte) :
    exec (.warmRestart p) s = .next (let w := warmRestartAct p s
      w.state.replied 11 w.code w.payload) :=
  congrArg Host.Outcome.next (takeCommand_of_listens h 11 _)

theorem warmRestartAct_of_run {s : State} (h : s.station = .run) : warmRestartAct [] s = accept (warmRestart s) := by
  rw [warmRestartAct, ofLength, if_pos (show ([] : List Byte).length = 0 from rfl), inRun, if_pos h]

theorem warmRestartAct_of_unconfigured {s : State} (h : s.station = .unconfigured) :
    warmRestartAct [] s = refuse .state s := by
  rw [warmRestartAct, ofLength, if_pos (show ([] : List Byte).length = 0 from rfl), inRun, if_neg (by rw [h]; decide)]

theorem ofLength_of_other {n : Nat} {p : List Byte} (h : p.length ≠ n) (act : State → Answer) (s : State) :
    ofLength n p act s = refuse .range s := if_neg h

/-- A taken restart, its reply in the buffer. -/
theorem exec_warmRestart_of_run {s : State} (h : s.listens) (hrun : s.station = .run) :
    exec (.warmRestart []) s = .next ((warmRestart s).replied 11 .ok []) := by
  rw [exec_warmRestart h, warmRestartAct_of_run hrun]
  rfl

/-! ## What the STATUS at the end leaves -/

/-- The STATUS of a start joins an empty queue, and no other frame. -/
theorem postStatus_alone {u : State} (hqueue : u.line.queue = []) (holder : u.line.older = none) :
    (postStatus u).line.older = none ∧ ∀ g ∈ (postStatus u).line.queue, g.isStatus = true := by
  refine ⟨?_, fun g hg => ?_⟩
  · unfold postStatus
    dsimp only
    split
    · split
      · split
        · rw [acceptFrame, hqueue]
          simp only [List.find?_nil]
          split
          · split <;> exact holder
          · split
            · exact holder
            · split <;> exact holder
        · exact holder
      · exact holder
    · exact holder
  · rcases (postStatus_queue u).1 g hg with h | h
    · rw [hqueue] at h
      cases h
    · exact h

/-- What a restart leaves still: no record joins, no pulse begins, no frame but the STATUS is queued. -/
def State.StillAfter (s t : State) : Prop :=
  t.records = s.records ∧ t.pulses = { engine := none, breaker := none } ∧ t.line.older = none ∧
    ∀ g ∈ t.line.queue, g.isStatus = true

/-- The blocks of the role have neither recorded, pulsed nor posted. -/
theorem stillAfter_of_same {s v : State} (hrecords : v.records = s.restarting.records)
    (hpulses : v.pulses = s.restarting.pulses) (hline : v.line = s.restarting.line) : s.StillAfter (postStatus v) := by
  obtain ⟨holder, hqueue⟩ := postStatus_alone (u := v) (by rw [hline]; rfl) (by rw [hline]; rfl)
  exact ⟨hrecords, hpulses, holder, hqueue⟩

/-! ## A SET (R72, R89, R131, R147, R155) -/

/-- The parts that a SET's blocks touch as they start. -/
abbrev startParts : List Part := tankParts ++ setBillParts ++ actParts

theorem startSet_touches {f : State → State} (hf : ∀ v : State, v.Touches setBillParts (f v)) (s : State) (mode : RunMode) :
    s.Touches startParts (startDelivery (adoptDuty (f (startTank s)) mode)) := by
  have htank : s.Touches startParts (startTank s) := (startTank_touches s).mono (by decide)
  have hbill : s.Touches startParts (f (startTank s)) := htank.andThen (hf _) (by decide)
  have hduty : s.Touches startParts (adoptDuty (f (startTank s)) mode) :=
    hbill.andThen ((State.Touches.refl actParts _).thenAdoptDuty mode) (by decide)
  exact hduty.andThen ((State.Touches.refl [.delivery] _).setDelivery _) (by decide)

theorem rewarmSetBill_shape (s : State) :
    (rewarmSetBill s).meter = s.meter ∧ (rewarmSetBill s).setBill.last = none ∧
      (s.setBill.closed = none →
        (rewarmSetBill s).line = s.line ∧ (rewarmSetBill s).records = s.records ∧ (rewarmSetBill s).pulses = s.pulses) := by
  unfold rewarmSetBill repeatClose
  split
  · next c hclosed => exact ⟨rfl, rfl, fun h => by cases hclosed.symm.trans h⟩
  · exact ⟨rfl, rfl, fun _ => ⟨rfl, rfl, rfl⟩⟩

theorem restarting_lost (s : State) (n : Nat) : (s.restarting.channel n).state = .noData := by
  have hlist : s.restarting.meter.channels = s.meter.channels.map restartChannel := rfl
  rw [State.channel, hlist]
  by_cases h : n < (s.meter.channels.map restartChannel).length
  · rw [getD_of_lt _ _ h, List.getElem_map]
    rfl
  · rw [getD_of_le _ _ (Nat.not_lt.mp h)]
    rfl

section set
variable (s : State)

/-- A SET as its duty controller is adopted in a restart. -/
def State.rebilled : State := rewarmSetBill (startTank s.restarting)

theorem rebilled_touches : (startTank s.restarting).Touches setBillParts s.rebilled := (State.Touches.refl _ _).thenRewarmSetBill

theorem rebilled_adopted : s.rebilled.Touches actParts (adoptDuty s.rebilled s.duty.mode) :=
  (State.Touches.refl _ _).thenAdoptDuty _

theorem rewarmSet_restarting : rewarmSet s.restarting = startDelivery (adoptDuty s.rebilled s.duty.mode) := rfl

theorem startDelivery_keeps_parts (v : State) :
    (startDelivery v).reservations = v.reservations ∧ (startDelivery v).duty = v.duty ∧
    (startDelivery v).delivery.session = none ∧ (startDelivery v).setBill = v.setBill ∧
    (startDelivery v).meter = v.meter ∧ (startDelivery v).line = v.line ∧ (startDelivery v).records = v.records ∧
    (startDelivery v).pulses = v.pulses := ⟨rfl, rfl, rfl, rfl, rfl, rfl, rfl, rfl⟩

/-- Lists, mode, delivery unit and settlement unit of a SET after a restart. -/
theorem rewarmSet_lists :
    (rewarmSet s.restarting).reservations = [] ∧ (rewarmSet s.restarting).duty.feed = [] ∧
    (rewarmSet s.restarting).duty.mode = s.duty.mode ∧ (rewarmSet s.restarting).delivery.session = none ∧
    (rewarmSet s.restarting).setBill.last = none := by
  obtain ⟨hfeed, hreserved⟩ := adoptDuty_lists s.rebilled s.duty.mode
  obtain ⟨hlist, hduty, hsession, hbill, -⟩ := startDelivery_keeps_parts (adoptDuty s.rebilled s.duty.mode)
  rw [rewarmSet_restarting, hlist, hduty, hbill]
  refine ⟨hreserved ?_, hfeed, adoptDuty_mode s.rebilled s.duty.mode, hsession, ?_⟩
  · rw [(rebilled_touches s).same .reservations (by decide)]
    rfl
  · rw [(rebilled_adopted s).same .setBill (by decide)]
    exact (rewarmSetBill_shape (startTank s.restarting)).2.1

/-- The channels keep their energy, and the meter link its reading. -/
theorem rewarmSet_meter : (rewarmSet s.restarting).meter = restartMeter s.meter := by
  obtain ⟨-, -, -, -, hmeter, -⟩ := startDelivery_keeps_parts (adoptDuty s.rebilled s.duty.mode)
  rw [rewarmSet_restarting, hmeter, (rebilled_adopted s).same .meter (by decide)]
  exact (rewarmSetBill_shape (startTank s.restarting)).1

theorem rewarmSet_still (hmode : s.duty.mode = .auto) (hfault : s.input 3 = false)
    (hready : s.input 2 = true → s.input 1 = true) (hwarmup : s.image.warmupTime ≠ 0) (hclosed : s.setBill.closed = none) :
    s.StillAfter (postStatus (rewarmSet s.restarting)) := by
  obtain ⟨hmeter, -, hstill⟩ := rewarmSetBill_shape (startTank s.restarting)
  obtain ⟨hline, hrecords, hpulses⟩ := hstill hclosed
  have hinput : ∀ n, s.rebilled.input n = s.input n := fun n => by
    have hinputs : s.rebilled.inputs = s.inputs := (rebilled_touches s).same .inputs (by decide)
    rw [State.input, State.input, hinputs]
  have hadopted : adoptDuty s.rebilled .auto = s.rebilled.adopting .auto := by
    refine adoptDuty_of_quiet ?_ ((hinput 3).trans hfault) ?_ (fun _ => ?_)
    · have hchannel : s.rebilled.channel 0 = s.restarting.channel 0 := congrArg (fun m => m.channels.getD 0 blankChannel) hmeter
      rw [hchannel, restarting_lost]
      decide
    · rw [hinput, hinput]
      exact hready
    · rw [(rebilled_touches s).same .image (by decide)]
      exact hwarmup
  rw [rewarmSet_restarting, hmode, hadopted]
  exact stillAfter_of_same hrecords hpulses hline

end set

/-! ## A BOARD (R113, R168) -/

section board
variable (s : State)

theorem rewarmStage_touches : s.restarting.Touches [.chg] (rewarmStage s.restarting) :=
  (State.Touches.refl _ _).thenRewarmStage

theorem rewarmBoard_touches : s.restarting.Touches ([.chg] ++ tableParts) (rewarmBoard s.restarting) :=
  ((rewarmStage_touches s).mono (by decide)).andThen (startBoardBill_touches _) (by decide)

theorem rewarmBoard_chg : (rewarmBoard s.restarting).chg = (rewarmStage s.restarting).chg :=
  (startBoardBill_touches _).same .chg (by decide)

/-- The peer table empties first, so that no attempt begins (log 52). -/
theorem rewarmBoard_rests : (rewarmBoard s.restarting).chg.attempt = none ∧ (rewarmBoard s.restarting).chg.cmd = none := by
  rw [rewarmBoard_chg, rewarmStage]
  split
  · exact ⟨rfl, rfl⟩
  · exact adoptStage_of_no_peers rfl

theorem rewarmBoard_locked (h : s.chg.state = .locked) :
    (rewarmBoard s.restarting).chg.state = .locked ∧ (rewarmBoard s.restarting).chg.fault = s.chg.fault ∧
    (rewarmBoard s.restarting).chg.lastLive = s.chg.lastLive := by
  rw [rewarmBoard_chg, rewarmStage, if_pos (show s.restarting.chg.state = .locked from h)]
  exact ⟨h, rfl, rfl⟩

theorem rewarmBoard_still
    (hquiet : s.chg.state = .locked ∨ ∃ pos, s.closedList = [pos] ∧ s.liveAt pos ≠ .notLive)
    (hroom : s.boardBill.table.length < tableCap) (hclaims : ∀ e ∈ s.boardBill.table, e.state ≠ .claimed) :
    s.StillAfter (postStatus (rewarmBoard s.restarting)) := by
  have hstage : ∃ c, rewarmStage s.restarting = { s.restarting with chg := c } := by
    by_cases hlocked : s.chg.state = .locked
    · exact ⟨_, if_pos (show s.restarting.chg.state = .locked from hlocked)⟩
    · obtain ⟨pos, hone, hlive⟩ := hquiet.resolve_left hlocked
      refine ⟨_, (if_neg (show ¬ s.restarting.chg.state = .locked from hlocked)).trans
        (adoptStage_rests (pos := pos) hone hlive (fun b hb => ?_) (fun _ b hb => ?_))⟩
      · rw [setStatusOf_of_no_peers rfl] at hb
        cases hb
      · rw [freshSet_of_no_peers rfl] at hb
        cases hb
  obtain ⟨c, hstage⟩ := hstage
  obtain ⟨hline, hrecords⟩ := startBoardBill_still (s := { s.restarting with chg := c }) hclaims
  have hpulses := (startBoardBill_touches { s.restarting with chg := c }).same .pulses (by decide)
  rw [rewarmBoard, hstage]
  exact stillAfter_of_same (hrecords hroom) hpulses hline

end board

/-! ## WARM_RESTART -/

/-- Settles O53: what each part of the restart touches, and what it leaves still. -/
theorem warmRestartStartsTheBlocksAfresh : Obligations.WarmRestartStartsTheBlocksAfresh := by
  unfold Obligations.WarmRestartStartsTheBlocksAfresh
  intro s hlistens
  refine ⟨fun hstation => ?_, fun p hp => ?_, fun hrun => ⟨fun hrole => ?_, fun hrole => ?_, fun hrole => ?_⟩⟩
  · rw [exec_warmRestart hlistens, warmRestartAct_of_unconfigured hstation]
    rfl
  · rw [exec_warmRestart hlistens, warmRestartAct, ofLength_of_other (fun h => hp (List.length_eq_zero_iff.mp h))]
    rfl
  · rw [exec_warmRestart_of_run hlistens hrun, warmRestart_eq, rewarmRole, show s.restarting.image.role = _ from hrole]
    rfl
  · rw [exec_warmRestart_of_run hlistens hrun, warmRestart_eq, rewarmRole, show s.restarting.image.role = _ from hrole]
    dsimp only
    have htouches : s.restarting.Touches startParts (postStatus (rewarmSet s.restarting)) :=
      (startSet_touches (fun v => (State.Touches.refl _ v).thenRewarmSetBill) s.restarting s.duty.mode).thenPostStatus
    obtain ⟨hreserved, hfeed, hmode, hsession, hlast⟩ := rewarmSet_lists s
    have hmeter := rewarmSet_meter s
    have hstill := rewarmSet_still s
    generalize rewarmSet s.restarting = w at htouches hreserved hfeed hmode hsession hlast hmeter hstill ⊢
    have hlink : w.meter.link = s.meter.link := by rw [hmeter]; rfl
    exact ⟨_, rfl, Eq.trans (htouches.same .station (by decide)) hrun, htouches.same .image (by decide),
      htouches.same .stationSeconds (by decide), congrArg (fun q => placeReply q 11 .ok []) (htouches.same .port (by decide)),
      htouches.same .peers (by decide), hreserved, hfeed, hmode, hsession, hlast, htouches.same .listenOnly (by decide),
      htouches.same .phase (by decide), hstill, congrArg Metering.channels hmeter, hlink,
      congrArg Metering.linkOld hmeter⟩
  · rw [exec_warmRestart_of_run hlistens hrun, warmRestart_eq, rewarmRole, show s.restarting.image.role = _ from hrole]
    dsimp only
    have htouches : s.restarting.Touches ([.chg] ++ tableParts) (postStatus (rewarmBoard s.restarting)) :=
      (rewarmBoard_touches s).thenPostStatus
    obtain ⟨hattempt, hcmd⟩ := rewarmBoard_rests s
    have hmeter : (rewarmBoard s.restarting).meter = restartMeter s.meter := (rewarmBoard_touches s).same .meter (by decide)
    have hstill := rewarmBoard_still s
    have hlocked := rewarmBoard_locked s
    generalize rewarmBoard s.restarting = w at htouches hattempt hcmd hmeter hstill hlocked ⊢
    have hlink : w.meter.link = s.meter.link := by rw [hmeter]; rfl
    exact ⟨_, rfl, Eq.trans (htouches.same .station (by decide)) hrun, htouches.same .image (by decide),
      htouches.same .stationSeconds (by decide), congrArg (fun q => placeReply q 11 .ok []) (htouches.same .port (by decide)),
      htouches.same .peers (by decide), hattempt, hcmd, htouches.same .listenOnly (by decide),
      htouches.same .phase (by decide), hlink, congrArg Metering.linkOld hmeter,
      hstill, hlocked⟩

end Sys2Proof.Machine
end

section
/-! PROOFS. START (O52). -/
set_option Elab.async false

namespace Sys2Proof.Machine

/-! ## START as a command (R191) -/

/-- The station of a START as the blocks of its role start. -/
def State.entering (s : State) : State :=
  narrowMeter { s with station := .run, stationSeconds := 0, port := { s.port with startRefusal := none } }

theorem enterRun_eq (s : State) : enterRun s = postStatus (startRole s.entering) := rfl

theorem exec_start {s : State} (h : s.listens) (p : List Byte) :
    exec (.start p) s = .next (let w := startAct p s
      w.state.replied 2 w.code w.payload) :=
  congrArg Host.Outcome.next (takeCommand_of_listens h 2 _)

theorem startAct_of_run {s : State} (h : s.station = .run) : startAct [] s = refuse .state s := by
  rw [startAct, ofLength, if_pos (show ([] : List Byte).length = 0 from rfl), beforeRun, if_pos h]

theorem startAct_of_unconfigured {s : State} (h : s.station = .unconfigured) : startAct [] s = startUp s := by
  rw [startAct, ofLength, if_pos (show ([] : List Byte).length = 0 from rfl), beforeRun, if_neg (by rw [h]; decide)]

/-- The first failing item is named in the reply, and read in the status part. -/
theorem exec_start_refused {s : State} {item : Nat} (h : s.listens) (hstation : s.station = .unconfigured)
    (hitem : firstFailure s.image = some item) :
    exec (.start []) s = .next
      ({ s with port := { s.port with startRefusal := some item } }.replied 2 .range [BitVec.ofNat 8 item]) := by
  rw [exec_start h, startAct_of_unconfigured hstation, startUp, hitem]
  rfl

theorem exec_start_taken {s : State} (h : s.listens) (hstation : s.station = .unconfigured)
    (hitem : firstFailure s.image = none) : exec (.start []) s = .next ((enterRun s).replied 2 .ok []) := by
  rw [exec_start h, startAct_of_unconfigured hstation, startUp, hitem]
  rfl

/-! ## The validation (R191) -/

theorem firstFailure_of_station {i : Image} (h : i.station = none) : firstFailure i = some 1 := by
  rw [firstFailure, h]

section role
variable {i : Image} {own : Nat} (hown : i.station = some own)
include hown

theorem firstFailure_of_no_role (h : i.role = none) : firstFailure i = some 2 := by rw [firstFailure, hown, h]

theorem firstFailure_of_set (h : i.role = some .set) : firstFailure i = setFailure i := by rw [firstFailure, hown, h]

theorem firstFailure_of_board (h : i.role = some .board) :
    firstFailure i = if posSetFails i own then some 32 else none := by
  rw [firstFailure, hown, h]

theorem firstFailure_of_tanker (h : i.role = some .tanker) : firstFailure i = none := by rw [firstFailure, hown, h]

end role

theorem strapOk_false_iff {i : Image} : strapOk i = false ↔ ¬ i.Strapped := by
  rw [← strapOk_iff, Bool.not_eq_true]

section valid
variable {i : Image} (hrated : i.rated ≠ none)
include hrated

theorem setFailure_of_cal (h : i.calHigh < i.calLow + 8000) : setFailure i = some 18 := by
  rw [setFailure, if_neg hrated, if_pos h]

variable (hcal : i.calLow + 8000 ≤ i.calHigh)
include hcal

theorem setFailure_of_strap (h : ¬ i.Strapped) : setFailure i = some 22 := by
  rw [setFailure, if_neg hrated, if_neg (Nat.not_lt.mpr hcal), if_pos (strapOk_false_iff.mpr h)]

theorem setFailure_of_strapped (h : i.Strapped) : setFailure i = if i.fullVolume ≤ i.reserveCl then some 23 else none := by
  rw [setFailure, if_neg hrated, if_neg (Nat.not_lt.mpr hcal), if_neg (fun hstrap => strapOk_false_iff.mp hstrap h)]

end valid

/-! ## The first STATUS (R25) -/

theorem ownStatus_postStatus (w : State) : (postStatus w).ownStatus = w.ownStatus := by
  have hline : ∀ l, ({ w with line := l } : State).ownStatus = w.ownStatus := fun _ => rfl
  exact hline _

theorem ownStatus_of_role {w : State} {r : Role} (h : w.image.role = some r) : ∃ b, w.ownStatus = some b := by
  rw [State.ownStatus, h]
  cases r <;> exact ⟨_, rfl⟩

/-- The first STATUS begins its interval, and stands alone in a queue that was empty. -/
theorem postStatus_first {w : State} {b : StatusBody} (hown : w.ownStatus = some b) (hrun : w.station = .run)
    (hawake : w.awake = true) :
    (postStatus w).line.statusTimer = some 0 ∧ (w.line.queue = [] → w.line.listenOnly = false →
      (postStatus w).line.queue = [newFrame 0 (.status b)]) := by
  have hline : (postStatus w).line =
      { (if w.posts then acceptFrame w.line (newFrame 0 (.status b)) else w.line) with statusTimer := some 0 } := by
    simp only [postStatus, hown, if_pos hrun]
  rw [hline]
  refine ⟨rfl, fun hqueue hlistens => ?_⟩
  have hposts : w.posts = true := by rw [State.posts, hawake, hrun, hlistens]; rfl
  have hstatus : (newFrame 0 (.status b)).isStatus = true := by simp [newFrame_isStatus, Body.kind]
  simp only [hposts, if_true, acceptFrame, hstatus, hqueue, List.find?_nil]
  rfl

/-! ## A SET (R34, R59, R131, R134, R155) -/

theorem entering_channel (s : State) (n : Nat) :
    (s.entering.channel n).wh = (s.channel n).wh ∧
      ((s.channel n).state ≠ .lost → (s.entering.channel n).state ≠ .lost) := by
  have hnarrow : ∀ (used : Bool) (c : Channel), (narrowChannel used c).wh = c.wh ∧
      (c.state ≠ .lost → (narrowChannel used c).state ≠ .lost) := fun used c => by
    cases used with
    | false => exact ⟨rfl, fun _ h => by cases h⟩
    | true =>
      unfold narrowChannel
      rw [if_pos rfl]
      split <;> exact ⟨rfl, id⟩
  have hlist : s.entering.meter.channels =
      s.meter.channels.mapIdx (fun n c => narrowChannel (({ s with station := .run, stationSeconds := 0, port := { s.port with startRefusal := none } } : State).inUse n) c) := rfl
  rw [State.channel, State.channel, hlist]
  by_cases h : n < s.meter.channels.length
  · rw [getD_of_lt _ _ (by rw [List.length_mapIdx]; exact h), getD_of_lt _ _ h, List.getElem_mapIdx]
    exact hnarrow _ _
  · rw [getD_of_le _ _ (by rw [List.length_mapIdx]; exact Nat.not_lt.mp h),
      getD_of_le _ _ (Nat.not_lt.mp h)]
    exact ⟨rfl, id⟩

/-- A SET as its duty controller is adopted at START. -/
def State.billed (s : State) : State := startSetBill (startTank s.entering)

theorem startSet_eq (s : State) : startSet s.entering = startDelivery (adoptDuty s.billed s.image.startMode) := rfl

theorem billed_touches (s : State) : (startTank s.entering).Touches setBillParts s.billed :=
  (State.Touches.refl _ _).thenStartSetBill

/-- With no period retained, period 1 opens, and nothing is posted. -/
theorem billed_of_none {s : State} (hopened : s.setBill.opened = none) (hclosed : s.setBill.closed = none) :
    s.billed = openPeriod { startTank s.entering with setBill := { clearClaims s.setBill with putOff := false } } 1 := by
  have hrepeat : ∀ (v : State) (p : Nat), v.setBill.closed = none → repeatClose (openPeriod v p) = openPeriod v p :=
    fun v p h => by
      have hkept : (openPeriod v p).setBill.closed = none := h
      rw [repeatClose, hkept]
  unfold State.billed startSetBill
  dsimp only
  rw [show (clearClaims (startTank s.entering).setBill).opened = none from hopened]
  exact hrepeat _ _ hclosed

/-- A channel keeps its state where a period opens. -/
theorem openPeriod_channel (v : State) (p n : Nat) : ((openPeriod v p).channel n).state = (v.channel n).state := by
  have hlist : (openPeriod v p).meter.channels = v.meter.channels.set 0 { v.channel 0 with peak := 0 } := rfl
  rw [State.channel, hlist]
  by_cases h : n < v.meter.channels.length
  · rw [getD_of_lt _ _ (by rw [List.length_set]; exact h), List.getElem_set]
    split
    · next hn => subst hn; rfl
    · exact congrArg Channel.state (getD_of_lt _ blankChannel h).symm
  · rw [getD_of_le _ _ (by rw [List.length_set]; exact Nat.not_lt.mp h), State.channel,
      getD_of_le _ _ (Nat.not_lt.mp h)]

section set
variable {s : State} (hready : s.input 1 = false) (hbreaker : s.input 2 = false) (hfault : s.input 3 = false)
  (hheard : (s.channel 0).state ≠ .lost) (hmode : s.image.defaultMode = none)
  (hopened : s.setBill.opened = none) (hclosed : s.setBill.closed = none)
include hready hbreaker hfault hheard hmode hopened hclosed

/-- A stopped SET with nothing to act on is adopted OFF, in AUTO. -/
theorem startSet_rests : startSet s.entering = startDelivery (s.billed.adopting .auto) := by
  have hstart : s.image.startMode = .auto := by rw [Image.startMode, hmode]; rfl
  have hinput : ∀ n, s.billed.input n = s.input n := fun n => by
    have hinputs : s.billed.inputs = s.inputs := (billed_touches s).same .inputs (by decide)
    rw [State.input, State.input, hinputs]
  have hchannel : (s.billed.channel 0).state ≠ .lost := by
    rw [billed_of_none hopened hclosed, openPeriod_channel]
    exact (entering_channel s 0).2 hheard
  have hnot : ∀ {b : Bool}, b = false → ¬ b = true := fun h h' => by cases h.symm.trans h'
  rw [startSet_eq, hstart, adoptDuty_of_quiet hchannel ((hinput 3).trans hfault)
    (fun h => absurd h (hnot ((hinput 2).trans hbreaker))) (fun h => absurd h (hnot ((hinput 1).trans hready)))]

/-- What a stopped SET is as it enters RUN. -/
theorem startSet_enters :
    let w := startSet s.entering
    w.duty.state = .off ∧ w.duty.mode = .auto ∧ w.duty.feed = [] ∧ w.duty.faults = [] ∧ w.pulses = s.pulses ∧
    w.tank.mode = .unknown ∧ w.line = s.line ∧ w.records = s.records ∧
    w.setBill.opened = some
      { period := 1, elapsed := 0, burn := clOf s.tank.burnPulses s.image.burnFactor, output := (s.channel 0).wh,
        run := s.duty.runSeconds, idle := 0, interrupted := false } := by
  have hinputs : s.billed.inputs = s.inputs := (billed_touches s).same .inputs (by decide)
  have hbilled := billed_of_none hopened hclosed
  have hfigures : s.billed.pulses = s.pulses ∧ s.billed.tank.mode = .unknown ∧ s.billed.line = s.line ∧
      s.billed.records = s.records ∧ s.billed.setBill.opened = some
        { period := 1, elapsed := 0, burn := clOf s.tank.burnPulses s.image.burnFactor,
          output := (s.entering.channel 0).wh, run := s.duty.runSeconds, idle := 0, interrupted := false } := by
    rw [hbilled]
    exact ⟨rfl, rfl, rfl, rfl, rfl⟩
  obtain ⟨hpulses, htank, hline, hrecords, hopen⟩ := hfigures
  rw [(entering_channel s 0).1] at hopen
  have hoff : (adoptedDuty s.billed .auto).state = .off := by
    refine if_neg (fun h => ?_)
    rw [State.input, hinputs] at h
    cases hready.symm.trans h
  rw [startSet_rests hready hbreaker hfault hheard hmode hopened hclosed]
  exact ⟨hoff, rfl, rfl, rfl, hpulses, htank, hline, hrecords, hopen⟩

end set

/-! ## A BOARD (R34, R113, R168) -/

/-- The notices of a channel that is LOST at START leave the line and the table's states alone. -/
theorem foldl_lostNotices : ∀ (l : List Nat) (s : State), s.runs .board = true →
    (l.foldl (fun t n => if t.inUse n && (t.channel n).state == .lost then lostNotices n t else t) s).line = s.line ∧
    hasCurrent (l.foldl (fun t n =>
      if t.inUse n && (t.channel n).state == .lost then lostNotices n t else t) s).boardBill.table =
        hasCurrent s.boardBill.table
  | [], _, _ => ⟨rfl, rfl⟩
  | n :: l, s, hruns => by
    have hone : ∀ t : State, t = (if s.inUse n && (s.channel n).state == .lost then lostNotices n s else s) →
        t.runs .board = true ∧ t.line = s.line ∧ hasCurrent t.boardBill.table = hasCurrent s.boardBill.table := fun t ht => by
      subst ht
      split
      · unfold lostNotices
        rw [if_pos hruns]
        split
        · exact ⟨hruns, rfl, hasCurrent_map (fun e => by split <;> rfl) _⟩
        · exact ⟨hruns, rfl, rfl⟩
      · exact ⟨hruns, rfl, rfl⟩
    obtain ⟨hruns', hline, hcurrent⟩ := hone _ rfl
    obtain ⟨hline', hcurrent'⟩ := foldl_lostNotices l _ hruns'
    exact ⟨hline'.trans hline, hcurrent'.trans hcurrent⟩

/-- What a BOARD on one closed position is as it enters RUN. -/
theorem startBoard_enters {s : State} {pos : Nat} (hrole : s.image.role = some .board) (hone : s.closedList = [pos])
    (hlive : s.liveAt pos ≠ .notLive)
    (hunload : ∀ b, s.setStatusOf (s.image.setAt pos) = some b → b.duty ≠ dutyCode .unloading)
    (hdry : s.image.followsDry = true → ∀ b, s.freshSet (s.image.setAt pos) = some b → b.dryFlag = false) :
    let w := startBoard s.entering
    s.entering.Touches ([.chg] ++ tableParts ++ meterParts) w ∧ w.chg = s.adoptedChg none ∧
    hasCurrent w.boardBill.table = true ∧
    ((∀ e ∈ s.boardBill.table, e.state ≠ .claimed) → w.line = s.line) := by
  have hstage : adoptStage s.entering = { s.entering with chg := s.adoptedChg none } :=
    adoptStage_rests (s := s.entering) hone hlive hunload hdry
  have hboard : startBoard s.entering = lostAtStart (startBoardBill { s.entering with chg := s.adoptedChg none }) := by
    rw [startBoard, hstage]
  have hbill := startBoardBill_touches { s.entering with chg := s.adoptedChg none }
  have hlost : ∀ v : State, v.Touches meterParts (lostAtStart v) := fun v => (State.Touches.refl _ v).thenLostAtStart
  have hruns : (startBoardBill { s.entering with chg := s.adoptedChg none }).runs .board = true := by
    have hstation : (startBoardBill { s.entering with chg := s.adoptedChg none }).station = .run :=
      hbill.same .station (by decide)
    have himage : (startBoardBill { s.entering with chg := s.adoptedChg none }).image = s.image :=
      hbill.same .image (by decide)
    exact runs_iff.mpr ⟨hstation, by rw [himage]; exact hrole⟩
  obtain ⟨hline, hcurrent⟩ := foldl_lostNotices allChannels _ hruns
  have htouches : s.entering.Touches ([.chg] ++ tableParts ++ meterParts) (startBoard s.entering) := by
    have hadopted : s.entering.Touches [.chg] (adoptStage s.entering) := (State.Touches.refl _ _).thenAdoptStage
    exact ((hadopted.mono (by decide)).andThen (startBoardBill_touches _) (by decide)).andThen (hlost _) (by decide)
  refine ⟨htouches, ?_, ?_, fun hclaims => ?_⟩
  · rw [hboard, (hlost _).same .chg (by decide), hbill.same .chg (by decide)]
  · rw [hboard]
    refine hcurrent.trans (startBoardBill_current (fun h => ?_))
    cases hone.symm.trans h
  · rw [hboard]
    exact hline.trans (startBoardBill_still (s := { s.entering with chg := s.adoptedChg none }) hclaims).1

/-! ## START -/

/-- What the first STATUS leaves of a station whose blocks have started. -/
theorem enters_posted {s w : State} (hrole : ∃ r, w.image.role = some r) (hrun : w.station = .run) (hawake : w.awake = true)
    (hlisten : w.line.listenOnly = s.line.listenOnly) {quiet : Prop} (hqueue : quiet → w.line.queue = s.line.queue) :
    let t := (postStatus w).replied 2 .ok []
    t.line.statusTimer = some 0 ∧ (s.line.queue = [] → s.line.listenOnly = false → quiet →
      ∃ b, t.ownStatus = some b ∧ t.line.queue = [newFrame 0 (.status b)]) := by
  obtain ⟨r, hrole⟩ := hrole
  obtain ⟨b, hown⟩ := ownStatus_of_role hrole
  obtain ⟨htimer, hfirst⟩ := postStatus_first hown hrun hawake
  refine ⟨htimer, fun hempty hlistens hquiet => ⟨b, (ownStatus_postStatus w).trans hown, ?_⟩⟩
  exact hfirst ((hqueue hquiet).trans hempty) (hlisten.trans hlistens)

/-- The parts that every start keeps. -/
theorem entered_keeps {s w : State} {ps : List Part} (h : s.entering.Touches ps w)
    (hp : ∀ p ∈ [Part.station, .image, .stationSeconds, .port, .mainOn, .resetHeld, .listenOnly], p ∉ ps) :
    let t := (postStatus w).replied 2 .ok []
    (w.station = .run ∧ w.image = s.image ∧ w.awake = s.awake ∧ w.line.listenOnly = s.line.listenOnly) ∧
    t.station = .run ∧ t.image = s.image ∧ t.stationSeconds = 0 ∧
    t.port = placeReply { s.port with startRefusal := none } 2 .ok [] := by
  have hstation : w.station = .run := h.same .station (hp _ (by decide))
  have himage : w.image = s.image := h.same .image (hp _ (by decide))
  have hseconds : w.stationSeconds = 0 := h.same .stationSeconds (hp _ (by decide))
  have hport : w.port = { s.port with startRefusal := none } := h.same .port (hp _ (by decide))
  have hmain : w.mainOn = s.mainOn := h.same .mainOn (hp _ (by decide))
  have hreset : w.resetHeld = s.resetHeld := h.same .resetHeld (hp _ (by decide))
  have hlisten : w.line.listenOnly = s.line.listenOnly := h.same .listenOnly (hp _ (by decide))
  exact ⟨⟨hstation, himage, by rw [State.awake, State.awake, hmain, hreset], hlisten⟩, hstation, himage, hseconds,
    congrArg (fun q => placeReply q 2 .ok []) hport⟩

/-- Settles O52: the validation in its order, then what each role's blocks are as they enter RUN. -/
theorem startValidatesAndEntersRun : Obligations.StartValidatesAndEntersRun := by
  unfold Obligations.StartValidatesAndEntersRun
  intro s hlistens
  dsimp only
  refine ⟨fun hrun => ?_, fun p hp => ?_, fun hstation => ⟨fun hnone => ?_, fun own hown =>
    ⟨fun hrole => ?_, fun hrole => ⟨fun hrated => ?_, fun hrated hcal => ?_, fun hrated hcal hstrap => ?_,
      fun hrated hcal hstrap hfull => ?_, fun hrated hcal hstrap hfull hready hbreaker hfault hheard hmode hopened hclosed => ?_⟩,
      fun hrole => ⟨fun hplaces => ?_, fun pos hplaces hone hlive hunload hdry => ?_⟩, fun hrole => ?_⟩⟩⟩
  · rw [exec_start hlistens, startAct_of_run hrun]
    rfl
  · rw [exec_start hlistens, startAct, ofLength_of_other (fun h => hp (List.length_eq_zero_iff.mp h))]
    rfl
  · exact exec_start_refused hlistens hstation (firstFailure_of_station hnone)
  · exact exec_start_refused hlistens hstation (firstFailure_of_no_role hown hrole)
  · refine exec_start_refused hlistens hstation ((firstFailure_of_set hown hrole).trans ?_)
    rw [setFailure, if_pos hrated]
  · exact exec_start_refused hlistens hstation ((firstFailure_of_set hown hrole).trans (setFailure_of_cal hrated hcal))
  · exact exec_start_refused hlistens hstation
      ((firstFailure_of_set hown hrole).trans (setFailure_of_strap hrated hcal hstrap))
  · refine exec_start_refused hlistens hstation ((firstFailure_of_set hown hrole).trans ?_)
    rw [setFailure_of_strapped hrated hcal hstrap, if_pos hfull]
  · have hvalid : firstFailure s.image = none := by
      rw [firstFailure_of_set hown hrole, setFailure_of_strapped hrated hcal hstrap, if_neg (Nat.not_le.mpr hfull)]
    have htouches : s.entering.Touches startParts (startSet s.entering) :=
      startSet_touches (fun v => (State.Touches.refl _ v).thenStartSetBill) s.entering s.image.startMode
    obtain ⟨hoff, hauto, hfeed, hfaults, hpulses, htank, hline, hrecords, hopen⟩ :=
      startSet_enters hready hbreaker hfault hheard hmode hopened hclosed
    rw [exec_start_taken hlistens hstation hvalid, enterRun_eq, startRole, show s.entering.image.role = _ from hrole]
    dsimp only
    generalize startSet s.entering = w at htouches hoff hauto hfeed hfaults hpulses htank hline hrecords hopen ⊢
    obtain ⟨⟨hrun, himage, hawake, hlisten⟩, hstation', himage', hseconds, hport⟩ := entered_keeps htouches (by decide)
    refine ⟨_, rfl, hstation', himage', hseconds, hport, hoff, hauto, hfeed, hfaults, hpulses, htank, ?_, hrecords, hopen⟩
    exact enters_posted ⟨_, by rw [himage]; exact hrole⟩ hrun (hawake.trans hlistens.1) hlisten
      (fun _ => congrArg LineCtl.queue hline)
  · refine exec_start_refused hlistens hstation ?_
    rw [firstFailure_of_board hown hrole, if_pos (posSetFails_iff.mpr hplaces)]
  · have hvalid : firstFailure s.image = none := by
      rw [firstFailure_of_board hown hrole, if_neg (fun h => hplaces (posSetFails_iff.mp h))]
    obtain ⟨htouches, hchg, hcurrent, hline⟩ := startBoard_enters hrole hone hlive hunload hdry
    rw [exec_start_taken hlistens hstation hvalid, enterRun_eq, startRole, show s.entering.image.role = _ from hrole]
    dsimp only
    generalize startBoard s.entering = w at htouches hchg hcurrent hline ⊢
    obtain ⟨⟨hrun, himage, hawake, hlisten⟩, hstation', himage', hseconds, hport⟩ := entered_keeps htouches (by decide)
    have hpeers : w.peers = s.peers := htouches.same .peers (by decide)
    have hstage : ∀ {α : Type} (f : Changeover → α), f w.chg = f (s.adoptedChg none) := fun f => congrArg f hchg
    refine ⟨_, rfl, hstation', himage', hseconds, hport, hstage Changeover.state, hstage Changeover.attempt,
      hstage Changeover.cmd, hstage Changeover.fault, hstage Changeover.dryNote, hpeers, hcurrent, ?_⟩
    exact enters_posted ⟨_, by rw [himage]; exact hrole⟩ hrun (hawake.trans hlistens.1) hlisten
      (fun hclaims => congrArg LineCtl.queue (hline hclaims))
  · rw [exec_start_taken hlistens hstation (firstFailure_of_tanker hown hrole), enterRun_eq, startRole,
      show s.entering.image.role = _ from hrole]
    dsimp only
    obtain ⟨⟨hrun, himage, hawake, hlisten⟩, hstation', himage', hseconds, hport⟩ :=
      entered_keeps (State.Touches.refl [] s.entering) (by decide)
    exact ⟨_, rfl, hstation', himage', hseconds, hport, rfl,
      enters_posted ⟨_, by rw [himage]; exact hrole⟩ hrun (hawake.trans hlistens.1) hlisten (fun _ => rfl)⟩

end Sys2Proof.Machine
end
